-- ==== Sys2Proof/Word.lean ====
section
/-! DEFINITION. The words and numbers of the part: bytes of the cabinet link, junction time, sets of groups, and the
numbers by which groups, stages, detectors, approaches and plan slots are named. -/

namespace Sys2Proof

/-- One byte of the cabinet link (R194). -/
abbrev Byte := BitVec 8

/-- Junction time: a count of tenths held in 32 bits, which wraps to 0 (section 2.1 of the manual). -/
abbrev JTime := BitVec 32

/-- A set of groups, coded as R206 codes it: bit 0 stands for group 1 and bit 23 for group 24. -/
abbrev GroupSet := BitVec 24

/-- A set over the seven fault sources of CMON, the source of code `k` at bit `k` (R206). -/
abbrev SourceSet := BitVec 7

/-- A set over the five demand sources, the source of code `k` at bit `k` (R206). -/
abbrev DemandSet := BitVec 5

/-- A signal group. The value `k` is the group the manual numbers `k + 1` (section 2.2). -/
abbrev GroupId := Fin 24

/-- A stage of a plan. The value `k` is the stage numbered `k + 1`. -/
abbrev StageId := Fin 16

/-- A detector. The value `k` is the detector, or channel, numbered `k + 1`. -/
abbrev DetId := Fin 32

/-- A tram approach. The value `k` is the approach numbered `k + 1`. -/
abbrev ApproachId := Fin 4

/-- A numbered plan slot. The value `k` is the slot numbered `k + 1`; slot 0 is the trial slot. -/
abbrev PlanSlot := Fin 16

/-- A plan slot as the link names it, 0 to 16, with 0 the trial slot. -/
abbrev SlotNo := Fin 17

end Sys2Proof
end

