-- ==== Sys2Proof/Config.lean ====
section
/-! DEFINITION. What the manual fixes for every part, what it leaves open (a constant with no body), and the bound
the model sets on the reactions of one command. -/

namespace Sys2Proof.Config

/-- The order of events that reach a block at the same moment, which the manual leaves open ("in either order",
R17, R75, R96, R98, R123, R170, R200), and of the offers of R106 at one running notice. A FREE VALUE: nothing constrains it. The model applies it to a counter of
State, so every choice may differ. DESIGN CHOICE, assumption 2. -/
opaque tieBreak : Nat → Nat

/-- How many reactions of one command are worked off before the command ends. Reactions left over (only an unending
chain of stage endings at one moment leaves any) are worked off with the next command. DESIGN CHOICE, assumption 4. -/
def reactionBound : Nat := 4096

/-- The period, in tenths, at which SGE repeats every lamp command: "at least once every 10 tenths" (R5).
DESIGN CHOICE, assumption 5. -/
def lampRepeatPeriod : Nat := 10

/-- The length of the power-on verification of the store (R178). -/
def verificationTime : Nat := 10

/-- The length of a plan store write (R182). -/
def planWriteTime : Nat := 20

/-- The length of a table write (R187). -/
def tableWriteTime : Nat := 40

/-- The period of CMON's comparison of the working tables (R165). -/
def comparisonPeriod : Nat := 50

/-- The restart window loaded by FAULT_CLEAR (R172). -/
def restartWindow : Nat := 6000

/-- The SAFE drop time (R171). -/
def safeDropTime : Nat := 30

/-- The time of silence after which a detector is SILENT (R48). -/
def detectorSilence : Nat := 30

/-- The time of silence after which a group's sense line is SENSE_SILENT (R165). -/
def senseSilence : Nat := 10

/-- The capacity of the reply queue (R193). -/
def replyCapacity : Nat := 4

/-- The capacity of the report queue (R193). -/
def reportCapacity : Nat := 48

/-- The capacity of a tram queue (R95) and of the call table (R108). -/
def queueCapacity : Nat := 4

end Sys2Proof.Config
end

