-- ==== Sys2Proof/Syntax.lean ====
section
/-! DEFINITION. The commands of the part: one constructor of `Instr` for each row of spec/opcode_table.json, with the
operands the row's rule gives it, and the types those operands need. An event of a timer names the group, detector,
approach or call whose timer it is. A request of the cabinet link carries its TAG (R197) and its fields as the link
carries them, so that a number out of its range can be given and is answered by the rule that owns it. -/

namespace Sys2Proof

/-- The kind of a present group (R3). -/
inductive Kind where
  | vehicle | pedestrian | tram | arrow
  deriving DecidableEq, Repr

/-- The kind of a detector (R43). -/
inductive DetKind where
  | unused | demand | extend | demandExtend | button | tramIn | tramOut | count
  deriving DecidableEq, Repr

/-- The fault mode a plan sets for a detector (R43). -/
inductive FaultMode where
  | demandOn | quiet
  deriving DecidableEq, Repr

/-- How the sequence list is scanned (R63). -/
inductive SeqMode where
  | cyclic | ranked
  deriving DecidableEq, Repr

/-- The sections of a plan (R179). -/
inductive PlanSectionName where
  | stages | sequence | groupTimesA | groupTimesB | detectorsA | detectorsB | priority
  deriving DecidableEq, Repr

/-- The sections of the safety tables (R186); `ig k` is the section IG_(k+1). -/
inductive TableSectionName where
  | groups | conflicts | ig (k : Fin 4) | monitorStart
  deriving DecidableEq, Repr

/-- Which copy of the tables TABLE_READ names (R192). -/
inductive TableCopy where
  | inForce | draft
  deriving DecidableEq, Repr

/-- The timings of one group in a plan (R179). -/
structure GroupTimes where
  ming : Nat
  maxg : Nat
  gap : Nat
  maxwait : Nat
  recallOn : Bool
  deriving DecidableEq, Repr

/-- One entry of a SEQUENCE section as given: a stage number and its ALWAYS flag (R63). -/
structure RawEntry where
  stage : Nat
  always : Bool
  deriving DecidableEq, Repr

/-- A SEQUENCE section as given. `count` is the number of entries it lists and `entries` the entries themselves, of
which the link carries sixteen places (assumption 12). -/
structure RawSequence where
  count : Nat
  entries : List RawEntry
  mode : SeqMode
  startStage : Nat
  resumeMin : Nat
  deriving DecidableEq, Repr

/-- The settings of one detector as given (R43). -/
structure RawDetector where
  kind : DetKind
  groups : GroupSet
  approach : Nat
  faultMode : FaultMode
  stuckOn : Nat
  stuckOff : Nat
  ringLength : Nat
  edgeReporting : Bool
  deriving DecidableEq, Repr

/-- The settings of one tram approach as given (R93). -/
structure RawApproach where
  present : Bool
  tramGroup : Nat
  priorityStage : Nat
  run : Nat
  ext : Nat
  tmax : Nat
  recovery : Nat
  checkinGuard : Nat
  deriving DecidableEq, Repr

/-- The contents a PLAN_SECTION request carries (R180). -/
inductive PlanSectionArg where
  | stages (sets : Vector GroupSet 16)
  | sequence (list : RawSequence)
  | groupTimesA (times : Vector GroupTimes 12)
  | groupTimesB (times : Vector GroupTimes 12)
  | detectorsA (dets : Vector RawDetector 16)
  | detectorsB (dets : Vector RawDetector 16)
  | priority (apps : Vector RawApproach 4)
  deriving DecidableEq, Repr

/-- The definition of one group in the safety tables (R24). -/
structure GroupDef where
  present : Bool
  kind : Kind
  close : Nat
  opent : Nat
  deriving DecidableEq, Repr

/-- One row of the intergreen matrix: for each group b the entry IG[e][b], or none (R26). -/
abbrev IgRow := Vector (Option Nat) 24

/-- The monitor settings and start-up values (R27). -/
structure MonitorStart where
  fatal : SourceSet
  mtol : Nat
  startFlash : Nat
  startClear : Nat
  autostart : Bool
  deriving DecidableEq, Repr

/-- The contents a TABLE_SECTION request carries (R186). -/
inductive TableSectionArg where
  | groups (defs : Vector GroupDef 24)
  | conflicts (rows : Vector GroupSet 24)
  | ig (k : Fin 4) (rows : Vector IgRow 6)
  | monitorStart (values : MonitorStart)
  deriving DecidableEq, Repr

/-- A command of the part, one constructor for each row of spec/opcode_table.json. -/
inductive Instr where
  -- resets and the store's verification
  | powerOnReset
  | verificationEnd
  -- the detector line and the detectors' timers
  | detectorWord (channel : Nat) (occupied cardFault passesParity : Bool)
  | silenceConfirmed (d : DetId)
  | stuckLimitReached (d : DetId)
  -- the groups' timers
  | clearanceCountdown (g : GroupId)
  | openingExpiry (g : GroupId)
  | minCompletion (g : GroupId)
  | gapTimerExpiry (g : GroupId)
  | maxGreenReached (g : GroupId)
  | closingExpiry (g : GroupId)
  | lampCommandRepeat
  -- the sequencer's timers
  | groupOverdue (g : GroupId)
  | endCountdownExpiry
  | manualHoldExpiry
  -- the priority unit's timers
  | tramTimeout (a : ApproachId)
  | recoveryExpiry (a : ApproachId)
  | guardExpiry (a : ApproachId)
  | capExpiry (a : ApproachId)
  | callHoldExpiry (id : Nat)
  -- start-up
  | startFlashingExpiry
  | allRedExpiry
  -- the monitor
  | lampSenseRecord (group : Nat) (red amber go redCurrent passesParity : Bool)
  | mismatchTimerExceeds (g : GroupId)
  | senseSilence (g : GroupId)
  | integrityComparison
  | safeDrop
  | restartWindowEnd
  -- the store
  | planWriteDone
  | tableWriteDone
  -- the cabinet link
  | receiveGapTimeout
  | linkByte (byte : Byte) (framingError : Bool)
  | transmitComplete
  -- queries
  | status (tag : Byte)
  | groups (tag : Byte) (part : Nat)
  | detector (tag : Byte) (detector : Nat)
  | trams (tag : Byte)
  | calls (tag : Byte)
  | faults (tag : Byte) (part : Nat)
  | stack (tag : Byte)
  | planRead (tag : Byte) (slot : Nat) (sect : PlanSectionName)
  | tableRead (tag : Byte) (copy : TableCopy) (sect : TableSectionName)
  -- control
  | modeRequest (tag : Byte) (mode : Nat)
  | manualPost (tag : Byte) (stage hold : Nat)
  | planSelect (tag : Byte) (slot : Nat)
  | demandPlace (tag : Byte) (group : Nat)
  | detectorMask (tag : Byte) (detector : Nat) (set : Bool)
  | tramIn (tag : Byte) (approach : Nat) (vehicle eta : Option Nat)
  | tramOut (tag : Byte) (approach : Nat)
  | callPlace (tag : Byte) (id level target eta hold : Nat)
  | callCancel (tag : Byte) (id : Nat)
  | faultClear (tag : Byte)
  | restart (tag : Byte)
  | linkSet (tag : Byte) (af : Nat)
  -- store requests
  | planSection (tag : Byte) (contents : PlanSectionArg)
  | planStore (tag : Byte) (slot : Nat)
  | tableSection (tag : Byte) (contents : TableSectionArg)
  | tableCommit (tag : Byte)
  | tableLock (tag : Byte)
  | tableUnlock (tag : Byte)
  | protectSet (tag : Byte) (p : Nat)
  | startPlanSet (tag : Byte) (slot : Nat)
  -- the monitor's and the priority unit's ages
  | shadowClearanceFallsToMtol (g : GroupId)
  | ageReversesOrder
  deriving DecidableEq, Repr

end Sys2Proof
end

