-- ==== Sys2Proof/Decode.lean ====
section
/-! DEFINITION. The command a word of the opcode table spells. -/

namespace Sys2Proof

/-- The table of commands gives bits to no row: a command is an event, a record of a line, or a request whose frame
LNK assembles byte by byte (`Machine.receiveByte`). No word spells a command (assumption 24). -/
def decodeTableWord (_nbits _w : Nat) : Option Instr := none

end Sys2Proof
end

