-- ==== Sys2Proof/Machine/State.lean ====
section
/-! DEFINITION. The state of the part: one record for each of its eight blocks, its pins, the reactions of the command
in hand, and the queue of waiting commands; the state right after reset; and the reasons a step can stop. Every field
cites the rule that names it. A field the model adds of its own says so ("the model's own"). -/

namespace Sys2Proof.Machine

/-! ## Signal Group Engine (SGE) -/

/-- The state of a group in its aspect sequence (R1). `opened` is the manual's OPEN. -/
inductive GroupState where
  | dark | closed | opening | opened | closing | flash
  deriving DecidableEq, Repr

/-- How far the extension of an opening has gone (R1). -/
inductive ExtStatus where
  | running | gapped | maxed
  deriving DecidableEq, Repr

/-- The resume values an open command may carry (R1, R7, R135). -/
structure Override where
  ming : Nat
  maxg : Nat
  deriving DecidableEq, Repr

/-- The record of one group (R1). -/
structure GroupRec where
  state : GroupState := .dark
  openPending : Bool := false
  closePending : Bool := false
  override : Option Override := none
  phaseTimer : Nat := 0
  openElapsed : Nat := 0
  mgRem : Nat := 0
  gapTimer : Nat := 0
  ext : ExtStatus := .running
  effMing : Nat := 0
  effMaxg : Nat := 0
  cr : Nat := 0
  hold : Bool := false
  wait : Bool := false
  extInput : Bool := false
  /-- The model's own: min completion of this opening has been taken ("Min completion is not repeated within one
  opening", R14). -/
  minDone : Bool := false
  deriving DecidableEq, Repr

/-- The aspects of R4. -/
inductive Aspect where
  | allOff
  | red | redWalker | stopBar | arrowOff
  | redAmber | prepare
  | green | greenWalker | proceedBar | greenArrow
  | amber | flashingWalker | stopIfAble
  | flashingAmber
  deriving DecidableEq, Repr

/-- A lamp command: the group, the aspect to show, and the wait indicator as shown (R5). -/
structure LampCommand where
  group : GroupId
  aspect : Aspect := .allOff
  wait : Bool := false
  deriving DecidableEq, Repr

/-- What SGE holds. -/
structure Sge where
  recs : Vector GroupRec 24
  /-- The last lamp command sent for each group: its aspect is the "commanded aspect" (R5). -/
  lamps : Vector LampCommand 24
  /-- The model's own: the lamp commands the command in hand has put on the lamp drive line, in order. -/
  lampLine : List LampCommand
  /-- Tenths until SGE next repeats every lamp command (R5). -/
  lampRepeat : Nat
  deriving DecidableEq, Repr

/-! ## Detector Interface (DTI) -/

/-- The fault conditions of a detector, in the order in which the cause is shown (R45). -/
inductive DetCond where
  | card | parity | silent | stuckOn | stuckOff
  deriving DecidableEq, Repr

/-- One entry of a history ring (R58): whether the edge was OCCUPIED, and when it was accepted. -/
structure RingEntry where
  occupied : Bool
  time : JTime
  deriving DecidableEq, Repr

/-- The record of one detector (R42). Health and fault cause follow from the conditions and the kind (R45) and are
computed where they are read. -/
structure DetRec where
  occupied : Bool := false
  settled : Bool := false
  card : Bool := false
  parity : Bool := false
  silent : Bool := true
  stuckOn : Bool := false
  stuckOff : Bool := false
  sinceChange : Nat := 0
  silence : Nat := 0
  parityRun : Nat := 0
  goodRun : Nat := 0
  mask : Bool := false
  count : Nat := 0
  ring : List RingEntry := []
  deriving DecidableEq, Repr

/-- What DTI holds: the 32 records, and the extension input (R54) and fault demand input (R51) it keeps of every
group. -/
structure Dti where
  recs : Vector DetRec 32
  ext : GroupSet
  fault : GroupSet
  deriving DecidableEq, Repr

/-! ## Stage Sequencer (SEQ) -/

/-- The sources of a demand, coded in this order (R66). -/
inductive DemandSource where
  | detector | link | recalled | fault | button
  deriving DecidableEq, Repr

/-- One entry of the demand table (R66). -/
structure Demand where
  latched : Bool := false
  sources : DemandSet := 0
  wait : Nat := 0
  deriving DecidableEq, Repr

/-- A request reference (R118): a tram record by approach and tag, or a call by its identifier. -/
inductive ReqRef where
  | tram (a : ApproachId) (tag : Nat)
  | call (id : Nat)
  deriving DecidableEq, Repr

/-- A resume record (R131). -/
structure ResumeRec where
  stage : StageId
  level : Nat
  dSaved : Nat
  budget : Nat
  request : Option ReqRef
  deriving DecidableEq, Repr

/-- The status of the current stage (R65). -/
inductive StageStatus where
  | transition | running
  deriving DecidableEq, Repr

/-- What SEQ holds (R65). -/
structure Seq where
  activeSlot : Option SlotNo := none
  current : Option StageId := none
  groups : GroupSet := 0
  status : Option StageStatus := none
  level : Nat := 0
  starting : GroupSet := 0
  position : Nat := 0
  holdFreeSeen : Bool := false
  h : Option Nat := none
  mark : Option StageId := none
  demand : Vector Demand 24 := Vector.replicate 24 {}
  manualSlot : Option (StageId × Nat) := none
  manualHold : Option Nat := none
  pendingPlan : Option SlotNo := none
  /-- The resume stack, the newest record (the top) first. -/
  stack : List ResumeRec := []
  /-- The model's own: the result of the last readiness test, by which "the stage becomes ready" (R74) is known. -/
  knownReady : Bool := false
  /-- The model's own: the current stage was taken from a resume record, which R136 asks at its running notice. -/
  resumed : Bool := false
  /-- The model's own: the groups that became overdue in the last tenth and whose GROUP_OVERDUE SEQ has yet to take
  (assumptions 32 and 44). -/
  overdueAwaited : GroupSet := 0
  deriving DecidableEq, Repr

/-! ## Priority Unit (PRI) -/

/-- How a tram was checked in, or a check-out made (R92, R95). -/
inductive TramSource where
  | loop | link
  deriving DecidableEq, Repr

/-- The state of a tram record (R95). -/
inductive TramState where
  | waiting | serving | served
  deriving DecidableEq, Repr

/-- A tram record (R95). -/
structure TramRec where
  tag : Nat
  source : TramSource
  vehicle : Option Nat
  checkIn : JTime
  eta : Nat
  age : Nat
  state : TramState
  deriving DecidableEq, Repr

/-- The episode of an approach (R101). -/
inductive Episode where
  | idle | planned | serving | recovering
  deriving DecidableEq, Repr

/-- A tram approach record (R94). The queue has its head first. -/
structure Approach where
  queue : List TramRec := []
  episode : Episode := .idle
  recovery : Nat := 0
  checkinGuard : Nat := 0
  nextTag : Nat := 1
  deriving DecidableEq, Repr

/-- The level of a call (R108). -/
inductive CallLevel where
  | bus | emergency
  deriving DecidableEq, Repr

/-- The state of a call (R108). -/
inductive CallState where
  | waiting | serving
  deriving DecidableEq, Repr

/-- A call of the call table (R108). -/
structure Call where
  id : Nat
  level : CallLevel
  target : StageId
  eta : Nat
  hold : Nat
  remaining : Nat
  age : Nat
  state : CallState
  servingStage : Option StageId
  /-- The model's own: an insertion plan has been made for this call, so that PLANNED is reported once (R126). -/
  planned : Bool
  deriving DecidableEq, Repr

/-- The extension cap of an approach (R118). -/
inductive Cap where
  | absent | armed | loaded (n : Nat)
  deriving DecidableEq, Repr

/-- A service that holds a group (R129). -/
inductive Holder where
  | approach (a : ApproachId)
  | call (id : Nat)
  deriving DecidableEq, Repr

/-- A plan record of the planner (R118). -/
structure PlanRec where
  subject : ReqRef
  level : Nat
  stage : StageId
  prio : StageId
  d : Nat
  tTrans : Nat
  l : Nat
  h : Nat
  deriving DecidableEq, Repr

/-- What PRI holds (R94, R108, R118). -/
structure Pri where
  approaches : Vector Approach 4 := Vector.replicate 4 {}
  calls : List Call := []
  standing : Option PlanRec := none
  caps : Vector Cap 4 := Vector.replicate 4 .absent
  holders : Vector (List Holder) 24 := Vector.replicate 24 []
  own : Option ReqRef := none
  rulingHeld : Option ReqRef := none
  deriving DecidableEq, Repr

/-! ## Junction Mode Controller (JMC) -/

/-- The junction modes, coded in this order (R139). -/
inductive Mode where
  | dark | flash | startup | normal | manual | clearing
  deriving DecidableEq, Repr

/-- Why the junction is dark (R139). -/
inductive DarkCause where
  | verifying | noTables | requested | safeDropped
  deriving DecidableEq, Repr

/-- The phases of start-up (R139). -/
inductive Phase where
  | startFlashing | allRed | firstStage
  deriving DecidableEq, Repr

/-- What JMC holds (R139). -/
structure Jmc where
  mode : Mode := .dark
  darkCause : Option DarkCause := some .verifying
  phase : Option Phase := none
  timer : Nat := 0
  firstRunning : Bool := false
  safeRequest : Bool := false
  deriving DecidableEq, Repr

/-! ## Conflict Monitor (CMON) -/

/-- The seven fault sources, in the order of R167. -/
inductive FaultSource where
  | conflictGo | intergreenShort | goMismatch | aspectMismatch | redOut | senseSilent | tableIntegrity
  deriving DecidableEq, Repr

/-- A condition of a fault source for its subject (R162 to R165). -/
inductive Cond where
  | conflictGo (g h : GroupId)
  | intergreenShort (g : GroupId)
  | goMismatch (g : GroupId)
  | aspectMismatch (g : GroupId)
  | redOut (g : GroupId)
  | senseSilent (g : GroupId)
  | tableIntegrity
  deriving DecidableEq, Repr

/-- What CMON keeps of one group: its sensed lamps with their arrival time and the silence timer (R160), the shadow
clearance and its source (R161), and the mismatch timers (R164). -/
structure MonRec where
  red : Bool := false
  amber : Bool := false
  go : Bool := false
  redCurrent : Bool := false
  arrival : JTime := 0
  silence : Nat := 0
  scr : Nat := 0
  source : Option GroupId := none
  goTimer : Nat := 0
  aspectTimer : Nat := 0
  redTimer : Nat := 0
  deriving DecidableEq, Repr

/-- The first fault of the fault record (R168): a source, 0 to 2 groups and a junction time. -/
structure FirstFault where
  source : FaultSource
  groups : List GroupId
  time : JTime
  deriving DecidableEq, Repr

/-- What CMON holds (R160 to R168). -/
structure Cmon where
  recs : Vector MonRec 24 := Vector.replicate 24 {}
  first : Option FirstFault := none
  latched : SourceSet := 0
  window : Nat := 0
  lockout : Bool := false
  safeDropped : Bool := false
  dropTimer : Nat := 0
  /-- The condition TABLE_INTEGRITY is present (R165). -/
  integrity : Bool := false
  /-- Tenths left of the comparison in progress; 0 while none is made (R165). -/
  compareTimer : Nat := 0
  /-- The model's own: the conditions that were present and checked when CMON last looked, by which an occurrence
  ("becomes present while the source is checked", R167) is known. -/
  counted : List Cond := []
  deriving DecidableEq, Repr

/-! ## Plan and Table Store (PTS) -/

/-- One entry of a sequence list (R63). -/
structure SeqEntry where
  stage : StageId
  always : Bool
  deriving DecidableEq, Repr

/-- A SEQUENCE section as held (R179). -/
structure SeqSection where
  entries : List SeqEntry
  mode : SeqMode
  startStage : StageId
  resumeMin : Nat
  deriving DecidableEq, Repr

/-- The settings of a detector as held (R43). -/
structure DetSettings where
  kind : DetKind
  groups : GroupSet
  approach : ApproachId
  faultMode : FaultMode
  stuckOn : Nat
  stuckOff : Nat
  ringLength : Nat
  edgeReporting : Bool
  deriving DecidableEq, Repr

/-- The settings of a tram approach as held (R93). -/
structure AppSettings where
  present : Bool
  tramGroup : GroupId
  priorityStage : StageId
  run : Nat
  ext : Nat
  tmax : Nat
  recovery : Nat
  checkinGuard : Nat
  deriving DecidableEq, Repr

/-- A complete plan: the seven sections of R179, halves joined. -/
structure Plan where
  stages : Vector GroupSet 16
  sequence : SeqSection
  timesA : Vector GroupTimes 12
  timesB : Vector GroupTimes 12
  detsA : Vector DetSettings 16
  detsB : Vector DetSettings 16
  priority : Vector AppSettings 4
  deriving DecidableEq, Repr

/-- The trial slot: each section present or absent (R179). -/
structure Trial where
  stages : Option (Vector GroupSet 16) := none
  sequence : Option SeqSection := none
  timesA : Option (Vector GroupTimes 12) := none
  timesB : Option (Vector GroupTimes 12) := none
  detsA : Option (Vector DetSettings 16) := none
  detsB : Option (Vector DetSettings 16) := none
  priority : Option (Vector AppSettings 4) := none
  deriving DecidableEq, Repr

/-- The safety tables (R24 to R27). -/
structure Tables where
  groups : Vector GroupDef 24
  conflicts : Vector GroupSet 24
  ig : Vector (Vector IgRow 6) 4
  monitor : MonitorStart
  deriving DecidableEq, Repr

/-- The table draft: each section present or absent (R186). -/
structure Draft where
  groups : Option (Vector GroupDef 24) := none
  conflicts : Option (Vector GroupSet 24) := none
  ig : Vector (Option (Vector IgRow 6)) 4 := Vector.replicate 4 none
  monitor : Option MonitorStart := none
  deriving DecidableEq, Repr

/-- The states of a numbered slot (R177). -/
inductive SlotState where
  | empty | writing | valid | invalid
  deriving DecidableEq, Repr

/-- A numbered slot: its state, what the store holds there, and whether those contents pass their integrity check.
`intact` is the store medium's own condition, which nothing in the part worsens (assumption 9). -/
structure Slot where
  state : SlotState := .empty
  contents : Option Plan := none
  intact : Bool := true
  deriving DecidableEq, Repr

/-- One non-volatile table area: the tables and the check value stored with them (R165, R188). -/
structure StoredTables where
  tables : Tables
  check : BitVec 16
  deriving DecidableEq, Repr

/-- The target of a store write with the copy being written (R182, R187). -/
inductive WriteTarget where
  | slot (n : PlanSlot) (copy : Plan)
  | tables (copy : Tables)
  deriving DecidableEq, Repr

/-- The write in flight (R177). -/
structure Write where
  target : WriteTarget
  remaining : Nat
  deriving DecidableEq, Repr

/-- What PTS holds (R177 to R188). -/
structure Pts where
  slots : Vector Slot 16 := Vector.replicate 16 {}
  areas : Vector (Option StoredTables) 2 := Vector.replicate 2 none
  currentArea : Fin 2 := 0
  locked : Bool := false
  protect : Nat := 0
  startPlan : PlanSlot := 0
  write : Option Write := none
  /-- Tenths left of the power-on verification; absent when none runs (R178). -/
  verify : Option Nat := none
  tables : Option Tables := none
  trial : Trial := {}
  draft : Draft := {}
  /-- The active copy (R185); read only while SEQ's active plan slot is not none (R142). -/
  activeCopy : Option Plan := none
  /-- The count of fields clamped in the active copy (R185). -/
  clamped : Nat := 0
  deriving DecidableEq, Repr

/-! ## Link Interface (LNK) -/

/-- The reply statuses (section 10.5), coded in this order. -/
inductive Status where
  | ok | clamped | accepted | busy | wrongMode | locked | noStrap | protected' | activeSlot | incomplete | invalid
  | conflict | range | full | duplicate | notFound | malformed | unknown | faultLatched | faultPersists
  deriving DecidableEq, Repr

/-- The markers of a reply (R206). -/
structure Markers where
  requestsLost : Bool := false
  replaced : Bool := false
  updated : Bool := false
  nothing : Bool := false
  noTables : Bool := false
  deriving DecidableEq, Repr

/-- A reply: the KIND and TAG of its frame, its status and markers, and the bytes of the items its rule names. -/
structure Reply where
  kind : Byte
  tag : Byte
  status : Status
  markers : Markers := {}
  items : List Byte := []
  deriving DecidableEq, Repr

/-- Why the mode changed (R140). -/
inductive ModeCause where
  | tables | request | autostart | phase | startupDone | cleared | fault | safeDropped | restart
  deriving DecidableEq, Repr

/-- The action of a FAULT report (R169). -/
inductive FaultAction where
  | flashForced | latched | safeDropped
  deriving DecidableEq, Repr

/-- The cause of a stage change (R80). -/
inductive StageCause where
  | startup | ready | priority | truncated | resume | manual
  deriving DecidableEq, Repr

/-- The event of a PRIORITY_EVENT report (R92). -/
inductive PriorityEvent where
  | checkedIn | checkinRefused | planned | serving | checkedOut | checkoutUnexpected | lost | served | dropped
  deriving DecidableEq, Repr

/-- The subject of a PRIORITY_EVENT report (R92). -/
inductive Subject where
  | tram (a : ApproachId)
  | call (id : Nat)
  deriving DecidableEq, Repr

/-- The target of a STORE_DONE report (R184, R188). -/
inductive StoreTarget where
  | slot (n : PlanSlot)
  | tables
  deriving DecidableEq, Repr

/-- The outcome of a STORE_DONE report (R184). -/
inductive StoreOutcome where
  | done | abandoned
  deriving DecidableEq, Repr

/-- The outcome of a PLAN_CHANGED report (R85). -/
inductive PlanOutcome where
  | taken | discarded | invalidated
  deriving DecidableEq, Repr

/-- The kinds of report with their fields (section 10.5). -/
inductive ReportBody where
  | modeChanged (before after : Mode) (phase : Option Phase) (darkCause : Option DarkCause) (cause : ModeCause)
  | fault (source : FaultSource) (groups : List GroupId) (fatal : Bool) (action : FaultAction) (first lockoutSet : Bool)
  | stageChange (ended : Option StageId) (chosen : StageId) (cause : StageCause) (level : Nat)
  | priorityEvent (event : PriorityEvent) (subject : Subject) (tag : Option Nat) (source : Option TramSource)
      (vehicle : Option Nat) (state : Option TramState)
  | detectorHealth (d : DetId) (cause : Option DetCond) (conditions : List DetCond)
  | storeDone (target : StoreTarget) (outcome : StoreOutcome)
  | planChanged (before : Option SlotNo) (named : SlotNo) (outcome : PlanOutcome)
  | manualTaken (stage : StageId) (hold : Nat) (current : Option StageId) (kept : Bool)
  | noTables
  | noValidPlan
  | detectorEdge (d : DetId) (occupied : Bool) (delivered : Bool)
  | demandLatched (g : GroupId) (source : DemandSource)
  deriving DecidableEq, Repr

/-- A report record (R200). -/
structure Report where
  time : JTime
  body : ReportBody
  deriving DecidableEq, Repr

/-- The frame in transmission (R193); a report carries the loss marker it was begun with (R203). -/
inductive TxFrame where
  | reply (r : Reply)
  | report (r : Report) (loss : Bool)
  deriving DecidableEq, Repr

/-- The link rate (R193). -/
inductive LinkRate where
  | slow38400 | fast115200
  deriving DecidableEq, Repr

/-- The receive state (R193): hunting, or assembling with the bytes received so far, START first. -/
inductive RxState where
  | hunting
  | assembling (bytes : List Byte)
  deriving DecidableEq, Repr

/-- What LNK holds (R193). -/
structure Lnk where
  rate : LinkRate := .slow38400
  rx : RxState := .hunting
  replies : List Reply := []
  requestsLost : Bool := false
  reports : List Report := []
  loss : Bool := false
  af : Nat := 40
  tx : Option TxFrame := none
  deriving DecidableEq, Repr

/-- The straps, inputs of the cabinet (section 1.1). -/
structure Pins where
  commission : Bool := false
  linkRate : Bool := false
  deriving DecidableEq, Repr

/-! ## The reactions of a command -/

/-- A notice between blocks that the command in hand has still to work off. The model's own: the manual's notices
reach their blocks at the moment they are sent; the model takes them one after another (assumption 3). -/
inductive Notice where
  /-- SGE's entry notice to SEQ and PRI (R10). -/
  | entered (g : GroupId)
  /-- SGE's leaving notice to SEQ and PRI (R12, R20). -/
  | left (g : GroupId)
  /-- SGE's closed notice to SEQ, and the admission test with it (R13). -/
  | closed (g : GroupId)
  /-- SEQ tests readiness (R71, R73). -/
  | retest
  /-- An event of R74 at which SEQ makes its choice if the stage is ready. -/
  | choose
  /-- SEQ's running notice to PRI and JMC (R82). -/
  | running (t : StageId)
  /-- PRI determines the ruling request anew (R91). -/
  | redetermine
  /-- The end countdown has been set to 0, which is its expiry (R75). -/
  | endExpiry
  /-- A cap has been loaded with an EXT of 0, which is its expiry (R123). -/
  | capExpiry (a : ApproachId)
  /-- JMC looks at the states of the groups and the first stage (R147, R148, R151). -/
  | watch
  /-- CMON looks at its conditions (R167). -/
  | evaluate
  deriving DecidableEq, Repr

/-! ## The whole state -/

/-- The state of the part. -/
structure State where
  /-- The commands that wait, first in, first out. -/
  pending : List Instr
  /-- The reactions of the command in hand; empty between commands (assumption 4). -/
  notices : List Notice
  /-- The model's own: how many times the free order `Config.tieBreak` has been read. -/
  tie : Nat
  /-- Junction time (section 2.1). -/
  time : JTime
  pins : Pins
  sge : Sge
  dti : Dti
  seq : Seq
  pri : Pri
  cmon : Cmon
  jmc : Jmc
  pts : Pts
  lnk : Lnk
  deriving DecidableEq, Repr

/-- Why the machine would stop with a fault. No command of this part has such an end: the manual gives every command
an effect in every state, so the type has no constructor. -/
inductive Fault where
  deriving DecidableEq, Repr

/-- Why a command has no meaning. -/
inductive Refusal where
  /-- Raised only by an arm of `exec` whose command is not modelled yet; safe, since the machine stops. No arm of this
  model raises it. -/
  | notModelled (mnemonic : String)
  deriving DecidableEq, Repr

/-- Every group's lamp command as it stands after a reset: DARK (R1). -/
def darkLamps : Vector LampCommand 24 := Vector.ofFn fun g => { group := g }

/-- SGE after a reset (R1), its lamp commands for DARK just sent, in ascending group number. DESIGN CHOICE (assumption 36). -/
def Sge.reset : Sge where
  recs := Vector.replicate 24 {}
  lamps := darkLamps
  lampLine := darkLamps.toList
  lampRepeat := Config.lampRepeatPeriod

/-- DTI after a reset (R42, R62). -/
def Dti.reset : Dti where
  recs := Vector.replicate 32 {}
  ext := 0
  fault := 0

/-- The part right after its first power-on reset, with a store that has never been written (R177), the verification
just begun (R178), and both straps not asserted (assumption 6). -/
def State.reset : State where
  pending := []
  notices := []
  tie := 0
  time := 0
  pins := {}
  sge := Sge.reset
  dti := Dti.reset
  seq := {}
  pri := {}
  cmon := {}
  jmc := {}
  pts := { verify := some Config.verificationTime }
  lnk := {}

end Sys2Proof.Machine
end

