-- ==== Sys2Proof/Machine/Operands.lean ====
section
/-! DEFINITION. The forms of operand the manual gives: numbers of groups, stages, detectors, approaches and slots read
into their names, sets of groups, the clamps of chapter 9, and the codes of R206. -/

namespace Sys2Proof

/-! ## Codes of the enumerations of the commands (R206), and what R3 fixes for a kind -/

def Kind.code : Kind → Nat
  | .vehicle => 0 | .pedestrian => 1 | .tram => 2 | .arrow => 3

def Kind.ofCode : Nat → Option Kind
  | 0 => some .vehicle | 1 => some .pedestrian | 2 => some .tram | 3 => some .arrow | _ => none

def DetKind.code : DetKind → Nat
  | .unused => 0 | .demand => 1 | .extend => 2 | .demandExtend => 3 | .button => 4 | .tramIn => 5 | .tramOut => 6
  | .count => 7

def DetKind.ofCode : Nat → Option DetKind
  | 0 => some .unused | 1 => some .demand | 2 => some .extend | 3 => some .demandExtend | 4 => some .button
  | 5 => some .tramIn | 6 => some .tramOut | 7 => some .count | _ => none

def FaultMode.code : FaultMode → Nat
  | .demandOn => 0 | .quiet => 1

def FaultMode.ofCode : Nat → Option FaultMode
  | 0 => some .demandOn | 1 => some .quiet | _ => none

def SeqMode.code : SeqMode → Nat
  | .cyclic => 0 | .ranked => 1

def SeqMode.ofCode : Nat → Option SeqMode
  | 0 => some .cyclic | 1 => some .ranked | _ => none

def PlanSectionName.ofCode : Nat → Option PlanSectionName
  | 0 => some .stages | 1 => some .sequence | 2 => some .groupTimesA | 3 => some .groupTimesB
  | 4 => some .detectorsA | 5 => some .detectorsB | 6 => some .priority | _ => none

def TableSectionName.ofCode : Nat → Option TableSectionName
  | 0 => some .groups | 1 => some .conflicts | 2 => some (.ig 0) | 3 => some (.ig 1) | 4 => some (.ig 2)
  | 5 => some (.ig 3) | 6 => some .monitorStart | _ => none

def TableCopy.ofCode : Nat → Option TableCopy
  | 0 => some .inForce | 1 => some .draft | _ => none

/-- The min green floor of a kind (R3). -/
def Kind.floor : Kind → Nat
  | .vehicle => 50 | .pedestrian => 40 | .tram => 30 | .arrow => 0

/-- The bounds of CLOSE that R29 accepts for a kind (R3). -/
def Kind.closeRange : Kind → Nat × Nat
  | .vehicle => (30, 60) | .pedestrian => (0, 200) | .tram => (0, 60) | .arrow => (0, 0)

/-- The bounds of OPENT that R29 accepts for a kind (R3). -/
def Kind.opentRange : Kind → Nat × Nat
  | .vehicle => (0, 30) | .pedestrian => (0, 0) | .tram => (0, 30) | .arrow => (0, 0)

/-- A detector of one of the kinds that raise demand (R53). -/
def DetKind.demanding (k : DetKind) : Bool := k = .demand || k = .demandExtend || k = .button

/-- A detector of one of the kinds that extend a green (R54). -/
def DetKind.extending (k : DetKind) : Bool := k = .extend || k = .demandExtend

end Sys2Proof

namespace Sys2Proof.Machine

/-! ## Numbers and names (section 2.2) -/

/-- The name of the thing numbered `k` among `n`, numbered from 1; none when `k` is outside 1 to `n`. -/
def numbered (n k : Nat) : Option (Fin n) :=
  if h : 1 ≤ k ∧ k ≤ n then some ⟨k - 1, by omega⟩ else none

/-- The number of a named thing (section 2.2: numbering starts at 1). -/
def number {n : Nat} (i : Fin n) : Nat := i.val + 1

/-- The group the number names, 1 to 24. -/
def groupNumbered (k : Nat) : Option GroupId := numbered 24 k

/-- The stage the number names, 1 to 16. -/
def stageNumbered (k : Nat) : Option StageId := numbered 16 k

/-- The detector the number names, 1 to 32. -/
def detectorNumbered (k : Nat) : Option DetId := numbered 32 k

/-- The approach the number names, 1 to 4. -/
def approachNumbered (k : Nat) : Option ApproachId := numbered 4 k

/-- The slot the number names, 0 to 16. -/
def slotNumbered (k : Nat) : Option SlotNo := if h : k < 17 then some ⟨k, h⟩ else none

/-- The numbered slot 1 to 16 that a slot name stands for; none for the trial slot. -/
def SlotNo.plan? (n : SlotNo) : Option PlanSlot := numbered 16 n.val

/-- The slot name of a numbered slot. -/
def slotOf (n : PlanSlot) : SlotNo := ⟨n.val + 1, by omega⟩

/-- All groups, stages, detectors, approaches and slots, each in number order. -/
def groupIds : List GroupId := List.finRange 24
def stageIds : List StageId := List.finRange 16
def detIds : List DetId := List.finRange 32
def approachIds : List ApproachId := List.finRange 4
def planSlots : List PlanSlot := List.finRange 16

/-! ## Sets of groups -/

/-- Group `g` is in the set. -/
def GroupSet.has (x : GroupSet) (g : GroupId) : Bool := x.getLsbD g.val

/-- The set of one group. -/
def GroupSet.only (g : GroupId) : GroupSet := BitVec.ofNat 24 (2 ^ g.val)

/-- "The groups of S not in T" (section 2.3). -/
def GroupSet.minus (s t : GroupSet) : GroupSet := s &&& ~~~t

/-- The set with a group put in or taken out. -/
def GroupSet.put (x : GroupSet) (g : GroupId) (isIn : Bool) : GroupSet :=
  if isIn then x ||| GroupSet.only g else GroupSet.minus x (GroupSet.only g)

/-- The groups of the set, in number order. -/
def GroupSet.members (x : GroupSet) : List GroupId := groupIds.filter fun g => GroupSet.has x g

/-- The set of the groups of a list: "A list of groups is coded as a set of groups" (R206). -/
def GroupSet.ofList (l : List GroupId) : GroupSet := l.foldl (fun x g => GroupSet.put x g true) 0

/-- How many groups the set holds. -/
def GroupSet.size (x : GroupSet) : Nat := (GroupSet.members x).length

/-- The largest of a list of numbers, 0 when there is none. -/
def largest (l : List Nat) : Nat := l.foldl max 0

/-! ## Codes of enumerations: "from 0 in the order their defining rule lists the values" (R206) -/

def GroupState.code : GroupState → Nat
  | .dark => 0 | .closed => 1 | .opening => 2 | .opened => 3 | .closing => 4 | .flash => 5

def ExtStatus.code : ExtStatus → Nat
  | .running => 0 | .gapped => 1 | .maxed => 2

def DetCond.code : DetCond → Nat
  | .card => 0 | .parity => 1 | .silent => 2 | .stuckOn => 3 | .stuckOff => 4

def DemandSource.code : DemandSource → Nat
  | .detector => 0 | .link => 1 | .recalled => 2 | .fault => 3 | .button => 4

def StageStatus.code : StageStatus → Nat
  | .transition => 0 | .running => 1

def TramSource.code : TramSource → Nat
  | .loop => 0 | .link => 1

def TramState.code : TramState → Nat
  | .waiting => 0 | .serving => 1 | .served => 2

def Episode.code : Episode → Nat
  | .idle => 0 | .planned => 1 | .serving => 2 | .recovering => 3

def CallLevel.code : CallLevel → Nat
  | .bus => 0 | .emergency => 1

def CallLevel.ofCode : Nat → Option CallLevel
  | 0 => some .bus | 1 => some .emergency | _ => none

/-- The level of a call: 1 for a bus, 3 for an emergency (section 5.1). -/
def CallLevel.level : CallLevel → Nat
  | .bus => 1 | .emergency => 3

def CallState.code : CallState → Nat
  | .waiting => 0 | .serving => 1

def Mode.code : Mode → Nat
  | .dark => 0 | .flash => 1 | .startup => 2 | .normal => 3 | .manual => 4 | .clearing => 5

def Mode.ofCode : Nat → Option Mode
  | 0 => some .dark | 1 => some .flash | 2 => some .startup | 3 => some .normal | 4 => some .manual
  | 5 => some .clearing | _ => none

def DarkCause.code : DarkCause → Nat
  | .verifying => 0 | .noTables => 1 | .requested => 2 | .safeDropped => 3

def Phase.code : Phase → Nat
  | .startFlashing => 0 | .allRed => 1 | .firstStage => 2

def FaultSource.code : FaultSource → Nat
  | .conflictGo => 0 | .intergreenShort => 1 | .goMismatch => 2 | .aspectMismatch => 3 | .redOut => 4
  | .senseSilent => 5 | .tableIntegrity => 6

/-- The seven sources in the order of R167. -/
def faultSources : List FaultSource :=
  [.conflictGo, .intergreenShort, .goMismatch, .aspectMismatch, .redOut, .senseSilent, .tableIntegrity]

def SlotState.code : SlotState → Nat
  | .empty => 0 | .writing => 1 | .valid => 2 | .invalid => 3

def Status.code : Status → Nat
  | .ok => 0 | .clamped => 1 | .accepted => 2 | .busy => 3 | .wrongMode => 4 | .locked => 5 | .noStrap => 6
  | .protected' => 7 | .activeSlot => 8 | .incomplete => 9 | .invalid => 10 | .conflict => 11 | .range => 12
  | .full => 13 | .duplicate => 14 | .notFound => 15 | .malformed => 16 | .unknown => 17 | .faultLatched => 18
  | .faultPersists => 19

def ModeCause.code : ModeCause → Nat
  | .tables => 0 | .request => 1 | .autostart => 2 | .phase => 3 | .startupDone => 4 | .cleared => 5 | .fault => 6
  | .safeDropped => 7 | .restart => 8

def FaultAction.code : FaultAction → Nat
  | .flashForced => 0 | .latched => 1 | .safeDropped => 2

def StageCause.code : StageCause → Nat
  | .startup => 0 | .ready => 1 | .priority => 2 | .truncated => 3 | .resume => 4 | .manual => 5

def PriorityEvent.code : PriorityEvent → Nat
  | .checkedIn => 0 | .checkinRefused => 1 | .planned => 2 | .serving => 3 | .checkedOut => 4
  | .checkoutUnexpected => 5 | .lost => 6 | .served => 7 | .dropped => 8

def StoreOutcome.code : StoreOutcome → Nat
  | .done => 0 | .abandoned => 1

def PlanOutcome.code : PlanOutcome → Nat
  | .taken => 0 | .discarded => 1 | .invalidated => 2

/-- The source is in the set (R206). -/
def SourceSet.has (x : SourceSet) (f : FaultSource) : Bool := x.getLsbD f.code

/-- The set with the source added. -/
def SourceSet.add (x : SourceSet) (f : FaultSource) : SourceSet := x ||| BitVec.ofNat 7 (2 ^ f.code)

/-- The demand source is in the set. -/
def DemandSet.has (x : DemandSet) (d : DemandSource) : Bool := x.getLsbD d.code

/-- The set with the demand source added. -/
def DemandSet.add (x : DemandSet) (d : DemandSource) : DemandSet := x ||| BitVec.ofNat 5 (2 ^ d.code)

/-! ## Clamps (R43, R64, R180) -/

/-- The value replaced by the nearest bound of its range (section 2.4). -/
def clampTo (lo hi v : Nat) : Nat := min (max v lo) hi

/-- A value whose range is 0, or `lo` to `hi`: 0 stays, any other value is clamped into `lo` to `hi` (R43, R64). -/
def clampNonzero (lo hi v : Nat) : Nat := if v = 0 then 0 else clampTo lo hi v

/-- 1 when the value written differs from the value given: "the count of clamped fields" (R180). -/
def changedBy (given written : Nat) : Nat := if given = written then 0 else 1

/-- The timings of one group clamped, with the count of fields changed (R180). `floor` is the min green floor, 0 for an
absent group. -/
def clampTimes (floor : Nat) (t : GroupTimes) : GroupTimes × Nat :=
  let ming := max (clampTo 0 600 t.ming) floor
  let maxg := clampTo ming 1200 t.maxg
  let gap := clampTo 0 100 t.gap
  let maxwait := clampNonzero 100 3000 t.maxwait
  ({ t with ming := ming, maxg := maxg, gap := gap, maxwait := maxwait },
    changedBy t.ming ming + changedBy t.maxg maxg + changedBy t.gap gap + changedBy t.maxwait maxwait)

/-- The timings of one detector clamped, with the count of fields changed (R43, R180). -/
def clampDetector (d : DetSettings) : DetSettings × Nat :=
  let on := clampNonzero 600 6000 d.stuckOn
  let off := clampNonzero 3000 36000 d.stuckOff
  let ring := clampTo 2 16 d.ringLength
  ({ d with stuckOn := on, stuckOff := off, ringLength := ring },
    changedBy d.stuckOn on + changedBy d.stuckOff off + changedBy d.ringLength ring)

/-- The timings of one approach clamped, with the count of fields changed (R93, R180). -/
def clampApproach (a : AppSettings) : AppSettings × Nat :=
  let run := clampTo 0 1200 a.run
  let ext := clampTo 0 300 a.ext
  let tmax := clampTo 100 3000 a.tmax
  let recovery := clampTo 0 1200 a.recovery
  let guardTime := clampTo 0 100 a.checkinGuard
  ({ a with run := run, ext := ext, tmax := tmax, recovery := recovery, checkinGuard := guardTime },
    changedBy a.run run + changedBy a.ext ext + changedBy a.tmax tmax + changedBy a.recovery recovery
      + changedBy a.checkinGuard guardTime)

/-- A SEQUENCE section clamped, with the count of fields changed (R180). -/
def clampSequence (q : SeqSection) : SeqSection × Nat :=
  let r := clampTo 0 200 q.resumeMin
  ({ q with resumeMin := r }, changedBy q.resumeMin r)

/-! ## Plans -/

/-- The timings of a group in a plan: groups 1–12 stand in GROUP_TIMES_A, groups 13–24 in GROUP_TIMES_B (R179). -/
def Plan.times (p : Plan) (g : GroupId) : GroupTimes :=
  if h : g.val < 12 then p.timesA[g.val] else p.timesB[g.val - 12]

/-- The settings of a detector in a plan: 1–16 stand in DETECTORS_A, 17–32 in DETECTORS_B (R179). -/
def Plan.det (p : Plan) (d : DetId) : DetSettings :=
  if h : d.val < 16 then p.detsA[d.val] else p.detsB[d.val - 16]

/-- The plan of a trial slot with all seven sections present (R179). -/
def Trial.complete? (t : Trial) : Option Plan := do
  let stages ← t.stages
  let sequence ← t.sequence
  let timesA ← t.timesA
  let timesB ← t.timesB
  let detsA ← t.detsA
  let detsB ← t.detsB
  let priority ← t.priority
  return { stages, sequence, timesA, timesB, detsA, detsB, priority }

/-- The tables of a draft with all seven sections present (R186). -/
def Draft.complete? (d : Draft) : Option Tables := do
  let groups ← d.groups
  let conflicts ← d.conflicts
  let i0 ← d.ig[0]
  let i1 ← d.ig[1]
  let i2 ← d.ig[2]
  let i3 ← d.ig[3]
  let monitor ← d.monitor
  return { groups, conflicts, ig := #v[i0, i1, i2, i3], monitor }

/-- The entry IG[e][b], or none (R26): row e stands in section IG_(e/6 + 1). -/
def Tables.igEntry (t : Tables) (e b : GroupId) : Option Nat :=
  let row : IgRow := (t.ig[e.val / 6]'(by omega))[e.val % 6]'(by omega)
  row[b]

/-! ## Bytes (R206) -/

/-- A number within 0–255 as one byte. -/
def byte1 (n : Nat) : List Byte := [BitVec.ofNat 8 n]

/-- A number within 0–65535 as two bytes, low byte first. -/
def byte2 (n : Nat) : List Byte := [BitVec.ofNat 8 n, BitVec.ofNat 8 (n / 256)]

/-- A junction time as four bytes, low byte first. -/
def byte4 (t : JTime) : List Byte :=
  [BitVec.ofNat 8 t.toNat, BitVec.ofNat 8 (t.toNat / 256), BitVec.ofNat 8 (t.toNat / 65536),
    BitVec.ofNat 8 (t.toNat / 16777216)]

/-- A yes/no field: 0 for no and 1 for yes. -/
def byteFlag (b : Bool) : List Byte := byte1 (if b then 1 else 0)

/-- A set of groups as three bytes, group 1 at bit 0 of the first. -/
def byteSet (x : GroupSet) : List Byte :=
  [BitVec.ofNat 8 x.toNat, BitVec.ofNat 8 (x.toNat / 256), BitVec.ofNat 8 (x.toNat / 65536)]

/-- An absent slot or enumeration is coded 0xFF. -/
def byteOptCode (c : Option Nat) : List Byte := byte1 (c.getD 0xFF)

/-- An absent stage or mark is coded 0. -/
def byteOptStage (s : Option StageId) : List Byte := byte1 (match s with | none => 0 | some t => number t)

/-- An absent two-byte countdown is coded 0xFFFF. -/
def byteOptCount (c : Option Nat) : List Byte := byte2 (c.getD 0xFFFF)

/-- The bytes of a list of things, one after another. -/
def bytesOf {α : Type} (f : α → List Byte) (l : List α) : List Byte := (l.map f).flatten

end Sys2Proof.Machine
end

