-- ==== Sys2Proof/Machine/Ops.lean ====
section
/-! DEFINITION. The named operations on State that every block uses: reading and writing each block's records, what is
read from the tables in force and the active plan, sending notices, and the free order of coinciding events. -/

namespace Sys2Proof.Machine

namespace State

/-! ## Writing one block's record -/

def onSge (s : State) (f : Sge → Sge) : State := { s with sge := f s.sge }
def onDti (s : State) (f : Dti → Dti) : State := { s with dti := f s.dti }
def onSeq (s : State) (f : Seq → Seq) : State := { s with seq := f s.seq }
def onPri (s : State) (f : Pri → Pri) : State := { s with pri := f s.pri }
def onCmon (s : State) (f : Cmon → Cmon) : State := { s with cmon := f s.cmon }
def onJmc (s : State) (f : Jmc → Jmc) : State := { s with jmc := f s.jmc }
def onPts (s : State) (f : Pts → Pts) : State := { s with pts := f s.pts }
def onLnk (s : State) (f : Lnk → Lnk) : State := { s with lnk := f s.lnk }

/-- Send a notice: it joins the reactions the command has still to work off (assumption 3). -/
def push (s : State) (n : Notice) : State := { s with notices := s.notices ++ [n] }

/-- SEQ's running notice is still to reach its blocks. -/
def runningAwaited (s : State) : Bool := s.notices.any fun n => match n with | .running _ => true | _ => false

/-- A leaving notice is still to reach its blocks. -/
def leavingAwaited (s : State) : Bool := s.notices.any fun n => match n with | .left _ => true | _ => false

/-! ## Reading and writing one record -/

/-- The record of a group (R1). -/
def grp (s : State) (g : GroupId) : GroupRec := s.sge.recs[g]

/-- Change the record of a group. -/
def onGrp (s : State) (g : GroupId) (f : GroupRec → GroupRec) : State :=
  s.onSge fun e => { e with recs := e.recs.set g (f e.recs[g]) }

/-- The record of a detector (R42). -/
def det (s : State) (d : DetId) : DetRec := s.dti.recs[d]

/-- Change the record of a detector. -/
def onDet (s : State) (d : DetId) (f : DetRec → DetRec) : State :=
  s.onDti fun e => { e with recs := e.recs.set d (f e.recs[d]) }

/-- The demand table entry of a group (R66). -/
def dem (s : State) (g : GroupId) : Demand := s.seq.demand[g]

/-- Change the demand table entry of a group. -/
def onDem (s : State) (g : GroupId) (f : Demand → Demand) : State :=
  s.onSeq fun q => { q with demand := q.demand.set g (f q.demand[g]) }

/-- The record of a tram approach (R94). -/
def app (s : State) (a : ApproachId) : Approach := s.pri.approaches[a]

/-- Change the record of a tram approach. -/
def onApp (s : State) (a : ApproachId) (f : Approach → Approach) : State :=
  s.onPri fun p => { p with approaches := p.approaches.set a (f p.approaches[a]) }

/-- The cap of an approach (R118). -/
def cap (s : State) (a : ApproachId) : Cap := s.pri.caps[a]

/-- Set the cap of an approach. -/
def setCap (s : State) (a : ApproachId) (c : Cap) : State := s.onPri fun p => { p with caps := p.caps.set a c }

/-- The services that hold a group (R129). -/
def holders (s : State) (g : GroupId) : List Holder := s.pri.holders[g]

/-- Set the services that hold a group. -/
def setHolders (s : State) (g : GroupId) (l : List Holder) : State :=
  s.onPri fun p => { p with holders := p.holders.set g l }

/-- The call with an identifier, if the table holds one (R108). -/
def call? (s : State) (id : Nat) : Option Call := s.pri.calls.find? fun c => c.id = id

/-- Change the call with an identifier. -/
def onCall (s : State) (id : Nat) (f : Call → Call) : State :=
  s.onPri fun p => { p with calls := p.calls.map fun c => if c.id = id then f c else c }

/-- What CMON keeps of a group (R160). -/
def mon (s : State) (g : GroupId) : MonRec := s.cmon.recs[g]

/-- Change what CMON keeps of a group. -/
def onMon (s : State) (g : GroupId) (f : MonRec → MonRec) : State :=
  s.onCmon fun c => { c with recs := c.recs.set g (f c.recs[g]) }

/-- The directory entry of a numbered slot (R177). -/
def slot (s : State) (n : PlanSlot) : Slot := s.pts.slots[n]

/-- Change the directory entry of a numbered slot. -/
def onSlot (s : State) (n : PlanSlot) (f : Slot → Slot) : State :=
  s.onPts fun p => { p with slots := p.slots.set n (f p.slots[n]) }

/-! ## Reading the tables in force (R24 to R28, R40) -/

/-- The definition of a group: absent while there are no tables in force (R28). -/
def groupDef (s : State) (g : GroupId) : GroupDef :=
  match s.pts.tables with
  | none => { present := false, kind := .vehicle, close := 0, opent := 0 }
  | some t => t.groups[g]

/-- The group is present (R2). -/
def present (s : State) (g : GroupId) : Bool := (s.groupDef g).present

/-- The kind of a group (R3). -/
def kind (s : State) (g : GroupId) : Kind := (s.groupDef g).kind

/-- The groups that conflict with a group (R25). -/
def conflicts (s : State) (g : GroupId) : GroupSet :=
  match s.pts.tables with
  | none => 0
  | some t => t.conflicts[g]

/-- The intergreen IG[e][b]; 0 for a pair that has none, which no rule reads (R26). -/
def ig (s : State) (e b : GroupId) : Nat :=
  match s.pts.tables with
  | none => 0
  | some t => (t.igEntry e b).getD 0

/-- The monitor settings and start-up values (R27). DESIGN CHOICE (assumption 45): while there are no tables in force FAULTS
shows MTOL 0 and an empty fatal-enable set, which no rule gives. -/
def monitorStart (s : State) : MonitorStart :=
  match s.pts.tables with
  | none => { fatal := 0, mtol := 0, startFlash := 0, startClear := 0, autostart := false }
  | some t => t.monitor

/-- The present groups, in number order. -/
def presentGroups (s : State) : List GroupId := groupIds.filter s.present

/-! ## Reading the active plan (R63, R142, R185) -/

/-- The active plan: the active copy while the active plan slot is not none (R142). -/
def plan? (s : State) : Option Plan :=
  match s.seq.activeSlot with
  | none => none
  | some _ => s.pts.activeCopy

/-- The groups of a stage in the active plan (R63); no groups while there is no active plan (assumption 17). -/
def stageGroups (s : State) (t : StageId) : GroupSet :=
  match s.plan? with
  | none => 0
  | some p => p.stages[t]

/-- The timings of a group in the active plan (R64, R18); zeros while there is no active plan (assumption 17). -/
def times (s : State) (g : GroupId) : GroupTimes :=
  match s.plan? with
  | none => { ming := 0, maxg := 0, gap := 0, maxwait := 0, recallOn := false }
  | some p => p.times g

end State

/-- The settings of a detector in force under a plan: "While there is no active plan, every detector is unused" (R43). -/
def detSettings (p : Option Plan) (d : DetId) : DetSettings :=
  match p with
  | none =>
    { kind := .unused, groups := 0, approach := 0, faultMode := .quiet, stuckOn := 0, stuckOff := 0, ringLength := 0,
      edgeReporting := false }
  | some q => q.det d

/-- The settings of an approach under a plan: "every approach is absent while there is no active plan" (R93). -/
def appSettings (p : Option Plan) (a : ApproachId) : AppSettings :=
  match p with
  | none =>
    { present := false, tramGroup := 0, priorityStage := 0, run := 0, ext := 0, tmax := 0, recovery := 0,
      checkinGuard := 0 }
  | some q => q.priority[a]

namespace State

/-- The settings of a detector in force (R43). -/
def detSet (s : State) (d : DetId) : DetSettings := detSettings s.plan? d

/-- The settings of an approach in force (R93). -/
def appSet (s : State) (a : ApproachId) : AppSettings := appSettings s.plan? a

/-- The sequence section of the active plan (R63); an empty list while there is no active plan (assumption 17). -/
def sequence (s : State) : SeqSection :=
  match s.plan? with
  | none => { entries := [], mode := .cyclic, startStage := 0, resumeMin := 0 }
  | some p => p.sequence

/-- The tram group of an approach that is present (R93). -/
def tramGroup? (s : State) (a : ApproachId) : Option GroupId :=
  if (s.appSet a).present then some (s.appSet a).tramGroup else none

/-- The SAFE output is high (R139). -/
def safeOutput (s : State) : Bool := s.jmc.safeRequest && !s.cmon.safeDropped

/-- A fault is latched for JMC's checks while the first fault is present (R145, R168). -/
def faultLatched (s : State) : Bool := s.cmon.first.isSome

/-- The mode is FLASH or DARK, where a table commit may complete (R28). -/
def flashOrDark (s : State) : Bool := s.jmc.mode = .flash || s.jmc.mode = .dark

/-- The power-on verification is running (R178). -/
def verifying (s : State) : Bool := s.pts.verify.isSome

/-- The slot a plan write in flight is writing (R183). -/
def writingSlot? (s : State) : Option PlanSlot :=
  match s.pts.write with
  | some { target := .slot n _, .. } => some n
  | _ => none

/-- The slot is the target of a write in flight (R183). -/
def beingWritten (s : State) (n : SlotNo) : Bool :=
  match s.writingSlot? with
  | some w => slotOf w = n
  | none => false

end State

/-! ## Events at the same moment (assumption 2) -/

/-- The list in the order the free choice gives from count `k` on: each place takes one of those left. Every order of
the list is one such choice. `fuel` is at least the list's length. -/
def arrange {α : Type} : Nat → Nat → List α → List α
  | 0, _, l => l
  | _ + 1, _, [] => []
  | _ + 1, _, [x] => [x]
  | n + 1, k, x :: y :: l =>
    let all := x :: y :: l
    let i := Config.tieBreak k % all.length
    all.getD i x :: arrange n (k + 1) (all.eraseIdx i)

/-- The list in a free order, and the state with the free choices counted as read. -/
def freeOrder {α : Type} (l : List α) (s : State) : List α × State :=
  (arrange l.length s.tie l, { s with tie := s.tie + l.length })

end Sys2Proof.Machine
end

