-- ==== Sys2Proof/Machine/Codec.lean ====
section
/-! DEFINITION. The CRC of R196 and the byte layouts of R206 for the sections of the tables and of a plan, for the
report records and for the frames the part sends. Points the layouts leave open are those of assumptions 11 to 13. -/

namespace Sys2Proof.Machine

/-! ## The CRC (R196) -/

/-- One bit of the CRC: shift left, and take the polynomial x^16 + x^12 + x^5 + 1 when the bit shifted out is set. -/
def crcBit (c : BitVec 16) : BitVec 16 :=
  if c.getLsbD 15 then (c <<< 1) ^^^ 0x1021 else c <<< 1

/-- One byte of the CRC: the byte enters most significant bit first. -/
def crcByte (c : BitVec 16) (b : Byte) : BitVec 16 :=
  let c := c ^^^ (b.setWidth 16 <<< 8)
  crcBit (crcBit (crcBit (crcBit (crcBit (crcBit (crcBit (crcBit c)))))))

/-- The CRC over bytes, beginning with all sixteen bits set and not inverted at the end. -/
def crc (l : List Byte) : BitVec 16 := l.foldl crcByte 0xFFFF

/-! ## Sections of the safety tables (R24 to R27, R186) -/

def bytesGroupDef (d : GroupDef) : List Byte :=
  byteFlag d.present ++ byte1 d.kind.code ++ byte1 d.close ++ byte1 d.opent

def bytesGroupDefs (v : Vector GroupDef 24) : List Byte := bytesOf bytesGroupDef v.toList

def bytesConflicts (v : Vector GroupSet 24) : List Byte := bytesOf byteSet v.toList

/-- A row of the intergreen matrix: the set of groups with an entry, then 24 entries, a "none" entry coded 0. -/
def bytesIgRow (r : IgRow) : List Byte :=
  byteSet (groupIds.foldl (fun x g => if (r[g]).isSome then GroupSet.put x g true else x) 0)
    ++ bytesOf (fun e => byte1 (e.getD 0)) r.toList

def bytesIg (v : Vector IgRow 6) : List Byte := bytesOf bytesIgRow v.toList

def bytesMonitor (m : MonitorStart) : List Byte :=
  byte1 m.fatal.toNat ++ byte1 m.mtol ++ byte2 m.startFlash ++ byte1 m.startClear ++ byteFlag m.autostart

/-- All sections of the safety tables in the order of R186. -/
def bytesTables (t : Tables) : List Byte :=
  bytesGroupDefs t.groups ++ bytesConflicts t.conflicts ++ bytesOf bytesIg t.ig.toList ++ bytesMonitor t.monitor

/-- The integrity check of tables: the CRC over their sections (R165). -/
def tablesCheck (t : Tables) : BitVec 16 := crc (bytesTables t)

/-! ## Sections of a plan (R179) -/

def bytesStages (v : Vector GroupSet 16) : List Byte := bytesOf byteSet v.toList

/-- A SEQUENCE section: the number of entries, sixteen places for entries, mode, START_STAGE, RESUME_MIN
(assumption 12). -/
def bytesSequence (q : SeqSection) : List Byte :=
  byte1 q.entries.length
    ++ (bytesOf (fun (e : SeqEntry) => byte1 (number e.stage) ++ byteFlag e.always) q.entries
        ++ List.replicate 32 0).take 32
    ++ byte1 q.mode.code ++ byte1 (number q.startStage) ++ byte1 q.resumeMin

def bytesTimes (v : Vector GroupTimes 12) : List Byte :=
  bytesOf (fun t => byte2 t.ming ++ byte2 t.maxg ++ byte1 t.gap ++ byte2 t.maxwait ++ byteFlag t.recallOn) v.toList

/-- The settings of one detector in the order of R43. -/
def bytesDetector (d : DetSettings) : List Byte :=
  byte1 d.kind.code ++ byteSet d.groups ++ byte1 (number d.approach) ++ byte1 d.faultMode.code
    ++ byte2 d.stuckOn ++ byte2 d.stuckOff ++ byte1 d.ringLength ++ byteFlag d.edgeReporting

def bytesDetectors (v : Vector DetSettings 16) : List Byte := bytesOf bytesDetector v.toList

def bytesApproach (a : AppSettings) : List Byte :=
  byteFlag a.present ++ byte1 (number a.tramGroup) ++ byte1 (number a.priorityStage) ++ byte2 a.run ++ byte2 a.ext
    ++ byte2 a.tmax ++ byte2 a.recovery ++ byte1 a.checkinGuard

def bytesPriority (v : Vector AppSettings 4) : List Byte := bytesOf bytesApproach v.toList

/-- The number of bytes a section of a plan occupies. -/
def planSectionLength : PlanSectionName → Nat
  | .stages => 48 | .sequence => 36 | .groupTimesA => 96 | .groupTimesB => 96 | .detectorsA => 192 | .detectorsB => 192
  | .priority => 48

/-- The number of bytes a section of the tables occupies. -/
def tableSectionLength : TableSectionName → Nat
  | .groups => 96 | .conflicts => 72 | .ig _ => 162 | .monitorStart => 6

/-- The bytes of one section of a plan. -/
def planSectionBytes (p : Plan) : PlanSectionName → List Byte
  | .stages => bytesStages p.stages
  | .sequence => bytesSequence p.sequence
  | .groupTimesA => bytesTimes p.timesA
  | .groupTimesB => bytesTimes p.timesB
  | .detectorsA => bytesDetectors p.detsA
  | .detectorsB => bytesDetectors p.detsB
  | .priority => bytesPriority p.priority

/-- The bytes of one section of tables. -/
def tableSectionBytes (t : Tables) : TableSectionName → List Byte
  | .groups => bytesGroupDefs t.groups
  | .conflicts => bytesConflicts t.conflicts
  | .ig k => bytesIg t.ig[k]
  | .monitorStart => bytesMonitor t.monitor

/-- An optional section: a presence byte, and the full width either way, zeros when absent (R206). -/
def bytesOptional (width : Nat) (o : Option (List Byte)) : List Byte :=
  match o with
  | some l => byteFlag true ++ l
  | none => byteFlag false ++ List.replicate width 0

/-- One section of the trial slot, marked present or absent (R192). -/
def trialSectionBytes (t : Trial) (n : PlanSectionName) : List Byte :=
  bytesOptional (planSectionLength n) <| match n with
    | .stages => t.stages.map bytesStages
    | .sequence => t.sequence.map bytesSequence
    | .groupTimesA => t.timesA.map bytesTimes
    | .groupTimesB => t.timesB.map bytesTimes
    | .detectorsA => t.detsA.map bytesDetectors
    | .detectorsB => t.detsB.map bytesDetectors
    | .priority => t.priority.map bytesPriority

/-- One section of the table draft, marked present or absent (R192). -/
def draftSectionBytes (d : Draft) (n : TableSectionName) : List Byte :=
  bytesOptional (tableSectionLength n) <| match n with
    | .groups => d.groups.map bytesGroupDefs
    | .conflicts => d.conflicts.map bytesConflicts
    | .ig k => d.ig[k].map bytesIg
    | .monitorStart => d.monitor.map bytesMonitor

/-! ## References and small parts (assumption 11) -/

/-- A request reference in three bytes: subject kind (TRAM 0, CALL 1, absent 0xFF), subject, and the tag of a tram. -/
def bytesRef : Option ReqRef → List Byte
  | none => [0xFF, 0, 0]
  | some (.tram a tag) => byte1 0 ++ byte1 (number a) ++ byte1 tag
  | some (.call id) => byte1 1 ++ byte1 id ++ byte1 0

/-- The two group numbers a refused commit names, in two bytes, with 0 where there is none (R30). -/
def bytesTwoGroups : List GroupId → List Byte
  | [] => [0, 0]
  | [g] => byte1 (number g) ++ [0]
  | g :: h :: _ => byte1 (number g) ++ byte1 (number h)

/-- A set of detector fault conditions in one byte. -/
def bytesConditions (l : List DetCond) : List Byte := byte1 ((l.map fun c => 2 ^ c.code).sum)

/-- The target of a store write: a slot by its number, TABLES as 17, none as 0xFF. -/
def bytesTarget : Option StoreTarget → List Byte
  | none => [0xFF]
  | some (.slot n) => byte1 (number n)
  | some .tables => byte1 17

/-- An optional number of one byte with a presence byte. -/
def byteOpt1 (o : Option Nat) : List Byte := byteFlag o.isSome ++ byte1 (o.getD 0)

/-- An optional number of two bytes with a presence byte. -/
def byteOpt2 (o : Option Nat) : List Byte := byteFlag o.isSome ++ byte2 (o.getD 0)

/-! ## Reports (section 10.5) -/

/-- The classes of report (R200). -/
inductive ReportClass where
  | safety | operational | detail
  deriving DecidableEq, Repr

/-- The class of a report's kind (section 10.5). -/
def ReportBody.cls : ReportBody → ReportClass
  | .modeChanged .. => .safety
  | .fault .. => .safety
  | .stageChange .. => .operational
  | .priorityEvent .. => .operational
  | .detectorHealth .. => .operational
  | .storeDone .. => .operational
  | .planChanged .. => .operational
  | .manualTaken .. => .operational
  | .noTables => .operational
  | .noValidPlan => .operational
  | .detectorEdge .. => .detail
  | .demandLatched .. => .detail

/-- The code of a report's kind (section 10.5). -/
def ReportBody.code : ReportBody → Nat
  | .modeChanged .. => 1
  | .fault .. => 2
  | .stageChange .. => 3
  | .priorityEvent .. => 4
  | .detectorHealth .. => 5
  | .storeDone .. => 6
  | .planChanged .. => 7
  | .manualTaken .. => 8
  | .noTables => 9
  | .noValidPlan => 10
  | .detectorEdge .. => 11
  | .demandLatched .. => 12

/-- The fields of a report's kind, in the order its rule lists them. -/
def ReportBody.fields : ReportBody → List Byte
  | .modeChanged b a ph dc c =>
    byte1 b.code ++ byte1 a.code ++ byteOptCode (ph.map Phase.code) ++ byteOptCode (dc.map DarkCause.code)
      ++ byte1 c.code
  | .fault src gs fatal act first lock =>
    byte1 src.code ++ byteSet (GroupSet.ofList gs) ++ byteFlag fatal ++ byte1 act.code ++ byteFlag first ++ byteFlag lock
  | .stageChange e t c l => byteOptStage e ++ byte1 (number t) ++ byte1 c.code ++ byte1 l
  | .priorityEvent e subj tag src veh st =>
    byte1 e.code
      ++ (match subj with
          | .tram a => byte1 (number a) ++ byte1 0
          | .call id => byte1 id ++ byte1 1)
      ++ byteOpt1 tag ++ byteOptCode (src.map TramSource.code) ++ byteOpt2 veh
      ++ byteOptCode (st.map TramState.code)
  | .detectorHealth d cause conds =>
    byte1 (number d) ++ byteFlag cause.isSome ++ byteOptCode (cause.map DetCond.code) ++ bytesConditions conds
  | .storeDone t o => bytesTarget (some t) ++ byte1 o.code
  | .planChanged b n o => byteOptCode (b.map fun k => k.val) ++ byte1 n.val ++ byte1 o.code
  | .manualTaken st h cur kept => byte1 (number st) ++ byte2 h ++ byteOptStage cur ++ byteFlag kept
  | .noTables => []
  | .noValidPlan => []
  | .detectorEdge d occ del => byte1 (number d) ++ byte1 (if occ then 0 else 1) ++ byteFlag del
  | .demandLatched g src => byte1 (number g) ++ byte1 src.code

/-! ## Frames (section 10.2, R206) -/

/-- The START byte. -/
def startByte : Byte := 0xA5

/-- A whole frame: START, LEN, KIND, TAG, body, CRC low byte then high byte. -/
def frameBytes (kind tag : Byte) (body : List Byte) : List Byte :=
  let covered := byte1 body.length ++ [kind, tag] ++ body
  let c := crc covered
  [startByte] ++ covered ++ [c.setWidth 8, (c >>> 8).setWidth 8]

/-- The marker byte of a reply (R206). -/
def Markers.byte (m : Markers) : Byte :=
  BitVec.ofNat 8 ((if m.requestsLost then 1 else 0) + (if m.replaced then 2 else 0) + (if m.updated then 4 else 0)
    + (if m.nothing then 8 else 0) + (if m.noTables then 16 else 0))

/-- The body of a reply: status, markers, items. -/
def Reply.body (r : Reply) : List Byte := byte1 r.status.code ++ [r.markers.byte] ++ r.items

/-- The body of a report frame: kind, loss marker, junction time, fields. -/
def Report.bytes (r : Report) (loss : Bool) : List Byte :=
  byte1 r.body.code ++ byteFlag loss ++ byte4 r.time ++ r.body.fields

/-- The bytes of a frame in transmission. Report frames carry KIND 0xF0 and TAG 0 (section 10.5). -/
def TxFrame.bytes : TxFrame → List Byte
  | .reply r => frameBytes r.kind r.tag r.body
  | .report r loss => frameBytes 0xF0 0 (r.bytes loss)

end Sys2Proof.Machine
end

