-- ==== Sys2Proof/Machine/Queues.lean ====
section
/-! DEFINITION. The reply queue, the report queue and the transmitter of the cabinet link (R198 to R203). -/

namespace Sys2Proof.Machine

/-- The queue without its oldest record of class DETAIL or OPERATIONAL; none when all are SAFETY records (R202). -/
def evictOldest : List Report → Option (List Report)
  | [] => none
  | r :: l => if r.body.cls = .safety then (evictOldest l).map (r :: ·) else some l

namespace Lnk

/-- An idle transmitter begins the head reply, else the head report with the loss marker, else stays idle (R199,
R203). A transmitter that is sending goes on. -/
def begin' (l : Lnk) : Lnk :=
  match l.tx with
  | some _ => l
  | none =>
    match l.replies with
    | r :: rest => { l with replies := rest, tx := some (.reply r) }
    | [] =>
      match l.reports with
      | r :: rest => { l with reports := rest, tx := some (.report r l.loss), loss := false }
      | [] => l

/-- The transmitter completes its frame and begins the next, or becomes idle (R199). -/
def complete (l : Lnk) : Lnk := { l with tx := none }.begin'

/-- A report reaches the report queue: admitted, refused, or admitted with eviction, by its class and the occupancy
(R201, R202), with the loss marker on a loss (R203). -/
def accept (l : Lnk) (r : Report) : Lnk :=
  let n := l.reports.length
  let joined := { l with reports := l.reports ++ [r] }
  match r.body.cls with
  | .detail => if n < l.af then joined else { l with loss := true }
  | .operational => if n < Config.reportCapacity then joined else { l with loss := true }
  | .safety =>
    if n < Config.reportCapacity then joined
    else
      match evictOldest l.reports with
      | some rest => { l with reports := rest ++ [r], loss := true }
      | none => { l with loss := true }

/-- A reply is produced: it joins the reply queue and carries REQUESTS_LOST if the marker is set, or it is discarded
from a full queue and sets the marker (R198). -/
def reply (l : Lnk) (r : Reply) : Lnk :=
  if l.replies.length < Config.replyCapacity then
    { l with
      replies := l.replies ++ [{ r with markers := { r.markers with requestsLost := l.requestsLost } }]
      requestsLost := false }
  else { l with requestsLost := true }

end Lnk

namespace State

/-- A block sends a report, with the present junction time (R200). "A reply or report that arrives while the
transmitter is idle begins to be sent at once" (R199). -/
def report (s : State) (b : ReportBody) : State := s.onLnk fun l => (l.accept { time := s.time, body := b }).begin'

/-- A block produces the reply to a request of code `code` (section 10.5: KIND is the code plus 0x40). -/
def reply (s : State) (code : Byte) (tag : Byte) (status : Status) (items : List Byte := []) (markers : Markers := {}) :
    State :=
  s.onLnk fun l => (l.reply { kind := code + 0x40, tag := tag, status := status, markers := markers, items := items }).begin'

/-- The reply to a received request whose KIND is no request code carries KIND 0x7F (R197, section 10.5). -/
def replyUnknown (s : State) (tag : Byte) : State :=
  s.onLnk fun l => (l.reply { kind := 0x7F, tag := tag, status := .unknown }).begin'

end State

end Sys2Proof.Machine
end

