-- ==== Sys2Proof/Machine/Flags.lean ====
section
/-! DEFINITION. The flags and conditions the manual derives from the state: aspects and their lamp classes, the health and
effectiveness of detectors, overdue groups, the starvation cut and readiness, the ruling request, and the conditions
of the conflict monitor. -/

namespace Sys2Proof.Machine

/-! ## Aspects (R4) -/

/-- The aspect a group of a kind shows in a state. A dash of the table (a state the kind never enters) is read as the
state's row of a VEHICLE group would be for PEDESTRIAN and ARROW: all off. -/
def aspectOf : Kind → GroupState → Aspect
  | _, .dark => .allOff
  | .vehicle, .closed => .red
  | .vehicle, .opening => .redAmber
  | .vehicle, .opened => .green
  | .vehicle, .closing => .amber
  | .vehicle, .flash => .flashingAmber
  | .pedestrian, .closed => .redWalker
  | .pedestrian, .opening => .allOff
  | .pedestrian, .opened => .greenWalker
  | .pedestrian, .closing => .flashingWalker
  | .pedestrian, .flash => .allOff
  | .tram, .closed => .stopBar
  | .tram, .opening => .prepare
  | .tram, .opened => .proceedBar
  | .tram, .closing => .stopIfAble
  | .tram, .flash => .allOff
  | .arrow, .closed => .arrowOff
  | .arrow, .opening => .allOff
  | .arrow, .opened => .greenArrow
  | .arrow, .closing => .allOff
  | .arrow, .flash => .allOff

/-- The aspect lights a red-class lamp. -/
def Aspect.litRed : Aspect → Bool
  | .red => true | .redWalker => true | .stopBar => true | .redAmber => true | _ => false

/-- The aspect lights an amber-class lamp. -/
def Aspect.litAmber : Aspect → Bool
  | .redAmber => true | .prepare => true | .amber => true | .stopIfAble => true | .flashingAmber => true | _ => false

/-- The aspect lights the go lamp. -/
def Aspect.litGo : Aspect → Bool
  | .green => true | .greenWalker => true | .proceedBar => true | .greenArrow => true | .flashingWalker => true
  | _ => false

/-- The group is in OPENING, OPEN or CLOSING, the three states the interlock keeps apart (R8, R35). -/
def GroupState.moving : GroupState → Bool
  | .opening => true | .opened => true | .closing => true | _ => false

/-! ## Detectors -/

/-- The conditions of a record that are active, in the order of R45. -/
def DetRec.conditions (r : DetRec) : List DetCond :=
  (if r.card then [.card] else []) ++ (if r.parity then [.parity] else []) ++ (if r.silent then [.silent] else [])
    ++ (if r.stuckOn then [.stuckOn] else []) ++ (if r.stuckOff then [.stuckOff] else [])

/-- The fault cause of a detector under its settings: absent while it is OK or unused (R42, R45). -/
def causeUnder (c : DetSettings) (r : DetRec) : Option DetCond :=
  if c.kind = .unused then none else r.conditions.head?

/-- The kinds of detector whose group list is read (R43). -/
def DetSettings.readsGroups (c : DetSettings) : Bool := c.kind.demanding || c.kind.extending

/-- The fault mode in effect is DEMAND_ON (R51). -/
def demandOnUnder (c : DetSettings) (r : DetRec) : Bool :=
  c.faultMode = .demandOn && c.readsGroups && r.settled

/-- The detector is effective: used, OK and not masked (R53). -/
def effectiveUnder (c : DetSettings) (r : DetRec) : Bool :=
  c.kind ≠ .unused && (causeUnder c r).isNone && !r.mask

/-- The stuck conditions tested on the accepted state and the since-change timer (R47). -/
def retestStuck (c : DetSettings) (r : DetRec) : DetRec :=
  let on := if c.kind = .unused then 0 else c.stuckOn
  let off := if c.kind = .unused then 0 else c.stuckOff
  { r with
    stuckOn := r.occupied && on ≠ 0 && r.sinceChange ≥ on
    stuckOff := !r.occupied && off ≠ 0 && r.sinceChange ≥ off }

/-- The detector contributes to the extension input of its groups (R54). -/
def extendsNow (c : DetSettings) (r : DetRec) : Bool :=
  c.kind.extending && ((effectiveUnder c r && r.occupied) || ((causeUnder c r).isSome && demandOnUnder c r))

/-- The detector contributes to the fault demand input of its groups (R51). -/
def faultDemandsNow (c : DetSettings) (r : DetRec) : Bool :=
  c.kind.demanding && (causeUnder c r).isSome && demandOnUnder c r

namespace State

/-- The fault cause of a detector; none while its health is OK (R45). -/
def cause (s : State) (d : DetId) : Option DetCond := causeUnder (s.detSet d) (s.det d)

/-- The detector is used (R43). -/
def used (s : State) (d : DetId) : Bool := (s.detSet d).kind ≠ .unused

/-- The detector is effective (R53). -/
def effective (s : State) (d : DetId) : Bool := effectiveUnder (s.detSet d) (s.det d)

/-- The groups whose extension input is on by R54. -/
def extWanted (s : State) : GroupSet :=
  detIds.foldl (fun x d => if extendsNow (s.detSet d) (s.det d) then x ||| (s.detSet d).groups else x) 0

/-- The groups whose fault demand input is on by R51. -/
def faultWanted (s : State) : GroupSet :=
  detIds.foldl (fun x d => if faultDemandsNow (s.detSet d) (s.det d) then x ||| (s.detSet d).groups else x) 0

/-- The active plan maps an EXTEND or DEMAND_EXTEND detector to the group (R14). -/
def hasExtender (s : State) (g : GroupId) : Bool :=
  detIds.any fun d => (s.detSet d).kind.extending && GroupSet.has (s.detSet d).groups g

/-! ## Demand, starvation and readiness -/

/-- The group's demand is latched, it is not in OPEN, and its wait is greater than a MAXWAIT other than 0: the four conditions
of R66. -/
def waitsTooLong (s : State) (g : GroupId) : Bool :=
  (s.dem g).latched && (s.grp g).state ≠ .opened && (s.times g).maxwait ≠ 0 && (s.dem g).wait > (s.times g).maxwait

/-- The group is overdue (R66). DEDUCED (assumption 44): one that becomes so as a tenth passes is overdue once SEQ has taken
that event. When the end countdown runs out in the same tenth and SEQ "takes the expiry first, the stage ends by expiry as
not ready" (R75). -/
def overdue (s : State) (g : GroupId) : Bool := s.waitsTooLong g && !GroupSet.has s.seq.overdueAwaited g

/-- The current stage is RUNNING. -/
def stageRunning (s : State) : Bool := s.seq.status = some .running

/-- A starvation cut is in force (R72). -/
def cutInForce (s : State) : Bool := s.jmc.mode = .normal && s.stageRunning && groupIds.any s.overdue

/-- The group meets every condition of R71 but the hold flag, with the starvation cut taken as `cut`. Reaching min
completion is `minDone` with MG_rem 0 (R14). -/
def groupDone (s : State) (cut : Bool) (g : GroupId) : Bool :=
  let r := s.grp g
  r.state = .opened && r.mgRem = 0 && r.minDone && (s.jmc.mode = .manual || r.ext ≠ .running || cut)

/-- Every group of the current stage meets the conditions of R71 but hold, and the manual hold has run out. -/
def doneButHold (s : State) (cut : Bool) : Bool :=
  s.stageRunning && (s.jmc.mode = .normal || s.jmc.mode = .manual)
    && (GroupSet.members s.seq.groups).all (s.groupDone cut)
    && (s.jmc.mode ≠ .manual || s.seq.manualHold.getD 0 = 0)

/-- A hold flag is set on a group of the current stage. -/
def stageHeld (s : State) : Bool := (GroupSet.members s.seq.groups).any fun g => (s.grp g).hold

/-- The stage is ready by R71, with the starvation cut taken as `cut`. -/
def readyWith (s : State) (cut : Bool) : Bool := s.doneButHold cut && !s.stageHeld

/-- The stage is ready (R71, R72). -/
def ready (s : State) : Bool := s.readyWith s.cutInForce

/-- The remaining budget of a group (R18). -/
def budget (s : State) (g : GroupId) : Nat := (s.grp g).effMaxg - (s.grp g).openElapsed

/-! ## The ruling request (R90) -/

/-- The head of an approach's queue (R95). -/
def head? (s : State) (a : ApproachId) : Option TramRec := (s.app a).queue.head?

/-- The level of a request (section 5.1). -/
def reqLevel (s : State) : ReqRef → Nat
  | .tram _ _ => 2
  | .call id => match s.call? id with | some c => c.level.level | none => 0

/-- The priority stage of a request (R90). -/
def prioStage (s : State) : ReqRef → StageId
  | .tram a _ => (s.appSet a).priorityStage
  | .call id => match s.call? id with | some c => c.target | none => 0

end State

/-- A waiting request with what ranks it: level, age, and approach number or identifier (R90). -/
structure Waiter where
  ref : ReqRef
  level : Nat
  age : Nat
  num : Nat
  deriving DecidableEq, Repr

/-- The first outranks the second (R90). -/
def Waiter.outranks (x y : Waiter) : Bool :=
  x.level > y.level || (x.level = y.level && (x.age > y.age || (x.age = y.age && x.num < y.num)))

/-- The waiting request of highest rank. -/
def topWaiter (l : List Waiter) : Option Waiter :=
  l.foldl (fun b w => match b with | none => some w | some v => if w.outranks v then some w else some v) none

namespace State

/-- The waiting requests of the tram approaches (R90). -/
def tramWaiters (s : State) : List Waiter :=
  approachIds.filterMap fun a =>
    match s.head? a with
    | some r =>
      if (s.appSet a).present && r.state = .waiting && ((s.app a).episode = .idle || (s.app a).episode = .planned) then
        some { ref := .tram a r.tag, level := 2, age := r.age, num := number a }
      else none
    | none => none

/-- The waiting calls (R90). -/
def callWaiters (s : State) : List Waiter :=
  s.pri.calls.filterMap fun c =>
    if c.state = .waiting then some { ref := .call c.id, level := c.level.level, age := c.age, num := c.id } else none

/-- The ruling request: in NORMAL the waiting request of highest rank, otherwise none (R90). -/
def ruling (s : State) : Option ReqRef :=
  if s.jmc.mode = .normal then (topWaiter (s.tramWaiters ++ s.callWaiters)).map Waiter.ref else none

/-- PRI's answer to "does it still wait?" (R107). -/
def stillWaits (s : State) : ReqRef → Bool
  | .tram a tag => (s.appSet a).present && (s.app a).queue.any fun r => r.tag = tag
  | .call id => (s.call? id).isSome

/-- A tram approach's tram group is OPEN and among the current groups of a RUNNING stage (R121). -/
def tramGroupOpenInStage (s : State) (a : ApproachId) : Bool :=
  match s.tramGroup? a with
  | some g => s.stageRunning && (s.grp g).state = .opened && GroupSet.has s.seq.groups g
  | none => false

/-! ## The conflict monitor -/

/-- The go-mismatch difference exists (R164). -/
def goDiffers (s : State) (g : GroupId) : Bool := (s.mon g).go && !s.sge.lamps[g].aspect.litGo

/-- The aspect-mismatch difference exists (R164). -/
def aspectDiffers (s : State) (g : GroupId) : Bool :=
  let m := s.mon g
  let a := s.sge.lamps[g].aspect
  (a.litGo && !m.go) || (a.litRed != m.red) || (a.litAmber != m.amber)

/-- The red-out difference exists (R164). -/
def redOutDiffers (s : State) (g : GroupId) : Bool :=
  (s.kind g = .vehicle || s.kind g = .pedestrian) && s.sge.lamps[g].aspect.litRed && !(s.mon g).redCurrent

/-- A condition is present (R162 to R166). In DARK every condition but TABLE_INTEGRITY is absent (R166). -/
def condPresent (s : State) : Cond → Bool
  | .tableIntegrity => s.cmon.integrity
  | c =>
    s.jmc.mode ≠ .dark &&
      match c with
      | .conflictGo g h =>
        s.present g && s.present h && GroupSet.has (s.conflicts g) h && (s.mon g).go && (s.mon h).go
      | .intergreenShort g => s.present g && (s.mon g).go && (s.mon g).scr > s.monitorStart.mtol
      | .goMismatch g => s.present g && (s.mon g).goTimer > s.monitorStart.mtol
      | .aspectMismatch g => s.present g && (s.mon g).aspectTimer > s.monitorStart.mtol
      | .redOut g => s.present g && (s.mon g).redTimer > s.monitorStart.mtol
      | .senseSilent g => s.present g && (s.mon g).silence ≥ Config.senseSilence
      | .tableIntegrity => s.cmon.integrity

end State

/-- The source of a condition. -/
def Cond.source : Cond → FaultSource
  | .conflictGo _ _ => .conflictGo
  | .intergreenShort _ => .intergreenShort
  | .goMismatch _ => .goMismatch
  | .aspectMismatch _ => .aspectMismatch
  | .redOut _ => .redOut
  | .senseSilent _ => .senseSilent
  | .tableIntegrity => .tableIntegrity

/-- A source is checked in a mode (R167). -/
def FaultSource.checked (f : FaultSource) : Mode → Bool
  | .dark => false
  | .flash => f = .goMismatch || f = .senseSilent
  | _ => true

/-- Every condition a source can have, in the order of the groups. CONFLICT_GO names the lower group first (R162). -/
def FaultSource.conds : FaultSource → List Cond
  | .conflictGo =>
    groupIds.flatMap fun g => (groupIds.filter fun h => g < h).map fun h => .conflictGo g h
  | .intergreenShort => groupIds.map .intergreenShort
  | .goMismatch => groupIds.map .goMismatch
  | .aspectMismatch => groupIds.map .aspectMismatch
  | .redOut => groupIds.map .redOut
  | .senseSilent => groupIds.map .senseSilent
  | .tableIntegrity => [.tableIntegrity]

/-- Every condition of every source. -/
def allConds : List Cond := faultSources.flatMap FaultSource.conds

namespace State

/-- The condition is present and its source is checked in the present mode (R167). -/
def condCounts (s : State) (c : Cond) : Bool := c.source.checked s.jmc.mode && s.condPresent c

/-- The condition of the source is present for some subject (R172, R176). -/
def sourcePresent (s : State) (f : FaultSource) : Bool := f.conds.any s.condPresent

/-- The condition GO_MISMATCH is present for at least one present group (R171). -/
def goMismatchPresent (s : State) : Bool := groupIds.any fun g => s.condPresent (.goMismatch g)

end State

end Sys2Proof.Machine
end

