-- ==== Sys2Proof/Machine/Groups.lean ====
section
/-! DEFINITION. The operations of the Signal Group Engine (chapter 1) and of the clearance (chapter 2): lamp commands,
admission, the entry into and the leaving of OPEN, min completion, open and close commands, hold, wait indicator and
extension input, and the changes JMC orders for all groups. -/

namespace Sys2Proof.Machine

/-! ## Lamp commands and the monitor's mismatch timers -/

/-- CMON forgets the conditions it has counted that are no longer present, so that each may occur again (R169), and the
SAFE drop timer is 0 while no GO_MISMATCH condition is present (R171). -/
def dropEnded (s : State) : State :=
  s.onCmon fun c =>
    { c with
      counted := c.counted.filter s.condPresent
      dropTimer := if s.goMismatchPresent then c.dropTimer else 0 }

/-- The mismatch timers of a group whose difference has ended are set to 0 (R164). -/
def endDifferences (g : GroupId) (s : State) : State :=
  dropEnded <| s.onMon g fun m =>
    { m with
      goTimer := if s.goDiffers g then m.goTimer else 0
      aspectTimer := if s.aspectDiffers g then m.aspectTimer else 0
      redTimer := if s.redOutDiffers g then m.redTimer else 0 }

/-- The lamp command that shows a group as it stands: its aspect by R4, its wait indicator off in FLASH and DARK
(R6). -/
def lampFor (s : State) (g : GroupId) : LampCommand :=
  let r := s.grp g
  { group := g
    aspect := if s.present g then aspectOf (s.kind g) r.state else .allOff
    wait := r.wait && r.state ≠ .flash && r.state ≠ .dark }

/-- SGE sends the lamp command of a group (R5). It is the group's commanded aspect from this moment. -/
def sendLamp (g : GroupId) (s : State) : State :=
  let c := lampFor s g
  endDifferences g <| s.onSge fun e => { e with lamps := e.lamps.set g c, lampLine := e.lampLine ++ [c] }

/-- Change a group's record and send the lamp command that shows it: "A change of state and the lamp command that
shows it are one event" (R5). -/
def changeGroup (g : GroupId) (f : GroupRec → GroupRec) (s : State) : State := sendLamp g (s.onGrp g f)

/-! ## Entering and leaving OPEN -/

/-- The effective MING and MAXG of an opening (R18). -/
def effectiveTimings (k : Kind) (t : GroupTimes) : Option Override → Nat × Nat
  | none => (t.ming, t.maxg)
  | some o =>
    let m := max o.ming k.floor
    (m, max o.maxg m)

/-- A group enters CLOSED (R13): the closed notice goes to SEQ, and the admission test with it. -/
def enterClosed (g : GroupId) (s : State) : State :=
  (changeGroup g (fun r => { r with state := .closed, phaseTimer := 0, mgRem := 0, gapTimer := 0, minDone := false }) s
    |>.push (.closed g)).push .watch

/-- A group leaving OPEN raises the clearance of every group that conflicts with it (R32). -/
def raiseClearance (e : GroupId) (s : State) : State :=
  (GroupSet.members (s.conflicts e)).foldl (fun s b => s.onGrp b fun r => { r with cr := max r.cr (s.ig e b) }) s

/-- A group takes a close command in OPEN (R12). SEQ hears of a hold flag cleared (R19) and of the leaving. The leaving
notice goes out before what follows an entry into CLOSED, so that PRI has ended the services of the group before JMC can
find CLEARING at its end and SEQ activate a plan: "no approach is PLANNED or SERVING at any activation" (R114). -/
def leaveOpen (g : GroupId) (s : State) : State :=
  let close := (s.groupDef g).close
  let held := (s.grp g).hold
  let s := (s.onGrp g fun r => { r with closePending := false, hold := false, mgRem := 0, gapTimer := 0 }).push (.left g)
  let s := raiseClearance g (if held then s.push .retest else s)
  if close = 0 then enterClosed g s
  else changeGroup g (fun r => { r with state := .closing, phaseTimer := close, minDone := false }) s

/-- Min completion of a group (R14). -/
def minComplete (g : GroupId) (s : State) : State :=
  let r := s.grp g
  let gap := (s.times g).gap
  let s := s.onGrp g fun r =>
    if r.openElapsed ≥ r.effMaxg then { r with minDone := true, ext := .maxed }
    else if !s.hasExtender g || gap = 0 then { r with minDone := true, ext := .gapped }
    else { r with minDone := true, gapTimer := gap }
  let s := s.push .retest
  if r.closePending then leaveOpen g s else s

/-- A group enters OPEN (R10). -/
def enterOpen (g : GroupId) (s : State) : State :=
  let t := s.times g
  let k := s.kind g
  let s := changeGroup g (fun r =>
    let e := effectiveTimings k t r.override
    { r with
      state := .opened, openPending := false, override := none, phaseTimer := 0, openElapsed := 0, mgRem := e.1,
      gapTimer := 0, ext := .running, effMing := e.1, effMaxg := e.2, minDone := false }) s
  let s := (s.push (.entered g)).push .watch
  if (s.grp g).effMing = 0 then minComplete g s else s

/-! ## Admission (R8) -/

/-- The conditions of admission. DEDUCED (assumption 35): a group is admitted when its CR is at most OPENT, as R8, R31 and
R38 give, where R33, citing R8, has it admitted max(CR, OPENT) tenths after the command at the earliest. Groups are taken in number order by `admitWaiting`, each seeing those admitted before
it, so between two conflicting groups that meet the first two conditions together the lower number is admitted. -/
def canAdmit (s : State) (g : GroupId) : Bool :=
  let r := s.grp g
  s.present g && r.state = .closed && r.openPending && r.cr ≤ (s.groupDef g).opent
    && (GroupSet.members (s.conflicts g)).all fun h => !(s.grp h).state.moving

/-- A group is admitted to OPENING, or to OPEN when its OPENT is 0. -/
def admitGroup (g : GroupId) (s : State) : State :=
  let opent := (s.groupDef g).opent
  if opent = 0 then enterOpen g s
  else (changeGroup g (fun r => { r with state := .opening, openPending := false, phaseTimer := opent }) s).push .watch

/-- SGE tests the admission of every waiting group, the lower number first. -/
def admitWaiting (s : State) : State := groupIds.foldl (fun s g => if canAdmit s g then admitGroup g s else s) s

/-! ## Commands of SEQ and JMC -/

/-- An open command reaches a group (R2, R7). -/
def openCommand (g : GroupId) (o : Option Override) (s : State) : State :=
  if !s.present g then s
  else
    match (s.grp g).state with
    | .dark | .flash => s
    | .closed => admitWaiting (s.onGrp g fun r => { r with openPending := true, override := o })
    | .closing => s.onGrp g fun r => { r with openPending := true, override := o }
    | .opening | .opened => s.onGrp g fun r => { r with closePending := false }

/-- A close command reaches a group (R2, R11). A group whose MG_rem has reached 0 in this tenth, its min completion still
to come, completes it first, because min completion "is the moment MG_rem reaches 0" (R14): the command is taken at its
fifth step. -/
def closeCommand (g : GroupId) (s : State) : State :=
  if !s.present g then s
  else
    match (s.grp g).state with
    | .dark | .flash => s
    | .opened =>
      let waiting := s.onGrp g fun r => { r with closePending := true }
      if (s.grp g).mgRem > 0 then waiting
      else if (s.grp g).minDone then leaveOpen g s
      else minComplete g waiting
    | .opening => s.onGrp g fun r => { r with closePending := true }
    | .closed | .closing =>
      s.onGrp g fun r => if r.openPending then { r with openPending := false, override := none } else r

/-! ## Flags through which PRI, SEQ and DTI act (R2, R6, R15, R16, R19) -/

/-- A hold instruction (R19); SEQ hears of each change of the flag. -/
def holdGroup (g : GroupId) (s : State) : State :=
  if s.present g && (s.grp g).state = .opened && !(s.grp g).hold then
    (s.onGrp g fun r => { r with hold := true }).push .retest
  else s

/-- A release instruction (R19). -/
def releaseGroup (g : GroupId) (s : State) : State :=
  if s.present g && (s.grp g).hold then (s.onGrp g fun r => { r with hold := false }).push .retest else s

/-- A wait indicator notice (R6): a lamp command goes out when the indicator as shown changes (R5). -/
def setWait (g : GroupId) (on : Bool) (s : State) : State :=
  if !s.present g || (s.grp g).wait = on then s
  else
    let t := s.onGrp g fun r => { r with wait := on }
    if (lampFor t g).wait = (lampFor s g).wait then t else sendLamp g t

/-- An extension input notice (R15, R16): recorded in every state, and in OPEN it reloads the gap timer when it turns
on while the extension runs. -/
def setExtInput (g : GroupId) (on : Bool) (s : State) : State :=
  let gap := (s.times g).gap
  s.onGrp g fun r =>
    if on && r.state = .opened && r.minDone && r.ext = .running then { r with extInput := on, gapTimer := gap }
    else { r with extInput := on }

/-! ## Changes JMC orders for all groups (R20 to R22) -/

/-- The field values of R20 for a present group. -/
def GroupRec.toFlash (r : GroupRec) : GroupRec :=
  { r with
    state := .flash, openPending := false, closePending := false, override := none, phaseTimer := 0, mgRem := 0,
    gapTimer := 0, hold := false, ext := .running, openElapsed := 0, cr := 0, minDone := false }

/-- The field values of R1, with the wait indicator field and the extension input kept (R21). -/
def GroupRec.toDark (r : GroupRec) : GroupRec := { wait := r.wait, extInput := r.extInput }

/-- A group enters FLASH; a group in OPEN sends its leaving notice (R20). DESIGN CHOICE (assumption 52): a group that is in FLASH
already, as in START_FLASHING, is sent a lamp command all the same. -/
def flashGroup (g : GroupId) (s : State) : State :=
  let wasOpen := (s.grp g).state = .opened
  let s := changeGroup g GroupRec.toFlash s
  if wasOpen then s.push (.left g) else s

/-- Every present group enters FLASH (R20, R21). DESIGN CHOICE (assumption 36): the groups are taken in number order, so the
leaving notices of several groups in OPEN, and the lamp commands, go out in that order. -/
def groupsToFlash (s : State) : State := s.presentGroups.foldl (fun s g => flashGroup g s) s

/-- A group enters DARK (R21), with a lamp command when its state changes. -/
def darkGroup (g : GroupId) (s : State) : State :=
  if (s.grp g).state = .dark then s.onGrp g GroupRec.toDark else changeGroup g GroupRec.toDark s

/-- Every group enters DARK (R21), the lamp commands in the order of the groups' numbers (assumption 36). -/
def groupsToDark (s : State) : State := groupIds.foldl (fun s g => darkGroup g s) s

/-- Every present group leaves FLASH for CLOSED with CR set to START_CLEAR (R22), the lamp commands in the order of the groups'
numbers (assumption 36). -/
def groupsToAllRed (s : State) : State :=
  let c := s.monitorStart.startClear
  s.presentGroups.foldl (fun s g => changeGroup g (fun r => { r with state := .closed, cr := c }) s) s

/-- SGE repeats the current lamp command of every group, present or absent (R5): the one that shows the group as it stands, so
that a kind changed by a commit in FLASH shows from the repetition on. DESIGN CHOICE (assumption 52). The 24 lamp commands go out
in ascending group number. DESIGN CHOICE (assumption 36). -/
def repeatLamps (s : State) : State :=
  groupIds.foldl (fun s g => sendLamp g s) (s.onSge fun e => { e with lampRepeat := Config.lampRepeatPeriod })

end Sys2Proof.Machine
end

