-- ==== Sys2Proof/Machine/Demand.lean ====
section
/-! DEFINITION. The demand table (R66 to R70) and the notices of PRI that SEQ takes (R75, R122). -/

namespace Sys2Proof.Machine

/-- SEQ latches a demand with a source (R67). Latching is one of the events of R74. -/
def latch (g : GroupId) (src : DemandSource) (s : State) : State :=
  let e := s.dem g
  let s :=
    if e.latched then s.onDem g fun e => { e with sources := DemandSet.add e.sources src }
    else (s.onDem g fun _ => { latched := true, sources := DemandSet.add 0 src, wait := 0 }).report (.demandLatched g src)
  let s := if src = .button && !DemandSet.has e.sources .button then setWait g true s else s
  s.push .choose

/-- A demand notice from DTI (R67): it latches for a present group that is not in OPEN, and is discarded otherwise. -/
def demandNotice (src : DemandSource) (g : GroupId) (s : State) : State :=
  if s.present g && (s.grp g).state ≠ .opened then latch g src s else s

/-- The fault demand input of a group has turned on: a demand with source FAULT, "whatever the group's state" (R68);
an absent group's entry stays unlatched (R66). -/
def faultDemandOn (g : GroupId) (s : State) : State := if s.present g then latch g .fault s else s

/-- The latches of state: RECALL when the plan sets it, FAULT while the fault demand input is on (R68, R86). -/
def latchFromState (g : GroupId) (s : State) : State :=
  if !s.present g then s
  else
    let s := if (s.times g).recallOn then latch g .recalled s else s
    if GroupSet.has s.dti.fault g then latch g .fault s else s

/-- SEQ clears a group's entry at its entry into OPEN, and its wait indicator if BUTTON was among the sources (R70). -/
def clearDemand (g : GroupId) (s : State) : State :=
  let button := DemandSet.has (s.dem g).sources .button
  let s := s.onDem g fun _ => {}
  if button then setWait g false s else s

/-- SEQ clears the end countdown and the next-stage mark. -/
def clearEnd (s : State) : State := s.onSeq fun q => { q with h := none, mark := none }

/-- A planning result reaches SEQ (R75): taken while the mode is NORMAL and the current stage is RUNNING, discarded in
any other case. An H of 0 is its expiry. -/
def planningResult (h : Nat) (p : StageId) (s : State) : State :=
  if s.jmc.mode = .normal && s.stageRunning then
    let s := (s.onSeq fun q => { q with h := some h, mark := some p }).push .choose
    if h = 0 then s.push .endExpiry else s
  else s

/-- A release notice reaches SEQ (R75, R128): H and the mark are cleared; it is one of the notices of R74. -/
def releaseNotice (s : State) : State := (clearEnd s).push .choose

/-- A level notice reaches SEQ (R122): taken while the mode is NORMAL and the stage RUNNING, it raises λ and nothing
else. -/
def levelNotice (l : Nat) (s : State) : State :=
  if s.jmc.mode = .normal && s.stageRunning then (s.onSeq fun q => { q with level := max q.level l }).push .choose
  else s

end Sys2Proof.Machine
end

