-- ==== Sys2Proof/Machine/Priority.lean ====
section
/-! DEFINITION. The operations of the Priority Unit (chapters 5 and 6): the tram queues, check-in and check-out, the
episodes, the call table, the holders and caps, the planner, and the determination of the ruling request. -/

namespace Sys2Proof.Machine

/-! ## Reports -/

/-- A PRIORITY_EVENT report about a tram record (R92). DESIGN CHOICE (assumption 38): the optional source is given where a
rule speaks of it, in CHECKED_IN, CHECKED_OUT and LOST, and is absent in PLANNED, SERVING, SERVED and DROPPED. -/
def reportTram (e : PriorityEvent) (a : ApproachId) (r : TramRec) (src : Option TramSource) (st : Option TramState)
    (s : State) : State :=
  s.report (.priorityEvent e (.tram a) (some r.tag) src r.vehicle st)

/-- A PRIORITY_EVENT report about an approach with no record (R92). -/
def reportApproach (e : PriorityEvent) (a : ApproachId) (src : Option TramSource) (s : State) : State :=
  s.report (.priorityEvent e (.tram a) none src none none)

/-- A PRIORITY_EVENT report about a call (R92). -/
def reportCall (e : PriorityEvent) (id : Nat) (s : State) : State :=
  s.report (.priorityEvent e (.call id) none none none none)

/-- A change that can change the ruling request (R91). -/
def priChanged (s : State) : State := s.push .redetermine

/-- A change of an episode or of a call's state: the ruling request is determined anew, and SEQ gets the notice of the
change (R91). -/
def episodeChanged (s : State) : State := (s.push .redetermine).push .choose

/-! ## Holders and caps (R123, R129) -/

/-- A service joins the holders of a group in OPEN, and the hold instruction goes to SGE; a service is not added for a
group that is not in OPEN (R129). -/
def addHolder (g : GroupId) (h : Holder) (s : State) : State :=
  if (s.grp g).state = .opened then
    let s := if h ∈ s.holders g then s else s.setHolders g (s.holders g ++ [h])
    holdGroup g s
  else s

/-- A service leaves the holders of a group; the release instruction goes to SGE when the set becomes empty (R129). -/
def removeHolder (g : GroupId) (h : Holder) (s : State) : State :=
  if h ∈ s.holders g then
    let l := (s.holders g).filter (· ≠ h)
    let s := s.setHolders g l
    if l.isEmpty then releaseGroup g s else s
  else s

/-- A service leaves the holders of every group. -/
def removeEverywhere (h : Holder) (s : State) : State := groupIds.foldl (fun s g => removeHolder g h s) s

/-- A cap is loaded with EXT; an EXT of 0 is its expiry at the moment of loading (R123). -/
def loadCap (a : ApproachId) (s : State) : State :=
  let e := (s.appSet a).ext
  let s := s.setCap a (.loaded e)
  if e = 0 then s.push (.capExpiry a) else s

/-- A cap is started (R123). -/
def startCap (a : ApproachId) (s : State) : State :=
  if s.seq.holdFreeSeen then loadCap a s else s.setCap a .armed

/-- The expiry of a loaded cap: the approach leaves the holders of its tram group, the cap becomes absent (R123). -/
def capExpired (a : ApproachId) (s : State) : State :=
  if s.cap a = .loaded 0 then
    let s := s.setCap a .absent
    match s.tramGroup? a with
    | some g => removeHolder g (.approach a) s
    | none => s
  else s

/-- SEQ's "ready but for hold" notice: every ARMED cap of an approach whose tram group is among the current groups is
loaded (R123). -/
def readyButForHold (s : State) : State :=
  approachIds.foldl (fun s a =>
    match s.tramGroup? a with
    | some g => if s.cap a = .armed && GroupSet.has s.seq.groups g then loadCap a s else s
    | none => s) s

/-! ## Withdrawal (R102, R128) -/

/-- A PLANNED approach returns to IDLE (R102). -/
def unplan (a : ApproachId) (s : State) : State :=
  if (s.app a).episode = .planned then (s.onApp a fun r => { r with episode := .idle }).push .choose else s

/-- The approach of a tram reference returns to IDLE if it is PLANNED; a call reference needs nothing. -/
def unplanRef (r : ReqRef) (s : State) : State :=
  match r with
  | .tram a _ => unplan a s
  | .call _ => s

/-- The standing plan is withdrawn with a release notice to SEQ (R128). -/
def withdraw (s : State) : State :=
  match s.pri.standing with
  | none => s
  | some p => unplanRef p.subject (releaseNotice (s.onPri fun x => { x with standing := none }))

/-- The standing plan is withdrawn when its subject is the reference given. -/
def withdrawIf (r : ReqRef) (s : State) : State :=
  match s.pri.standing with
  | none => s
  | some p => if p.subject = r then withdraw s else s

/-! ## Service of a tram (R104, R106, R122, R136) -/

/-- The head of a queue becomes SERVING under a hold of its tram group with the cap started afresh, with
PRIORITY_EVENT SERVING (R104, R123). -/
def serveHead (a : ApproachId) (s : State) : State :=
  match (s.app a).queue, s.tramGroup? a with
  | h :: rest, some g =>
    let s := s.onApp a fun r => { r with queue := { h with state := .serving } :: rest, episode := .serving }
    let s := reportTram .serving a h none none s
    episodeChanged (startCap a (addHolder g (.approach a) s))
  | _, _ => s

/-- A PLANNED approach enters SERVING when its tram group is OPEN while the head is WAITING (R104). -/
def passToServing (a : ApproachId) (s : State) : State :=
  match s.head? a with
  | some h => if (s.app a).episode = .planned && h.state = .waiting then serveHead a s else s
  | none => s

/-- A WAITING head takes over the green at once while the approach is SERVING, its tram group is OPEN, no record is
SERVING and the mode is NORMAL (R104). -/
def takesOver (s : State) (a : ApproachId) : Bool :=
  match s.head? a, s.tramGroup? a with
  | some h, some g =>
    s.jmc.mode = .normal && (s.app a).episode = .serving && (s.grp g).state = .opened && h.state = .waiting
      && (s.app a).queue.all fun r => r.state ≠ .serving
  | _, _ => false

/-- The extension case for the head of an approach: PLANNED and SERVING at once, the tram group held, λ raised to 2,
and PRI's own request the head's reference; a standing plan for another request is withdrawn (R122). -/
def extendTram (a : ApproachId) (s : State) : State :=
  match s.head? a with
  | none => s
  | some h =>
    let ref := ReqRef.tram a h.tag
    let s := match s.pri.standing with
      | some p => if p.subject = ref then s else withdraw s
      | none => s
    let s := s.onApp a fun r => { r with episode := .planned, recovery := 0 }
    let s := reportTram .planned a h none none s
    let s := serveHead a s
    levelNotice 2 (s.onPri fun p => { p with own := some ref })

/-- The head of a recovering approach can be extended in the running stage (R106). -/
def mayOffer (s : State) (a : ApproachId) : Bool :=
  match s.head? a with
  | some h =>
    s.jmc.mode = .normal && s.stageRunning && (s.app a).episode = .recovering
      && (h.state = .waiting || h.state = .served) && 2 > s.seq.level && s.tramGroupOpenInStage a
  | none => false

/-- The offer of R106 to a recovering approach, for the extension case alone. -/
def offer (a : ApproachId) (s : State) : State := if mayOffer s a then extendTram a s else s

/-- The offers of R106 to those of the approaches that may be offered, in a free order (assumption 2): the first that is taken
raises λ to 2, which bars the rest. -/
def offerAmong (l : List ApproachId) (s : State) : State :=
  let x := freeOrder (l.filter (mayOffer s)) s
  x.1.foldl (fun s a => offer a s) x.2

/-- What PRI does when the front of a queue may have changed: the takeover of R104 and the offer of R106. -/
def lookAtHead (a : ApproachId) (s : State) : State :=
  if takesOver s a then serveHead a s else offer a s

/-! ## Calls (R110, R111, R112) -/

/-- A call becomes SERVING: it holds every group of its target stage, and its hold remaining begins to fall (R110). DESIGN CHOICE
(assumption 47): a kept hold remaining of 0 expires in the next tenth. -/
def serveCall (id : Nat) (s : State) : State :=
  match s.call? id with
  | none => s
  | some c =>
    let s := s.onCall id fun c => { c with state := .serving, servingStage := s.seq.current }
    let s := reportCall .serving id s
    episodeChanged ((GroupSet.members (s.stageGroups c.target)).foldl (fun s g => addHolder g (.call id) s) s)

/-- A call's hold ends: its groups are released, it leaves the table, and SERVED is reported (R110). -/
def finishCall (id : Nat) (s : State) : State :=
  let s := removeEverywhere (.call id) s
  let s := s.onPri fun p => { p with calls := p.calls.filter fun c => c.id ≠ id }
  episodeChanged (reportCall .served id s)

/-- A SERVING call whose stage has ended returns to WAITING with what is left of its hold (R111), which is 0 when the ending is
taken before the expiry of the same tenth (assumption 47). -/
def suspendCall (id : Nat) (s : State) : State :=
  let s := removeEverywhere (.call id) s
  episodeChanged (s.onCall id fun c => { c with state := .waiting, servingStage := none })

/-! ## The planner (R119 to R127) -/

/-- The level test passes (R120). -/
def permitted (s : State) (r : ReqRef) : Bool := s.reqLevel r > s.seq.level

/-- The extension case applies (R121). -/
def extensionApplies (s : State) : ReqRef → Bool
  | .tram a _ => s.tramGroupOpenInStage a
  | .call id =>
    match s.call? id with
    | some c =>
      s.stageRunning && (GroupSet.members (s.stageGroups c.target)).all fun g =>
        (s.grp g).state = .opened && GroupSet.has s.seq.groups g
    | none => false

/-- The ending time D: the largest MG_rem over the current groups (R125). -/
def endingTime (s : State) : Nat := largest ((GroupSet.members s.seq.groups).map fun g => (s.grp g).mgRem)

/-- The transition time T_trans from the groups `cur` to the groups `next` (R125). -/
def transitionTime (s : State) (cur next : GroupSet) : Nat :=
  largest <| (GroupSet.members (GroupSet.minus next cur)).map fun b =>
    max (s.groupDef b).opent <|
      largest (((GroupSet.members (GroupSet.minus cur next)).filter fun e => GroupSet.has (s.conflicts b) e).map fun e =>
        s.ig e b)

/-- The arrival countdown A of a request: the head record's A for a tram, the ETA for a call (R125). -/
def arrival (s : State) : ReqRef → Nat
  | .tram a _ => match s.head? a with | some h => h.eta | none => 0
  | .call id => match s.call? id with | some c => c.eta | none => 0

/-- The plan record an insertion run computes (R125). -/
def insertionPlan (s : State) (r : ReqRef) (cur : StageId) : PlanRec :=
  let p := s.prioStage r
  let d := endingTime s
  let t := transitionTime s s.seq.groups (s.stageGroups p)
  let l := arrival s r - t
  { subject := r, level := s.reqLevel r, stage := cur, prio := p, d := d, tTrans := t, l := l, h := max d l }

/-- The first plan for a request is reported, and an IDLE approach enters PLANNED (R126). -/
def notePlanned (r : ReqRef) (s : State) : State :=
  match r with
  | .tram a _ =>
    match s.head? a with
    | some h =>
      if (s.app a).episode = .idle then
        (reportTram .planned a h none none (s.onApp a fun x => { x with episode := .planned })).push .choose
      else s
    | none => s
  | .call id =>
    match s.call? id with
    | some c => if c.planned then s else reportCall .planned id (s.onCall id fun c => { c with planned := true })
    | none => s

/-- An insertion run: the plan becomes the standing plan, and SEQ is sent the planning result (R125, R126). -/
def insertPlan (r : ReqRef) (s : State) : State :=
  match s.seq.current with
  | none => s
  | some cur =>
    let p := insertionPlan s r cur
    let s := notePlanned r (s.onPri fun x => { x with standing := some p })
    planningResult p.h p.prio s

/-- The extension case of a request (R122, R124). -/
def extendFor (r : ReqRef) (s : State) : State :=
  match r with
  | .tram a _ => extendTram a s
  | .call id =>
    let s := match s.pri.standing with
      | some p => if p.subject = r then s else withdraw s
      | none => s
    let s := serveCall id s
    levelNotice (s.reqLevel r) (s.onPri fun p => { p with own := some r })

/-- The planner runs for a request (R119): the mode is NORMAL and the current stage RUNNING, or no run is made. -/
def plannerRun (r : ReqRef) (s : State) : State :=
  if s.jmc.mode = Mode.normal && s.stageRunning then
    if !permitted s r then unplanRef r (withdraw s)
    else if extensionApplies s r then extendFor r s
    else insertPlan r s
  else s

/-- The head of the approach is the request given. -/
def headIs (s : State) (a : ApproachId) (r : Option ReqRef) : Bool :=
  match s.head? a with
  | some h => r = some (.tram a h.tag)
  | none => false

/-- PRI determines the ruling request anew (R91). When the outcome differs, every PLANNED approach whose head no longer
rules returns to IDLE (R102), the planner runs for the new ruling request (R119), a standing plan of another request
is withdrawn unless the run replaces it (R128), and SEQ gets the notice of the change. With `force` the planner runs
for an unchanged ruling request too (R119, the running notice). -/
def determineRuling (force : Bool) (s : State) : State :=
  let new := s.ruling
  if new = s.pri.rulingHeld then
    match new with
    | some r => if force then plannerRun r s else s
    | none => s
  else
    let s := s.onPri fun p => { p with rulingHeld := new }
    let s := approachIds.foldl (fun s a => if headIs s a new then s else unplan a s) s
    let s := match new with
      | none => withdraw s
      | some r =>
        if s.jmc.mode = Mode.normal && s.stageRunning then plannerRun r s
        else
          match s.pri.standing with
          | some p => if p.subject = r then s else withdraw s
          | none => s
    s.push .choose

/-! ## Queues (R95 to R103) -/

/-- The tag after a tag: from 255 to 1 (R95). -/
def nextTagOf (t : Nat) : Nat := if t ≥ 255 then 1 else t + 1

/-- The first tag from `t` on that no record of the queue holds; `fuel` exceeds the number of records. -/
def freeTag : Nat → List TramRec → Nat → Nat
  | 0, _, t => t
  | n + 1, q, t => if q.any fun r => r.tag = t then freeTag n q (nextTagOf t) else t

/-- A new record joins the tail of an approach's queue, with PRIORITY_EVENT CHECKED_IN (R95, R97, R99). -/
def addTram (a : ApproachId) (src : TramSource) (vehicle : Option Nat) (time : JTime) (eta : Nat) (s : State) : State :=
  let q := (s.app a).queue
  let tag := freeTag (q.length + 1) q (s.app a).nextTag
  let r : TramRec :=
    { tag := tag, source := src, vehicle := vehicle, checkIn := time, eta := eta, age := 0, state := .waiting }
  let s := s.onApp a fun x => { x with queue := q ++ [r], nextTag := nextTagOf tag }
  let s := reportTram .checkedIn a r (some src) none s
  priChanged (if q.isEmpty then lookAtHead a s else s)

/-- The tag a record added now would take (R99 answers with it). -/
def newTag (s : State) (a : ApproachId) : Nat :=
  freeTag ((s.app a).queue.length + 1) (s.app a).queue (s.app a).nextTag

/-- The head of a queue is removed, with what R103 gives for its state and the episode. -/
def removeHead (a : ApproachId) (s : State) : State :=
  match (s.app a).queue with
  | [] => s
  | h :: rest =>
    let s := s.onApp a fun x => { x with queue := rest }
    let s := match h.state with
      | .waiting => unplan a (withdrawIf (.tram a h.tag) s)
      | .serving =>
        let s := s.setCap a .absent
        if takesOver s a then s
        else
          match s.tramGroup? a with
          | some g => removeHolder g (.approach a) s
          | none => s
      | .served => s
    priChanged (lookAtHead a s)

/-- A check-in notice from DTI, by the rows of R97. -/
def loopCheckIn (a : ApproachId) (time : JTime) (s : State) : State :=
  let c := s.appSet a
  if !c.present then s
  else if s.jmc.mode ≠ .normal && s.jmc.mode ≠ .manual then s
  else if (s.app a).checkinGuard > 0 then s
  else if (s.app a).queue.length ≥ Config.queueCapacity then
    reportApproach .checkinRefused a (some .loop) (s.onApp a fun x => { x with checkinGuard := c.checkinGuard })
  else addTram a .loop none time c.run (s.onApp a fun x => { x with checkinGuard := c.checkinGuard })

/-- A check-out with a record to remove: CHECKED_OUT is reported with the state the record had (R100), and the head
leaves (R103). -/
def checkOutHead (a : ApproachId) (src : TramSource) (s : State) : State :=
  match s.head? a with
  | some h => removeHead a (reportTram .checkedOut a h (some src) (some h.state) s)
  | none => s

/-- A check-out notice from DTI, by the rows of R100. -/
def loopCheckOut (a : ApproachId) (s : State) : State :=
  if !(s.appSet a).present then s
  else if (s.app a).queue.isEmpty then reportApproach .checkoutUnexpected a (some .loop) s
  else checkOutHead a .loop s

/-- The head of a queue leaves as LOST (R96, R114). -/
def loseHead (a : ApproachId) (s : State) : State :=
  match s.head? a with
  | some h => removeHead a (reportTram .lost a h (some h.source) none s)
  | none => s

/-! ## Notices of SGE and SEQ -/

/-- The approaches present whose tram group is `g`. -/
def approachesOf (s : State) (g : GroupId) : List ApproachId := approachIds.filter fun a => s.tramGroup? a = some g

/-- SGE's entry notice reaches PRI (R104). DESIGN CHOICE (assumption 46): the approaches are taken in number order. -/
def priEntered (g : GroupId) (s : State) : State :=
  if (s.grp g).state = .opened then (approachesOf s g).foldl (fun s a => passToServing a s) s else s

/-- A service has ended: every SERVING record becomes SERVED with its report, and the episode becomes RECOVERING, or
IDLE when RECOVERY is 0 (R105). -/
def endService (a : ApproachId) (s : State) : State :=
  if (s.app a).episode = .serving then
    let rec' := (s.appSet a).recovery
    let gone := (s.app a).queue.filter fun r => r.state = .serving
    let s := s.onApp a fun x =>
      { x with
        queue := x.queue.map fun r => if r.state = .serving then { r with state := .served } else r
        episode := if rec' = 0 then .idle else .recovering
        recovery := rec' }
    episodeChanged (gone.foldl (fun s r => reportTram .served a r none none s) s)
  else s

/-- SGE's leaving notice reaches PRI: the group's holders are emptied with no instruction and the caps become absent
(R130), and the service of each approach of this tram group ends (R105). DESIGN CHOICE (assumption 46): the approaches are
taken in number order. -/
def priLeft (g : GroupId) (s : State) : State :=
  let s := s.setHolders g []
  (approachesOf s g).foldl (fun s a => endService a (s.setCap a .absent)) s

/-- SEQ's stage-ended notice reaches PRI: the standing plan becomes absent (R126), the own request becomes the request
named (R136), and the calls served during the stage that ended return to WAITING (R111). -/
def priStageEnded (ended : StageId) (own : Option ReqRef) (s : State) : State :=
  let s := s.onPri fun p => { p with standing := none, own := own }
  let serving := s.pri.calls.filter fun c => c.state = .serving && c.servingStage = some ended
  serving.foldl (fun s c => suspendCall c.id s) s

/-- The passages the running stage itself brings: step 1 of R119. The ruling call is served when its target stage is the
stage that has become RUNNING (R110); the call a resumed stage's own request names is served at that running notice
whatever its target (R136, assumption 37). DESIGN CHOICE (assumption 46): the calls come first, in the order in which they
were placed, then the approaches in number order. -/
def runningPassages (t : StageId) (s : State) : State :=
  let mine := s.pri.calls.filter fun c =>
    c.state = .waiting
      && ((c.target = t && s.ruling = some (.call c.id)) || (s.seq.resumed && s.pri.own = some (.call c.id)))
  let s := mine.foldl (fun s c => serveCall c.id s) s
  let s := approachIds.foldl (fun s a => if s.tramGroupOpenInStage a then passToServing a s else s) s
  match s.pri.own with
  | some (.tram a tag) =>
    match s.head? a with
    | some h =>
      if s.seq.resumed && s.jmc.mode = .normal && h.tag = tag && h.state ≠ .serving && s.tramGroupOpenInStage a then
        extendTram a s
      else s
    | none => s
  | _ => s

/-- SEQ's running notice reaches PRI, in the three steps of R119. The order of several offers is left open (assumption 2). -/
def priRunning (t : StageId) (s : State) : State :=
  if s.stageRunning && s.seq.current = some t then
    let s := runningPassages t s
    offerAmong approachIds (determineRuling true s)
  else s

/-! ## Modes and plans (R113, R114, R138) -/

/-- Every call is removed with PRIORITY_EVENT DROPPED (R113). DESIGN CHOICE (assumption 46): the calls are reported in the
order in which they were placed. -/
def dropCalls (s : State) : State :=
  s.pri.calls.foldl (fun s c => reportCall .dropped c.id s) s |>.onPri fun p => { p with calls := [] }

/-- PRI's planning state and episodes as they are left by a mode that does not plan: no standing plan, no own request,
every PLANNED approach IDLE, every cap absent (R113, R138). -/
def stopPlanning (s : State) : State :=
  s.onPri fun p =>
    { p with
      standing := none
      own := none
      caps := Vector.replicate 4 .absent
      approaches := p.approaches.map fun x => if x.episode = .planned then { x with episode := .idle } else x }

/-- PRI at the entry into MANUAL or CLEARING: the plan withdrawn, each held group released, the calls dropped. -/
def priEndNormal (s : State) : State :=
  let s := stopPlanning s
  let s := groupIds.foldl (fun s g => if (s.holders g).isEmpty then s else releaseGroup g (s.setHolders g [])) s
  priChanged (dropCalls s)

/-- PRI at an entry into FLASH: as above, with no release instruction, because SGE clears every flag (R138). -/
def priFlash (s : State) : State :=
  let s := (stopPlanning s).onPri fun p => { p with holders := Vector.replicate 24 [] }
  priChanged (dropCalls s)

/-- One approach under a new plan: dropped if it is absent there, else its records past the new TMAX are lost
(R114). -/
def approachUnderPlan (a : ApproachId) (s : State) : State :=
  let c := s.appSet a
  if !c.present then
    let s := (s.app a).queue.foldl (fun s r => reportTram .dropped a r none none s) s
    let s := if (s.app a).episode = .idle then s else s.push .choose
    s.onApp a fun x => { x with queue := [], episode := .idle, recovery := 0, checkinGuard := 0 }
  else
    let old := (s.app a).queue.takeWhile fun r => r.age ≥ c.tmax
    let s := old.foldl (fun s r => reportTram .lost a r (some r.source) none s) s
    s.onApp a fun x => { x with queue := x.queue.dropWhile fun r => r.age ≥ c.tmax }

/-- The front of the queue changes as the approach is brought under the plan: its head is past the new TMAX (R114). -/
def losesHead (s : State) (a : ApproachId) : Bool :=
  (s.appSet a).present && (s.head? a).any fun h => h.age ≥ (s.appSet a).tmax

/-- PRI brings its approaches and calls under the plan now active and then determines the ruling request anew, at that moment,
so that at a switch the planner runs in the stage that is RUNNING (R114, R119). A record that a loss brings to the front is
offered (R106), once every approach and call has been brought under the plan (assumption 51). DESIGN CHOICE (assumption 46):
the approaches are taken in number order, then the calls in the order in which they were placed. -/
def priUnderPlan (s : State) : State :=
  let fronts := approachIds.filter (losesHead s)
  let s := approachIds.foldl (fun s a => approachUnderPlan a s) s
  let gone := s.pri.calls.filter fun c => c.state = .waiting && s.stageGroups c.target = 0
  let s := gone.foldl (fun s c => reportCall .dropped c.id s) s
  let s := s.onPri fun p => { p with calls := p.calls.filter fun c => !(gone.any fun d => d.id = c.id) }
  determineRuling false (offerAmong fronts s)

end Sys2Proof.Machine
end

