-- ==== Sys2Proof/Machine/Detectors.lean ====
section
/-! DEFINITION. The operations of the Detector Interface (chapter 3): the words of the detector line, the reports of
health, the group inputs, the delivery of edges, masks, and the change of plan. -/

namespace Sys2Proof.Machine

/-! ## Reports and group inputs -/

/-- A DETECTOR_HEALTH report with the detector's present health, cause and conditions (R50). -/
def reportHealth (d : DetId) (s : State) : State := s.report (.detectorHealth d (s.cause d) (s.det d).conditions)

/-- DTI recomputes the fault demand and extension inputs of every group, and tells SEQ and SGE of each that changed
(R51, R54). A fault demand input that turns off changes nothing in SEQ (R68). DESIGN CHOICE (assumption 36): the groups are
taken in number order, so the FAULT demands of several groups are latched and reported in that order, all of them before the
choice the first gives rise to (R74). -/
def recomputeInputs (s : State) : State :=
  let ext := s.extWanted
  let fault := s.faultWanted
  let wasExt := s.dti.ext
  let wasFault := s.dti.fault
  let s := s.onDti fun e => { e with ext := ext, fault := fault }
  groupIds.foldl (fun s g =>
    let s := if GroupSet.has ext g = GroupSet.has wasExt g then s else setExtInput g (GroupSet.has ext g) s
    if GroupSet.has fault g && !GroupSet.has wasFault g then faultDemandOn g s else s) s

/-! ## Delivery (R53, R55, R56) -/

/-- The source of the demand a detector of the kind raises (R53). -/
def demandSourceOf (k : DetKind) : DemandSource := if k = .button then .button else .detector

/-- A demand notice goes to SEQ for each group the detector lists (R53). DESIGN CHOICE (assumption 36): they go in the order
of the groups' numbers, and all of them are latched before SEQ makes the choice that the first latch gives rise to, where R74
lets the outcome depend on which SEQ takes first. -/
def sendDemand (d : DetId) (s : State) : State :=
  let c := s.detSet d
  (GroupSet.members c.groups).foldl (fun s g => demandNotice (demandSourceOf c.kind) g s) s

/-- An accepted edge of an effective detector is delivered according to its kind (R53, R56). -/
def deliverEdge (d : DetId) (occupied : Bool) (s : State) : State :=
  let c := s.detSet d
  match c.kind with
  | .demand | .demandExtend | .button => if occupied then sendDemand d s else s
  | .tramIn => if occupied then loopCheckIn c.approach s.time s else s
  | .tramOut => if occupied then s else loopCheckOut c.approach s
  | .extend | .count | .unused => s

/-- A detector that has become effective while OCCUPIED delivers its demand (R55). -/
def demandOnEffective (d : DetId) (s : State) : State :=
  if (s.detSet d).kind.demanding && (s.det d).occupied && s.effective d then sendDemand d s else s

/-! ## Words of the detector line (R41, R44, R46, R49) -/

/-- The parity bookkeeping for a word that fails parity (R44). -/
def DetRec.failedParity (r : DetRec) : DetRec :=
  if r.parity then { r with goodRun := 0 }
  else if r.parityRun + 1 ≥ 3 then { r with parityRun := 3, parity := true, goodRun := 0 }
  else { r with parityRun := r.parityRun + 1 }

/-- The parity bookkeeping for a valid word (R44). -/
def DetRec.passedParity (r : DetRec) : DetRec :=
  if !r.parity then { r with parityRun := 0 }
  else if r.goodRun + 1 ≥ 3 then { r with parity := false, parityRun := 0, goodRun := 0 }
  else { r with goodRun := r.goodRun + 1 }

/-- An accepted edge of a used detector is written to the ring and counted (R57, R58). -/
def DetRec.noteEdge (c : DetSettings) (occupied : Bool) (time : JTime) (r : DetRec) : DetRec :=
  if c.kind = .unused then r
  else
    let ring := r.ring ++ [{ occupied := occupied, time := time }]
    { r with
      ring := ring.drop (ring.length - c.ringLength)
      count := if occupied then min (r.count + 1) 65535 else r.count }

/-- Steps 2 to 5 of R49: what a good word makes of the record, its parity already booked. -/
def DetRec.goodWord (c : DetSettings) (occupied : Bool) (time : JTime) (r : DetRec) : DetRec :=
  let r := { r with card := false, silent := false, silence := 0 }
  let r :=
    if !r.settled then { r with occupied := occupied, sinceChange := 0, settled := true }
    else if occupied = r.occupied then r
    else ({ r with occupied := occupied, sinceChange := 0 }).noteEdge c occupied time
  retestStuck c r

/-- A change of record that is no good word: it is reported by R50 when the health or cause of a used, settled detector
has changed, and the inputs are recomputed. -/
def changeDet (d : DetId) (f : DetRec → DetRec) (s : State) : State :=
  let c := s.detSet d
  let r := s.det d
  let s := s.onDet d f
  let s := if c.kind ≠ .unused && r.settled && causeUnder c r ≠ s.cause d then reportHealth d s else s
  recomputeInputs s

/-- A good word is handled in the steps of R49. -/
def goodWord (d : DetId) (occupied : Bool) (s : State) : State :=
  let c := s.detSet d
  let before := s.det d
  let was := effectiveUnder c before
  let r := before.passedParity.goodWord c occupied s.time
  let edge := before.settled && occupied != before.occupied
  let delivered := effectiveUnder c r
  let s := s.onDet d fun _ => r
  let s :=
    if edge && c.kind ≠ .unused && c.edgeReporting then s.report (.detectorEdge d occupied delivered) else s
  let s :=
    if c.kind = .unused then s
    else if before.settled then (if causeUnder c before = causeUnder c r then s else reportHealth d s)
    else if (causeUnder c r).isSome then reportHealth d s else s
  let s := recomputeInputs s
  let s := if edge && delivered then deliverEdge d occupied s else s
  if delivered && !was && !(edge && occupied) then demandOnEffective d s else s

/-- A word is charged to its channel (R41, R44, R46, R49). -/
def chargeWord (channel : Nat) (occupied cardFault passesParity : Bool) (s : State) : State :=
  match detectorNumbered channel with
  | none => s
  | some d =>
    if !passesParity then changeDet d DetRec.failedParity s
    else if cardFault then changeDet d (fun r => { r.passedParity with card := true }) s
    else goodWord d occupied s

/-! ## Timers of a detector (R47, R48) -/

/-- The silence timer stands at 30 with its effect still to come (R48). -/
def silenceDue (s : State) (d : DetId) : Bool :=
  let r := s.det d
  r.silence ≥ Config.detectorSilence && (!r.silent || !r.settled)

/-- SILENT stands as a fact (R48): an unsettled record settles, and a used detector is reported FAULTY. -/
def confirmSilence (d : DetId) (s : State) : State :=
  if (s.det d).settled then changeDet d (fun r => { r with silent := true }) s
  else
    let s := s.onDet d fun r => { r with silent := true, settled := true }
    recomputeInputs (if s.used d then reportHealth d s else s)

/-- A stuck limit has been reached and its condition is not yet active (R47). -/
def stuckDue (s : State) (d : DetId) : Bool :=
  let r := s.det d
  let t := retestStuck (s.detSet d) r
  (t.stuckOn && !r.stuckOn) || (t.stuckOff && !r.stuckOff)

/-- The stuck condition becomes active (R47). -/
def becomeStuck (d : DetId) (s : State) : State := changeDet d (retestStuck (s.detSet d)) s

/-! ## Masks (R52) -/

/-- The mask takes a value, with what follows for the inputs (R54) and for a detector that becomes effective (R55). -/
def setMask (d : DetId) (on : Bool) (s : State) : State :=
  let was := s.effective d
  let s := recomputeInputs (s.onDet d fun r => { r with mask := on })
  if was then s else demandOnEffective d s

/-! ## Plan activation (R61) -/

/-- A record under the settings `c`: the ring emptied, the stuck conditions tested, the count of an unused detector 0
(R57, R58, R61). -/
def DetRec.underPlan (c : DetSettings) (r : DetRec) : DetRec :=
  retestStuck c { r with ring := [], count := if c.kind = .unused then 0 else r.count }

/-- The groups a detector's kind makes it act on: a list its kind does not use "is held but not read" (R43). -/
def DetSettings.groupsRead (c : DetSettings) : GroupSet := if c.readsGroups then c.groups else 0

/-- The detector gives demand at the activation: effective and OCCUPIED now, and not effective or with other groups
before (R55, R61). -/
def demandsUnderPlan (c₀ c₁ : DetSettings) (before after : DetRec) : Bool :=
  c₁.kind.demanding && after.occupied && effectiveUnder c₁ after
    && (!effectiveUnder c₀ before || c₀.groupsRead ≠ c₁.groupsRead)

/-- DTI brings every detector under the plan now active, `old` being the plan active before (R61). DESIGN CHOICE (assumption
36): the health reports of several detectors, and then their demand notices, go out in the order of the detectors' numbers. -/
def dtiUnderPlan (old : Option Plan) (s : State) : State :=
  let recs := s.dti.recs
  let s := detIds.foldl (fun s d =>
    let c₀ := detSettings old d
    let c₁ := s.detSet d
    let r := recs[d]
    let t := r.underPlan c₁
    let s := s.onDet d fun _ => t
    if c₀.kind ≠ .unused && c₁.kind ≠ .unused && r.settled && causeUnder c₀ r ≠ causeUnder c₁ t then reportHealth d s
    else s) s
  let s := recomputeInputs s
  detIds.foldl (fun s d =>
    if demandsUnderPlan (detSettings old d) (s.detSet d) recs[d] (s.det d) then sendDemand d s else s) s

end Sys2Proof.Machine
end

