-- ==== Sys2Proof/Machine/Store.lean ====
section
/-! DEFINITION. The operations of the Plan and Table Store (chapters 2 and 9): the checks and clamps of a plan, the
validation of a table draft, activation, and the change of tables. -/

namespace Sys2Proof.Machine

/-- A refusal with the items its rule names. -/
structure Denial where
  status : Status
  items : List Byte := []
  deriving DecidableEq, Repr

/-! ## The whole-plan check (R181) -/

/-- The group is present in the tables. -/
def Tables.present (t : Tables) (g : GroupId) : Bool := t.groups[g].present

/-- Two groups conflict in the tables. -/
def Tables.conflict (t : Tables) (g h : GroupId) : Bool := GroupSet.has t.conflicts[g] h

/-- The first absent group of a set. DESIGN CHOICE (assumption 50): of several, the lowest number is named. -/
def Tables.absentIn (t : Tables) (x : GroupSet) : Option GroupId :=
  (GroupSet.members x).find? fun g => !t.present g

/-- The first conflicting pair of a set. DESIGN CHOICE (assumption 50): of several, the one whose lower number is lowest, then
whose higher is, is named, the lower number first. -/
def Tables.pairIn (t : Tables) (x : GroupSet) : Option (GroupId × GroupId) :=
  (GroupSet.members x).findSome? fun g =>
    ((GroupSet.members x).find? fun h => g < h && t.conflict g h).map fun h => (g, h)

/-- The approach's tram group is a present TRAM group. -/
def Tables.tramFit (t : Tables) (a : AppSettings) : Bool := t.present a.tramGroup && t.groups[a.tramGroup].kind = .tram

/-- The first failure of the whole-plan check, with what it names (R181). -/
def wholePlanCheck (t : Tables) (p : Plan) : Option Denial :=
  (stageIds.findSome? fun k => (t.absentIn p.stages[k]).map fun g =>
      { status := .invalid, items := byte1 (number k) ++ byte1 (number g) })
  <|> (stageIds.findSome? fun k => (t.pairIn p.stages[k]).map fun x =>
      { status := .conflict, items := byte1 (number k) ++ byte1 (number x.1) ++ byte1 (number x.2) })
  <|> (((p.sequence.entries.zipIdx 1).find? fun e => p.stages[e.1.stage] = 0).map fun e =>
      { status := .invalid, items := byte1 e.2 })
  <|> (detIds.findSome? fun d =>
      (t.absentIn (p.det d).groups).map fun g =>
        { status := .invalid, items := byte1 (number d) ++ byte1 (number g) })
  <|> ((approachIds.find? fun a => p.priority[a].present && !t.tramFit p.priority[a]).map fun a =>
      { status := .invalid, items := byte1 (number a) })
  <|> ((approachIds.find? fun a =>
        p.priority[a].present && !GroupSet.has p.stages[p.priority[a].priorityStage] p.priority[a].tramGroup).map fun a =>
      { status := .invalid, items := byte1 (number a) })

/-! ## Clamping sections (R180, R185) -/

/-- A list of things clamped one by one, with the count of fields changed. -/
def clampAll {α : Type} {n : Nat} (f : Fin n → α → α × Nat) (v : Vector α n) : Vector α n × Nat :=
  (Vector.ofFn fun i => (f i v[i]).1, ((List.finRange n).map fun i => (f i v[i]).2).sum)

/-- The min green floor of a group: its kind's, and none for an absent group (R180). -/
def Tables.floor (t : Tables) (g : GroupId) : Nat := if t.present g then t.groups[g].kind.floor else 0

/-- GROUP_TIMES_A clamped: the timings of groups 1 to 12. -/
def clampTimesA (t : Tables) (v : Vector GroupTimes 12) : Vector GroupTimes 12 × Nat :=
  clampAll (fun i x => clampTimes (t.floor (i.castLE (by omega))) x) v

/-- GROUP_TIMES_B clamped: the timings of groups 13 to 24. -/
def clampTimesB (t : Tables) (v : Vector GroupTimes 12) : Vector GroupTimes 12 × Nat :=
  clampAll (fun i x => clampTimes (t.floor (i.natAdd 12)) x) v

/-- A half of the detector settings clamped. -/
def clampDetectors (v : Vector DetSettings 16) : Vector DetSettings 16 × Nat := clampAll (fun _ x => clampDetector x) v

/-- The approach settings clamped. -/
def clampPriority (v : Vector AppSettings 4) : Vector AppSettings 4 × Nat := clampAll (fun _ x => clampApproach x) v

/-- A whole plan clamped under the tables, with the count of fields changed: the active copy (R185). -/
def clampPlan (t : Tables) (p : Plan) : Plan × Nat :=
  let q := clampSequence p.sequence
  let ta := clampTimesA t p.timesA
  let tb := clampTimesB t p.timesB
  let da := clampDetectors p.detsA
  let db := clampDetectors p.detsB
  let pr := clampPriority p.priority
  ({ p with
      sequence := q.1, timesA := ta.1, timesB := tb.1, detsA := da.1, detsB := db.1, priority := pr.1 },
    q.2 + ta.2 + tb.2 + da.2 + db.2 + pr.2)

/-! ## Sections as given (R180) -/

/-- A SEQUENCE section with its numbers read; none when a number or the count of entries is out of range. -/
def readSequence (q : RawSequence) : Option SeqSection :=
  if 1 ≤ q.count ∧ q.count ≤ 16 ∧ q.count ≤ q.entries.length then do
    let entries ← (q.entries.take q.count).mapM fun e =>
      (stageNumbered e.stage).map fun k => ({ stage := k, always := e.always } : SeqEntry)
    let start ← stageNumbered q.startStage
    return { entries, mode := q.mode, startStage := start, resumeMin := q.resumeMin }
  else none

/-- The settings of a detector with their numbers read. -/
def readDetector (d : RawDetector) : Option DetSettings :=
  (approachNumbered d.approach).map fun a =>
    { kind := d.kind, groups := d.groups, approach := a, faultMode := d.faultMode, stuckOn := d.stuckOn,
      stuckOff := d.stuckOff, ringLength := d.ringLength, edgeReporting := d.edgeReporting }

/-- The settings of an approach with their numbers read. -/
def readApproach (a : RawApproach) : Option AppSettings := do
  let g ← groupNumbered a.tramGroup
  let k ← stageNumbered a.priorityStage
  return { present := a.present, tramGroup := g, priorityStage := k, run := a.run, ext := a.ext, tmax := a.tmax,
           recovery := a.recovery, checkinGuard := a.checkinGuard }

/-- All of the things read, or none. -/
def readAll {α β : Type} {n : Nat} (f : α → Option β) (v : Vector α n) : Option (Vector β n) := v.mapM f

/-- The settings of a detector fit the tables as check 5 of R180 asks. -/
def detectorFits (t : Tables) (c : DetSettings) : Bool :=
  !c.readsGroups
    || (1 ≤ GroupSet.size c.groups && GroupSet.size c.groups ≤ 3 && (t.absentIn c.groups).isNone)

/-- The first detector of a half whose settings do not fit; `base` is the number before its first. -/
def detectorUnfit (t : Tables) (base : Nat) (v : Vector DetSettings 16) : Option Denial :=
  ((List.finRange 16).find? fun i => !detectorFits t v[i]).map fun i =>
    { status := .invalid, items := byte1 (base + number i) }

/-- The checks 3 to 5 of R180 and the clamps of check 6: what is written into the trial slot with the count of clamped
fields, or the refusal. DESIGN CHOICE (assumption 50): of several items that fail the same check, the first in number order is
named. -/
def takeSection (t : Tables) (trial : Trial) : PlanSectionArg → Except Denial (Trial × Nat)
  | .stages v =>
    match stageIds.findSome? fun k => (t.pairIn v[k]).map fun x => (k, x) with
    | some (k, x) =>
      .error { status := .conflict, items := byte1 (number k) ++ byte1 (number x.1) ++ byte1 (number x.2) }
    | none =>
      match stageIds.find? fun k => (t.absentIn v[k]).isSome with
      | some k => .error { status := .invalid, items := byte1 (number k) }
      | none => .ok ({ trial with stages := some v }, 0)
  | .sequence q =>
    match readSequence q with
    | none => .error { status := .range }
    | some q => .ok ({ trial with sequence := some (clampSequence q).1 }, (clampSequence q).2)
  | .groupTimesA v => .ok ({ trial with timesA := some (clampTimesA t v).1 }, (clampTimesA t v).2)
  | .groupTimesB v => .ok ({ trial with timesB := some (clampTimesB t v).1 }, (clampTimesB t v).2)
  | .detectorsA v =>
    match readAll readDetector v with
    | none => .error { status := .range }
    | some v =>
      match detectorUnfit t 0 v with
      | some d => .error d
      | none => .ok ({ trial with detsA := some (clampDetectors v).1 }, (clampDetectors v).2)
  | .detectorsB v =>
    match readAll readDetector v with
    | none => .error { status := .range }
    | some v =>
      match detectorUnfit t 16 v with
      | some d => .error d
      | none => .ok ({ trial with detsB := some (clampDetectors v).1 }, (clampDetectors v).2)
  | .priority v =>
    match readAll readApproach v with
    | none => .error { status := .range }
    | some v =>
      match approachIds.find? fun a => v[a].present && !t.tramFit v[a] with
      | some a => .error { status := .invalid, items := byte1 (number a) }
      | none => .ok ({ trial with priority := some (clampPriority v).1 }, (clampPriority v).2)

/-! ## The validation of a table draft (R29) -/

/-- The failure codes of R29, coded in this order. -/
inductive DraftFailure where
  | closeRange | opentRange | mtolRange | startRange | selfConflict | absentConflict | asymmetric | igMissing | igUnused
  | igShort
  deriving DecidableEq, Repr

/-- The code of a failure (R206). -/
def DraftFailure.code : DraftFailure → Nat
  | .closeRange => 0 | .opentRange => 1 | .mtolRange => 2 | .startRange => 3 | .selfConflict => 4
  | .absentConflict => 5 | .asymmetric => 6 | .igMissing => 7 | .igUnused => 8 | .igShort => 9

/-- A failure of the validation with the groups it names. -/
structure Failure where
  code : DraftFailure
  groups : List GroupId := []
  deriving DecidableEq, Repr

/-- The number lies within the bounds. -/
def within (n : Nat) (r : Nat × Nat) : Bool := r.1 ≤ n && n ≤ r.2

/-- Step 1 for one group. -/
def checkGroup (t : Tables) (g : GroupId) : Option Failure :=
  let d := t.groups[g]
  if !d.present then none
  else if !within d.close d.kind.closeRange then some { code := .closeRange, groups := [g] }
  else if !within d.opent d.kind.opentRange then some { code := .opentRange, groups := [g] }
  else none

/-- Steps 2 and 3. -/
def checkMonitor (m : MonitorStart) : Option Failure :=
  if !within m.mtol (2, 20) then some { code := .mtolRange }
  else if !within m.startFlash (0, 600) || !within m.startClear (30, 200) then some { code := .startRange }
  else none

/-- Step 4 for one listing: row `g` lists `h`. -/
def checkListing (t : Tables) (g h : GroupId) : Option Failure :=
  if h = g then some { code := .selfConflict, groups := [g] }
  else if !t.present g || !t.present h then some { code := .absentConflict, groups := [g, h] }
  else if !t.conflict h g then some { code := .asymmetric, groups := [g, h] }
  else none

/-- Step 5 for one ordered pair. -/
def checkPair (t : Tables) (e b : GroupId) : Option Failure :=
  match t.igEntry e b with
  | none => if t.conflict e b then some { code := .igMissing, groups := [e, b] } else none
  | some n =>
    if !t.conflict e b then some { code := .igUnused, groups := [e, b] }
    else if n < t.groups[e].close + t.groups[b].opent then some { code := .igShort, groups := [e, b] }
    else none

/-- The first failure of a draft, in the order of R29. -/
def validate (t : Tables) : Option Failure :=
  groupIds.findSome? (checkGroup t)
  <|> checkMonitor t.monitor
  <|> (groupIds.findSome? fun g => (GroupSet.members t.conflicts[g]).findSome? (checkListing t g))
  <|> (groupIds.findSome? fun e => groupIds.findSome? (checkPair t e))

/-! ## Activation (R84, R85, R142, R145, R185) -/

/-- The contents of a numbered slot are found to fail their integrity check (R185, R192). -/
def slotFails (n : PlanSlot) (s : State) : State := s.onSlot n fun x => { x with state := .invalid }

/-- Steps 2 and 4 of the activation check for a numbered slot: its contents, and the store as the read leaves it. -/
def readSlot (n : PlanSlot) (s : State) : State × Option Plan :=
  let x := s.slot n
  if x.state ≠ .valid then (s, none)
  else if x.intact then (s, x.contents)
  else (slotFails n s, none)

/-- The activation check from its second step on (R185, R188). -/
def checkContents (n : SlotNo) (s : State) : State × Except Denial Plan :=
  match s.pts.tables with
  | none => (s, .error { status := .invalid })
  | some t =>
    let x := match SlotNo.plan? n with
      | none => (s, s.pts.trial.complete?)
      | some k => readSlot k s
    match x.2 with
    | none => (x.1, .error { status := .invalid })
    | some p =>
      match wholePlanCheck t p with
      | some d => (x.1, .error d)
      | none => (x.1, .ok p)

/-- The activation check (R185). -/
def activationCheck (n : SlotNo) (s : State) : State × Except Denial Plan :=
  if s.beingWritten n then (s, .error { status := .busy }) else checkContents n s

/-- The active plan is fit to run (R145, R205). -/
def fitToRun (s : State) : Bool :=
  match s.seq.activeSlot with
  | none => false
  | some n =>
    match (activationCheck n s).2 with
    | .ok _ => true
    | .error _ => false

/-- PTS makes the active copy, with the count of clamped fields (R185). -/
def makeActiveCopy (p : Plan) (s : State) : State :=
  match s.pts.tables with
  | none => s
  | some t => s.onPts fun x => { x with activeCopy := some (clampPlan t p).1, clamped := (clampPlan t p).2 }

/-- The blocks are brought under the active plan, `old` being the plan before (R61, R114). -/
def blocksUnderPlan (old : Option Plan) (s : State) : State := (priUnderPlan (dtiUnderPlan old s)).push .retest

/-- A plan becomes the active plan. -/
def takePlan (n : SlotNo) (p : Plan) (s : State) : State :=
  let old := s.plan?
  blocksUnderPlan old ((makeActiveCopy p s).onSeq fun q => { q with activeSlot := some n })

/-- A PLAN_CHANGED report; `before` is the slot in force before (R85). -/
def reportPlan (before : Option SlotNo) (n : SlotNo) (o : PlanOutcome) (s : State) : State :=
  s.report (.planChanged before n o)

/-- An activation with its PLAN_CHANGED TAKEN: the state, and the denial when it fails (R85, R142). DESIGN CHOICE (assumption
48): PLAN_CHANGED follows the reports that DTI, SEQ and PRI make of the same activation. -/
def activate (n : SlotNo) (s : State) : State × Option Denial :=
  let before := s.seq.activeSlot
  match activationCheck n s with
  | (s, .error d) => (s, some d)
  | (s, .ok p) => (reportPlan before n .taken (takePlan n p s), none)

/-- JMC asks for activations in turn until one succeeds (R142). -/
def selectFrom : List PlanSlot → State → State × Bool
  | [], s => (s, false)
  | n :: rest, s =>
    match activate (slotOf n) s with
    | (s, none) => (s, true)
    | (s, some _) => selectFrom rest s

/-- The slots the start-plan selection tries: the start plan, then each VALID slot in number order (R142). -/
def selectionOrder (s : State) : List PlanSlot :=
  s.pts.startPlan :: planSlots.filter fun n => (s.slot n).state = .valid && n ≠ s.pts.startPlan

/-- The start-plan selection (R142). -/
def startPlanSelection (s : State) : State :=
  match selectFrom (selectionOrder s) s with
  | (s, true) => s
  | (s, false) =>
    let old := s.plan?
    let had := s.seq.activeSlot.isSome
    let s := (s.onSeq fun q => { q with activeSlot := none }).report .noValidPlan
    if had then blocksUnderPlan old s else s

/-! ## The change of tables (R2, R66, R175, R188) -/

/-- SGE brings one group into or out of presence at a commit, `was` being its presence before (R2). The groups of a commit are
taken in number order (assumption 36). DESIGN CHOICE (assumption 52): a group that stays present is sent no lamp command, though its
kind may have changed. -/
def commitGroup (was : GroupId → Bool) (g : GroupId) (s : State) : State :=
  if was g = s.present g then s
  else if s.jmc.mode = .flash then
    if s.present g then changeGroup g GroupRec.toFlash s else changeGroup g (fun _ => {}) s
  else if s.present g then s
  else s.onGrp g fun r => { extInput := r.extInput }

/-- CMON reads the new tables for one group (R175). -/
def commitMonitor (g : GroupId) (s : State) : State :=
  let s :=
    if s.present g then
      s.onMon g fun m =>
        { m with source := m.source.filter fun e => GroupSet.has (s.conflicts g) e }
    else s.onMon g fun m => { m with scr := 0, source := none, goTimer := 0, aspectTimer := 0, redTimer := 0 }
  endDifferences g s

/-- The tables in force are replaced by the committed ones (R175, R188). -/
def replaceTables (t : Tables) (s : State) : State :=
  let was := fun g => s.present g
  let s := s.onPts fun p => { p with tables := some t }
  let s := groupIds.foldl (fun s g => commitGroup was g s) s
  let s := groupIds.foldl (fun s g => if s.present g then s else s.onDem g fun _ => {}) s
  let s := groupIds.foldl (fun s g => commitMonitor g s) s
  (s.onCmon fun c => { c with integrity := false, compareTimer := Config.comparisonPeriod }).push .evaluate

/-- The active slot is checked again against the new tables (R188). -/
def recheckActive (s : State) : State :=
  match s.seq.activeSlot with
  | none => s
  | some n =>
    match checkContents n s with
    | (s, .ok p) => makeActiveCopy p s
    | (s, .error _) => reportPlan (some n) n .invalidated s

/-- PTS abandons a table write in flight (R188). -/
def abandonTableWrite (s : State) : State :=
  match s.pts.write with
  | some { target := .tables _, .. } =>
    (s.onPts fun p => { p with write := none }).report (.storeDone .tables .abandoned)
  | _ => s

end Sys2Proof.Machine
end

