-- ==== Sys2Proof/Machine/Sequencer.lean ====
section
/-! DEFINITION. The next-stage choice of the Stage Sequencer, the ending of a stage, the transition and the resume stack
(chapters 4 and 6). -/

namespace Sys2Proof.Machine

/-! ## Transitions (R81, R82, R86, R135) -/

/-- The stage status becomes RUNNING: the running notice goes out and readiness is tested (R82). Until that notice has
reached its blocks SEQ tests no readiness and chooses nothing (`mayChoose`, `retest`). -/
def becomeRunning (s : State) : State :=
  match s.seq.current with
  | none => s
  | some t => ((s.onSeq fun q => { q with status := some .running }).push (.running t)).push .retest

/-- The override a resumed stage's open commands carry (R135). -/
def overrideFor (resumeMin : Nat) (r : ResumeRec) : Override :=
  let m := max r.dSaved resumeMin
  { ming := m, maxg := max m r.budget }

/-- A transition to stage `t` begins, from the current groups (R81). DESIGN CHOICE (assumption 36): the close commands are given
before the open commands, each in ascending group number. -/
def beginTransition (t : StageId) (level : Nat) (resumed : Option ResumeRec) (s : State) : State :=
  let old := s.seq.groups
  let new := s.stageGroups t
  let starting := GroupSet.minus new old
  let carried := resumed.map (overrideFor s.sequence.resumeMin)
  let s := s.onSeq fun q =>
    { q with
      current := some t, groups := new, status := some .transition, starting := starting, level := level,
      knownReady := false, resumed := resumed.isSome }
  let s := (GroupSet.members (GroupSet.minus old new)).foldl (fun s g => closeCommand g s) s
  let s := (GroupSet.members starting).foldl (fun s g => openCommand g carried s) s
  if starting = 0 then becomeRunning s else s

/-- A group of the starting set has entered OPEN (R82). -/
def startedGroup (g : GroupId) (s : State) : State :=
  if s.seq.status = some .transition && GroupSet.has s.seq.starting g then
    let left := GroupSet.put s.seq.starting g false
    let s := s.onSeq fun q => { q with starting := left }
    if left = 0 then becomeRunning s else s
  else s

/-- The index of the first entry naming a stage, or 0 (R86). -/
def positionOf (l : List SeqEntry) (t : StageId) : Nat :=
  match (l.zipIdx 1).find? fun e => e.1.stage = t with
  | some e => e.2
  | none => 0

/-- JMC's start-up notice reaches SEQ (R86). DESIGN CHOICE (assumption 36): the groups are taken in number order, RECALL
then FAULT for each. -/
def startUpNotice (s : State) : State :=
  let s := s.presentGroups.foldl (fun s g => latchFromState g s) s
  let q := s.sequence
  let s := s.onSeq fun x => { x with position := positionOf q.entries q.startStage }
  (beginTransition q.startStage 0 none s).report (.stageChange none q.startStage .startup 0)

/-! ## What a choice yields (R76 to R80, R134) -/

/-- The step that yielded a stage, with what the ending needs of it. -/
inductive Yield where
  | manual
  | resumed (r : ResumeRec)
  | priority (ref : ReqRef) (level : Nat)
  | sequence (position : Nat)
  deriving DecidableEq, Repr

/-- The class of an ending (R79). -/
inductive EndClass where
  | ready | cut | expiry
  deriving DecidableEq, Repr

/-- The cause and the level of the chosen stage (R80). -/
def causeAndLevel : Yield → EndClass → StageCause × Nat
  | .manual, _ => (.manual, 0)
  | .resumed r, _ => (.resume, r.level)
  | .priority _ l, .expiry => (.truncated, l)
  | .priority _ l, _ => (.priority, l)
  | .sequence _, .expiry => (.truncated, 0)
  | .sequence _, _ => (.ready, 0)

/-- What a choice has come to: the state and the stage yielded, if any. -/
abbrev Choice := State × Option (StageId × Yield)

/-- Step 1 of the choice: the manual slot is taken (R157). -/
def chooseManual (s : State) : Choice :=
  match s.seq.manualSlot with
  | none => (s, none)
  | some (t, h) =>
    let kept : Bool := s.seq.current = some t
    let s := s.onSeq fun q => { q with manualSlot := none, manualHold := some h }
    let s := (s.report (.manualTaken t h s.seq.current kept)).push .retest
    if kept then (s, none) else (s, some (t, .manual))

/-- An entry is eligible: its stage is not `passed`, and it is ALWAYS or demanded (R77). -/
def eligible (s : State) (passed : Option StageId) (e : SeqEntry) : Bool :=
  some e.stage ≠ passed
    && (e.always
      || (GroupSet.members (s.stageGroups e.stage)).any fun g => (s.grp g).state ≠ .opened && (s.dem g).latched)

/-- The entry that answers an overdue group: the first whose stage holds it and is not `passed` (R78). -/
def entryFor (s : State) (passed : Option StageId) (l : List (SeqEntry × Nat)) (g : GroupId) :
    Option (SeqEntry × Nat) :=
  l.find? fun e => GroupSet.has (s.stageGroups e.1.stage) g && some e.1.stage ≠ passed

/-- The excess of an overdue group: its wait less its MAXWAIT (R78). -/
def excess (s : State) (g : GroupId) : Nat := (s.dem g).wait - (s.times g).maxwait

/-- The overdue group of largest excess that some entry answers, the lower number between equals, with that entry
(R78). -/
def mostOverdue (s : State) (passed : Option StageId) (l : List (SeqEntry × Nat)) : Option (SeqEntry × Nat) :=
  (groupIds.foldl (fun best g =>
    if s.overdue g then
      match entryFor s passed l g with
      | none => best
      | some e =>
        match best with
        | none => some (excess s g, e)
        | some (x, _) => if excess s g > x then some (excess s g, e) else best
    else best) (none : Option (Nat × (SeqEntry × Nat)))).map Prod.snd

/-- Step 5 of the choice, `passed` being the stage counted as current (R77, R78, R84). -/
def chooseEntry (passed : Option StageId) (s : State) : Option (StageId × Yield) :=
  let q := s.sequence
  let l := q.entries.zipIdx 1
  let found : Option (SeqEntry × Nat) := match q.mode with
    | .cyclic => (l.drop s.seq.position ++ l.take s.seq.position).find? fun e => eligible s passed e.1
    | .ranked => mostOverdue s passed l <|> l.find? fun e => eligible s passed e.1
  found.map fun e => (e.1.stage, Yield.sequence e.2)

/-- The plan switch of step 4 may be tried (R76). -/
def switchPermitted (s : State) : Bool :=
  s.jmc.mode = .normal && s.seq.stack.isEmpty && s.ruling.isNone
    && approachIds.all (fun a => (s.app a).episode ≠ .planned && (s.app a).episode ≠ .serving)
    && s.pri.calls.all fun c => c.state ≠ .serving

/-- The switch to the pending plan `n`, once it has passed its check (R84). DESIGN CHOICE (assumption 36): RECALL is latched
in the order of the groups' numbers. -/
def switchPlan (n : SlotNo) (p : Plan) (s : State) : State :=
  let before := s.seq.activeSlot
  let s := takePlan n p s
  let s := s.onSeq fun q => { q with pendingPlan := none, position := 0 }
  let s := s.presentGroups.foldl (fun s g =>
    if (s.grp g).state = .closed && (s.times g).recallOn then latch g .recalled s else s) s
  reportPlan before n .taken s

/-- The stage of the first entry of the list, which the choice yields after a switch when no entry is eligible
(R84). -/
def firstEntry (s : State) : Option (StageId × Yield) :=
  s.sequence.entries.head?.map fun e => (e.stage, .sequence 1)

/-- Steps 4 to 6 of the choice (R76, R84). -/
def chooseOrdinary (s : State) : Choice :=
  match s.seq.pendingPlan, switchPermitted s with
  | some n, true =>
    match activationCheck n s with
    | (s, .ok p) =>
      let s := switchPlan n p s
      (s, chooseEntry none s <|> firstEntry s)
    | (s, .error d) =>
      let s :=
        if d.status = .busy then s
        else reportPlan s.seq.activeSlot n .discarded (s.onSeq fun q => { q with pendingPlan := none })
      (s, chooseEntry s.seq.current s)
  | _, _ => (s, chooseEntry s.seq.current s)

/-- The ruling request as steps 2 and 3 use it: its priority stage is not the current stage (R76, R134). -/
def rulingElsewhere (s : State) : Option ReqRef :=
  match s.ruling with
  | some q => if some (s.prioStage q) = s.seq.current then none else some q
  | none => none

/-- The yield of a ruling request: its priority stage at its level. -/
def yieldFor (s : State) (q : ReqRef) : StageId × Yield := (s.prioStage q, .priority q (s.reqLevel q))

/-- A popped record is discarded (R134). -/
def discarded (s : State) (r : ResumeRec) : Bool :=
  some r.stage = s.seq.current || (r.level > 0 && !(r.request.any s.stillWaits))

/-- Steps 2 to 6 of the choice, the list being what is left of the resume stack (R76, R134). -/
def chooseFrom : List ResumeRec → State → Choice
  | [], s =>
    let s := s.onSeq fun q => { q with stack := [] }
    match rulingElsewhere s with
    | some q => (s, some (yieldFor s q))
    | none => chooseOrdinary s
  | r :: rest, s =>
    match (rulingElsewhere s).filter fun q => s.reqLevel q > r.level with
    | some q => (s.onSeq fun x => { x with stack := r :: rest }, some (yieldFor s q))
    | none =>
      if discarded s r then chooseFrom rest s
      else (s.onSeq fun q => { q with stack := rest }, some (r.stage, .resumed r))

/-- The steps of the choice (R76). -/
def choose (s : State) : Choice := if s.jmc.mode = .manual then chooseManual s else chooseFrom s.seq.stack s

/-! ## Ending a stage (R79, R131 to R133, R136) -/

/-- The resume record of the stage that ends (R131, R132). -/
def resumeRecord (s : State) (t : StageId) : ResumeRec :=
  let l := GroupSet.members s.seq.groups
  { stage := t
    level := s.seq.level
    dSaved := largest (l.map fun g => (s.grp g).mgRem)
    budget := largest (l.map s.budget)
    request := if s.seq.level > 0 then s.pri.own else none }

/-- The level is above that of every record of the stack, as the levels of R133 rise: above that of the top. -/
def aboveTop (level : Nat) : List ResumeRec → Bool
  | [] => true
  | r :: _ => level > r.level

/-- The conditions of R132 for a push. DEDUCED (assumption 26): "The resume stack holds at most 3 records, and the
interrupted levels of its records strictly increase from bottom to top" (R133), so a stage whose level is not above the
top record's is not pushed. -/
def pushes (s : State) (c : EndClass) : Bool :=
  c ≠ .ready && (s.seq.level = 0 || s.pri.own.any s.stillWaits) && s.seq.stack.length < 3
    && aboveTop s.seq.level s.seq.stack

/-- The request a chosen stage is run for (R136). -/
def ownFor : Yield → Option ReqRef
  | .priority q _ => some q
  | .resumed r => r.request
  | _ => none

/-- The current stage ends and the transition to the chosen stage begins (R79). -/
def endStage (c : EndClass) (t : StageId) (y : Yield) (s : State) : State :=
  match s.seq.current with
  | none => s
  | some old =>
    let push := pushes s c
    let rec' := resumeRecord s old
    let s := s.onSeq fun q =>
      { q with
        stack := if push then rec' :: q.stack else q.stack
        h := none, mark := none, holdFreeSeen := false, knownReady := false
        position := match y with | .sequence k => k | _ => q.position }
    let s := priStageEnded old (ownFor y) s
    let x := causeAndLevel y c
    let s := s.report (.stageChange (some old) t x.1 x.2)
    beginTransition t x.2 (match y with | .resumed r => some r | _ => none) s

/-- SEQ makes the next-stage choice, `expired` when it is made at the expiry of H (R74, R75, R79). -/
def makeChoice (expired : Bool) (s : State) : State :=
  let c : EndClass := if s.readyWith false then .ready else if s.ready then .cut else .expiry
  match choose s with
  | (s, some (t, y)) => endStage c t y s
  | (s, none) => if expired then clearEnd s else s

/-- SEQ may choose at all: the mode is NORMAL or MANUAL and the current stage RUNNING (R74), its running notice no longer
on the way (R82). -/
def mayChoose (s : State) : Bool :=
  (s.jmc.mode = .normal || s.jmc.mode = .manual) && s.stageRunning && !s.runningAwaited

/-- An event of R74 other than the stage's becoming ready: SEQ chooses if the stage is ready. -/
def chooseIfReady (s : State) : State :=
  if mayChoose s && s.ready then makeChoice false (s.onSeq fun q => { q with knownReady := true }) else s

/-- SEQ first finds every condition of readiness but hold met: hold-free ready seen, and the notice to PRI (R73). -/
def noteHoldFree (s : State) : State :=
  if s.jmc.mode = .normal && s.doneButHold s.cutInForce && s.stageHeld && !s.seq.holdFreeSeen then
    readyButForHold (s.onSeq fun q => { q with holdFreeSeen := true })
  else s

/-- SEQ tests readiness (R71, R73); the stage's becoming ready is an event of R74. A stage just become RUNNING is tested
once its running notice has been handled (R82). -/
def retest (s : State) : State :=
  if s.runningAwaited then s
  else
    let s := noteHoldFree s
    if !mayChoose s then s
    else if s.ready then (if s.seq.knownReady then s else chooseIfReady s)
    else s.onSeq fun q => { q with knownReady := false }

/-- The end countdown stands at 0: its expiry (R75). -/
def endCountdownExpired (s : State) : State :=
  if s.seq.h = some 0 && s.jmc.mode = .normal && s.stageRunning then makeChoice true s else s

/-! ## Modes (R87, R88) -/

/-- SEQ's record as an entry into CLEARING leaves it (R88). -/
def Seq.abandoned (q : Seq) : Seq :=
  { q with
    current := none, groups := 0, status := none, starting := 0, h := none, mark := none, holdFreeSeen := false,
    stack := [], manualSlot := none, manualHold := none, knownReady := false, resumed := false }

/-- SEQ abandons its current stage and any transition (R88). -/
def seqAbandon (s : State) : State := s.onSeq Seq.abandoned

/-- SEQ at an entry into MANUAL (R87). -/
def seqManual (s : State) : State :=
  s.onSeq fun q => { q with stack := [], h := none, mark := none, holdFreeSeen := false }

/-- SEQ at the return from MANUAL to NORMAL (R87). -/
def seqNormal (s : State) : State := s.onSeq fun q => { q with manualSlot := none, manualHold := none }

end Sys2Proof.Machine
end

