-- ==== Sys2Proof/Machine/Modes.lean ====
section
/-! DEFINITION. The operations of the Junction Mode Controller (chapter 7): the change of mode with its report, and the
entries into NORMAL, MANUAL, CLEARING, DARK and the FLASH of a running junction, with what they order the other blocks to
do. Start-up and the entries into FLASH from DARK, at which CMON looks at sources that come to be checked, follow the
monitor's operations in `StartUp`. -/

namespace Sys2Proof.Machine

/-! ## Changes of mode and phase (R139, R140) -/

/-- CMON at a change of mode: the SAFE drop timer ends with FLASH (R171), an entry into DARK clears the timers (R166),
and a condition whose source the new mode does not check may occur again (R167). The two entries at which a source comes to
be checked, into FLASH from DARK and into STARTUP, evaluate at once besides (`evaluate`). DEDUCED (assumption 49): a source
that stays present between two modes that both check it does not occur again, as R167 says, a FAULT_CLEAR between them or not
(R172). -/
def monitorMode (before : Mode) (s : State) : State :=
  let s := s.onCmon fun c => { c with dropTimer := if before = .flash then 0 else c.dropTimer }
  let s :=
    if s.jmc.mode = .dark then
      s.onCmon fun c =>
        { c with
          dropTimer := 0
          recs := c.recs.map fun m => { m with goTimer := 0, aspectTimer := 0, redTimer := 0 } }
    else s
  s.onCmon fun c => { c with counted := c.counted.filter s.condCounts }

/-- JMC changes the mode, with its MODE_CHANGED report (R140). `before` is the mode the report gives as the one
before. -/
def setModeFrom (before m : Mode) (phase : Option Phase) (dark : Option DarkCause) (cause : ModeCause) (s : State) :
    State :=
  let old := s.jmc.mode
  let s := s.onJmc fun j => { j with mode := m, phase := phase, darkCause := dark }
  (monitorMode old s).report (.modeChanged before m phase dark cause)

/-- JMC changes the mode from the present one. -/
def setMode (m : Mode) (phase : Option Phase) (dark : Option DarkCause) (cause : ModeCause) (s : State) : State :=
  setModeFrom s.jmc.mode m phase dark cause s

/-- JMC changes the start-up phase and timer, with the MODE_CHANGED report of a phase (R140, R147, R148). -/
def setPhase (p : Phase) (timer : Nat) (s : State) : State :=
  (s.onJmc fun j => { j with phase := some p, timer := timer }).report
    (.modeChanged .startup .startup (some p) none .phase)

/-- The start-up fields as they are outside a start-up (R149, R152). DESIGN CHOICE (assumption 42): an entry into CLEARING from
NORMAL or MANUAL sets first stage running to no as one from FIRST_STAGE does. -/
def endStartUp (s : State) : State := s.onJmc fun j => { j with phase := none, timer := 0, firstRunning := false }

/-! ## NORMAL and MANUAL (R113, R148, R155) -/

/-- What a mode that becomes NORMAL gives PRI and SEQ to do: the ruling request, the heads that take over a green
(R104, R113), and the choice (R74). DESIGN CHOICE (assumption 53): PRI acts before SEQ chooses. DESIGN CHOICE (assumption 46):
the approaches are taken in number order. -/
def normalBegins (s : State) : State :=
  let s := approachIds.foldl (fun s a => if takesOver s a then serveHead a s else s) s
  ((s.push .redetermine).push .retest).push .choose

/-- JMC enters NORMAL at the end of start-up (R148). -/
def enterNormal (s : State) : State := normalBegins (setMode .normal none none .startupDone s)

/-- JMC enters MANUAL (R87, R155). -/
def enterManual (s : State) : State :=
  ((priEndNormal (seqManual (setMode .manual none none .request s))).push .retest).push .choose

/-- JMC returns from MANUAL to NORMAL (R87, R155). -/
def leaveManual (s : State) : State := normalBegins (seqNormal (setMode .normal none none .request s))

/-! ## FLASH (R88, R149, R151, R152) -/

/-- What every entry into FLASH orders: the groups flash, SEQ abandons its stage, PRI stops (R20, R21, R88, R113). -/
def flashOrders (s : State) : State := priFlash (seqAbandon (groupsToFlash s))

/-- A fatal fault forces FLASH; in FLASH and DARK it changes no mode (R152, R170). -/
def forceFlash (s : State) : State :=
  if s.jmc.mode = .flash || s.jmc.mode = .dark then s
  else
    flashOrders (setMode .flash none none .fault (endStartUp s)) |>.onSeq fun q => { q with pendingPlan := none }

/-- A MODE_REQUEST FLASH ends the first two phases of a start-up (R149). -/
def flashFromStartUp (s : State) : State := flashOrders (setMode .flash none none .request (endStartUp s))

/-- SEQ activates its pending plan at the entry into FLASH from CLEARING (R88). -/
def takePending (s : State) : State :=
  match s.seq.pendingPlan with
  | none => s
  | some n =>
    let before := s.seq.activeSlot
    let x := activate n (s.onSeq fun q => { q with pendingPlan := none })
    match x.2 with
    | none => x.1
    | some _ => reportPlan before n .discarded x.1

/-- CLEARING has ended: JMC enters FLASH (R151). -/
def endClearing (s : State) : State := takePending (flashOrders (setMode .flash none none .cleared s))

/-- Every present group is CLOSED with CR 0 (R34, R151). -/
def allClear (s : State) : Bool := s.presentGroups.all fun g => (s.grp g).state = .closed && (s.grp g).cr = 0

/-- JMC enters CLEARING (R150), the close commands in the order of the groups' numbers (assumption 36). -/
def enterClearing (s : State) : State :=
  let s := setMode .clearing none none .request (endStartUp s)
  let s := priEndNormal (seqAbandon s)
  (s.presentGroups.foldl (fun s g => closeCommand g s) s).push .watch

/-! ## DARK (R143, R153) -/

/-- JMC enters DARK (R88, R153). -/
def enterDark (why : DarkCause) (cause : ModeCause) (s : State) : State :=
  seqAbandon (groupsToDark (setMode .dark none (some why) cause s))

end Sys2Proof.Machine
end

