-- ==== Sys2Proof/Machine/Monitor.lean ====
section
/-! DEFINITION. The operations of the Conflict Monitor (chapter 8): lamp sense records, the shadow clearance, the occurrence
of faults, the second failure, and the comparison of the tables. -/

namespace Sys2Proof.Machine

/-! ## Occurrences (R167, R169, R170) -/

/-- The groups a FAULT report names for a condition (R169). -/
def condGroups (s : State) : Cond → List GroupId
  | .conflictGo g h => [g, h]
  | .intergreenShort g => g :: (s.mon g).source.toList
  | .goMismatch g => [g]
  | .aspectMismatch g => [g]
  | .redOut g => [g]
  | .senseSilent g => [g]
  | .tableIntegrity => []

/-- The fault record as an occurrence leaves it (R169, R171): the source latched, the first fault, the lockout. -/
def Cmon.note (c : Cmon) (src : FaultSource) (gs : List GroupId) (becomesFirst locks : Bool) (time : JTime) : Cmon :=
  { c with
    latched := SourceSet.add c.latched src
    first := if becomesFirst then some { source := src, groups := gs, time := time } else c.first
    lockout := c.lockout || locks }

/-- One occurrence is handled in the steps of R169. DEDUCED (assumption 54): it reports "lockout set" only when it has found lockout
clear. -/
def occur (s : State) (x : Cond) : State :=
  let src := x.source
  let gs := condGroups s x
  let fatal := SourceSet.has s.monitorStart.fatal src
  let becomesFirst := fatal && s.cmon.first.isNone
  let locks := fatal && s.cmon.window > 0 && !s.cmon.lockout
  let action : FaultAction := if fatal && s.jmc.mode ≠ .flash then .flashForced else .latched
  let s := s.onCmon fun c => c.note src gs becomesFirst locks s.time
  let s := s.report (.fault src gs fatal action becomesFirst locks)
  if fatal then forceFlash s else s

/-! ## The comparison of the tables (R165) -/

/-- The working copy fails against the check value of the copy it was loaded from. -/
def comparisonFails (s : State) : Bool :=
  match s.pts.tables, s.pts.areas[s.pts.currentArea] with
  | some t, some x => tablesCheck t ≠ x.check
  | some _, none => true
  | none, _ => false

/-- The comparison in progress has run its 50 tenths (R165). -/
def comparisonDue (s : State) : Bool := s.pts.tables.isSome && s.cmon.compareTimer = 0

/-- A comparison ends with the condition TABLE_INTEGRITY present or absent, and the next begins. DESIGN CHOICE (assumption
43): one that ends in DARK sets the condition too. -/
def finishComparison (s : State) : State :=
  let bad := comparisonFails s
  dropEnded (s.onCmon fun c => { c with integrity := bad, compareTimer := Config.comparisonPeriod })

/-! ## What CMON finds when it looks (R167, R170) -/

/-- The conditions that now count and have not occurred. -/
def newConds (s : State) : List Cond := allConds.filter fun x => s.condCounts x && !(x ∈ s.cmon.counted)

/-- A comparison due at the moment of an occurrence ends at that moment, before the FLASH the occurrence may force. -/
def comparedIfDue (s : State) : State := if comparisonDue s then finishComparison s else s

/-- CMON looks at its conditions: those that now count and did not before occur, one after another in a free order. Every
condition present at the moment is taken before the first of them can force FLASH, which would end the checking of the
others: "Either order latches both sources, sends two FAULT reports and makes one forced FLASH" (R170). -/
def evaluate (s : State) : State :=
  if (newConds s).isEmpty then s
  else
    let s := comparedIfDue s
    let new := newConds s
    let x := freeOrder new s
    let s := x.1.foldl occur x.2
    s.onCmon fun c => { c with counted := (c.counted ++ new).filter s.condCounts }

/-- The mismatch conditions of a group (R164). -/
def mismatchConds (g : GroupId) : List Cond := [.goMismatch g, .aspectMismatch g, .redOut g]

/-- Some of the conditions counts and has not occurred. -/
def occursAmong (s : State) (l : List Cond) : Bool := l.any fun x => s.condCounts x && !(x ∈ s.cmon.counted)

/-! ## Lamp sense records (R159 to R161) -/

/-- GOC[e]: CLOSE of a PEDESTRIAN group, 0 otherwise (R161). -/
def goClosing (s : State) (e : GroupId) : Nat := if s.kind e = .pedestrian then (s.groupDef e).close else 0

/-- A go-lamp end of `e` raises the shadow clearance of every conflicting group (R161). -/
def raiseShadow (e : GroupId) (s : State) : State :=
  (GroupSet.members (s.conflicts e)).foldl (fun s b =>
    let v := s.ig e b - goClosing s e
    s.onMon b fun m => if v > m.scr then { m with scr := v, source := some e } else m) s

/-- A valid record replaces the group's sensed lamps (R160), with what follows for the shadow and the conditions. -/
def sense (g : GroupId) (red amber go redCurrent : Bool) (s : State) : State :=
  let ended := s.present g && (s.mon g).go && !go
  let s := s.onMon g fun m =>
    { m with red := red, amber := amber, go := go, redCurrent := redCurrent, arrival := s.time, silence := 0 }
  let s := if ended then raiseShadow g s else s
  (endDifferences g s).push .evaluate

/-- A lamp sense record arrives (R159). -/
def senseRecord (group : Nat) (red amber go redCurrent passesParity : Bool) (s : State) : State :=
  match groupNumbered group with
  | none => s
  | some g => if passesParity then sense g red amber go redCurrent s else s

/-- CMON looks when one of the conditions given occurs; what has become present at the same moment occurs with it
(R170). -/
def evaluateIf (l : List Cond) (s : State) : State := if occursAmong s l then evaluate s else s

/-- A comparison completes, and TABLE_INTEGRITY may occur. -/
def completeComparison (s : State) : State := evaluateIf [.tableIntegrity] (finishComparison s)

/-! ## The second failure (R171) -/

/-- The second failure is due. -/
def safeDropDue (s : State) : Bool :=
  s.jmc.mode = .flash && s.cmon.dropTimer ≥ Config.safeDropTime && s.goMismatchPresent

/-- CMON drops SAFE, reporting "lockout set" as an occurrence does (R171, assumption 54). -/
def dropSafe (s : State) : State :=
  let gs := (groupIds.find? fun g => s.condPresent (.goMismatch g)).toList
  let becomesFirst := s.cmon.first.isNone
  let locks := s.cmon.window > 0 && !s.cmon.lockout
  let fatal := SourceSet.has s.monitorStart.fatal .goMismatch
  let s := s.onCmon fun c => { c.note .goMismatch gs becomesFirst locks s.time with safeDropped := true }
  enterDark .safeDropped .safeDropped
    (s.report (.fault .goMismatch gs fatal .safeDropped becomesFirst locks))

/-! ## FAULT_CLEAR (R172) -/

/-- The first source, in the order of R167, that is fatal and whose condition is present. -/
def persisting (s : State) : Option FaultSource :=
  faultSources.find? fun f => SourceSet.has s.monitorStart.fatal f && s.sourcePresent f

/-- The fault record is cleared and the restart window loaded. -/
def clearFaults (s : State) : State :=
  s.onCmon fun c => { c with first := none, latched := 0, lockout := false, window := Config.restartWindow }

end Sys2Proof.Machine
end

