-- ==== Sys2Proof/Machine/StartUp.lean ====
section
/-! DEFINITION. The operations of the Junction Mode Controller (chapter 7) that need the monitor's evaluation: the entries into
FLASH from DARK, start-up and the start check, what JMC watches, and RESTART. -/

namespace Sys2Proof.Machine

/-! ## FLASH from DARK (R141, R153, R166) -/

/-- A MODE_REQUEST FLASH ends a requested DARK (R153). "A group whose board has stayed silent through DARK therefore shows
SENSE_SILENT at the entry into FLASH" (R166). -/
def flashFromDark (s : State) : State := evaluate (flashOrders (setMode .flash none none .request s))

/-! ## Start-up (R145 to R148) -/

/-- ALL_RED begins (R147). -/
def beginAllRed (s : State) : State :=
  startUpNotice (groupsToAllRed (setPhase .allRed s.monitorStart.startClear s))

/-- ALL_RED ends (R147). -/
def beginFirstStage (s : State) : State := (setPhase .firstStage 0 s).push .watch

/-- JMC enters STARTUP (R146); a table write in flight is abandoned (R188). The sources that come to be checked occur at the
change of mode (R167), before a START_FLASH of 0 passes the phase to ALL_RED: a fatal one forces FLASH instead. -/
def enterStartUp (cause : ModeCause) (s : State) : State :=
  let t := s.monitorStart.startFlash
  let s := s.onJmc fun j => { j with timer := t, firstRunning := false }
  let s := evaluate (abandonTableWrite (setMode .startup (some .startFlashing) none cause s))
  if t = 0 && s.jmc.mode = .startup then beginAllRed s else s

/-- The first two checks of R145: the state they leave, and the status with which a start is refused. -/
def startCheck (s : State) : State × Option Status :=
  if s.faultLatched then (s, some .faultLatched)
  else
    let x : State × Bool := match s.seq.activeSlot with
      | none => (s, false)
      | some n =>
        match activationCheck n s with
        | (s, .ok p) => (makeActiveCopy p s, true)
        | (s, .error _) => (s, false)
    if x.2 then (x.1, none)
    else
      let s := startPlanSelection x.1
      if s.seq.activeSlot.isSome then (s, none) else (s, some .invalid)

/-- AUTOSTART after the entry into FLASH (R141, R145). -/
def autostart (s : State) : State :=
  if s.monitorStart.autostart then
    match startCheck s with
    | (s, none) => enterStartUp .autostart s
    | (s, some _) => s
  else s

/-- JMC acts on tables in force: SAFE requested, FLASH, the start-plan selection, AUTOSTART (R141, R154). A source that FLASH
checks and DARK does not occurs at the entry (R166, R167), so a fatal SENSE_SILENT stops AUTOSTART at its first check
(R145). -/
def tablesVerified (before : Mode) (cause : ModeCause) (s : State) : State :=
  let s := s.onJmc fun j => { j with safeRequest := true }
  let s := evaluate (groupsToFlash (setModeFrom before .flash none none cause s))
  autostart (startPlanSelection s)

/-- JMC acts on there being no tables (R141, R154). -/
def tablesFailed (s : State) : State :=
  (s.onJmc fun j => { j with mode := .dark, darkCause := some .noTables }).report .noTables

/-! ## What JMC watches (R147, R148, R151) -/

/-- A present group is in OPENING or OPEN (R147). -/
def anyAdmitted (s : State) : Bool :=
  s.presentGroups.any fun g => (s.grp g).state = .opening || (s.grp g).state = .opened

/-- JMC looks at the groups and the first stage (R147, R148, R151). A group that has left OPEN for CLOSED sends its leaving
notice before JMC is told to look, so a notice still on the way has another look behind it; with it handled no approach is
SERVING when the pending plan is taken (R114). -/
def watch (s : State) : State :=
  match s.jmc.mode, s.jmc.phase with
  | .startup, some .allRed => if anyAdmitted s then beginFirstStage s else s
  | .startup, some .firstStage => if s.jmc.firstRunning then enterNormal s else s
  | .clearing, _ => if allClear s && !s.leavingAwaited then endClearing s else s
  | _, _ => s

/-- SEQ's running notice reaches JMC: it records it in a start-up (R148). -/
def jmcRunning (s : State) : State :=
  if s.jmc.mode = .startup then (s.onJmc fun j => { j with firstRunning := true }).push .watch else s

/-! ## RESTART (R154) -/

/-- SGE, SEQ, PRI, DTI and JMC take their values after power-on reset, JMC keeping its SAFE request. For CMON this is
an entry into DARK. -/
def reinitialise (s : State) : State :=
  monitorMode .flash
    { s with
      sge := Sge.reset, seq := {}, pri := {}, dti := Dti.reset, jmc := { safeRequest := s.jmc.safeRequest }
      notices := [] }

/-- A RESTART that is taken, once it has been answered (R154). -/
def restartPart (s : State) : State :=
  let before := s.jmc.mode
  let s := reinitialise s
  if s.pts.tables.isSome then tablesVerified before .restart s else tablesFailed s

end Sys2Proof.Machine
end

