-- ==== Sys2Proof/Machine/Notices.lean ====
section
/-! DEFINITION. How the reactions of one command are worked off: each notice reaches its block, in the order sent
(assumption 3). -/

namespace Sys2Proof.Machine

/-- SGE's entry notice (R10): SEQ clears the demand and goes on with its transition (R70, R82), and PRI serves the
approaches of the group (R104). -/
def groupEntered (g : GroupId) (s : State) : State :=
  (priEntered g (startedGroup g (clearDemand g s))).push .retest

/-- SGE's leaving notice (R12, R20): PRI empties the holders and ends services (R105, R130). A group whose demand stood
through its green may become overdue as it leaves (R66, R74). -/
def groupLeft (g : GroupId) (s : State) : State :=
  let s := (priLeft g s).push .retest
  if s.overdue g then s.push .choose else s

/-- SGE's closed notice (R13): SEQ latches from state (R68), and admission is tested (R8). -/
def groupClosed (g : GroupId) (s : State) : State := admitWaiting (latchFromState g s)

/-- One notice reaches its block. While SEQ's running notice is on the way PRI leaves the ruling request to it: its three
steps determine the request anew (R119). -/
def handle (n : Notice) (s : State) : State :=
  match n with
  | .entered g => groupEntered g s
  | .left g => groupLeft g s
  | .closed g => groupClosed g s
  | .retest => retest s
  | .choose => chooseIfReady s
  | .running t => jmcRunning (priRunning t s)
  | .redetermine => if s.runningAwaited then s else determineRuling false s
  | .endExpiry => endCountdownExpired s
  | .capExpiry a => capExpired a s
  | .watch => watch s
  | .evaluate => evaluate s

/-- The waiting notices are worked off, oldest first, at most `fuel` of them (assumption 4). -/
def settle : Nat → State → State
  | 0, s => s
  | fuel + 1, s =>
    match s.notices with
    | [] => s
    | n :: rest => settle fuel (handle n { s with notices := rest })

/-- The state as a command finds it: no lamp command of this command yet on the lamp drive line. -/
def State.begun (s : State) : State := s.onSge fun e => { e with lampLine := [] }

/-- A command that acts through `f`, with every reaction that follows. -/
def perform (f : State → State) (s : State) : State := settle Config.reactionBound (f s.begun)

end Sys2Proof.Machine
end

