-- ==== Sys2Proof/Machine/Replies.lean ====
section
/-! DEFINITION. The items of the queries' replies, in the order their rules list them and coded as R206 gives; points the
layouts leave open are those of assumptions 11 and 13. -/

namespace Sys2Proof.Machine

/-! ## STATUS (R205, R206) -/

/-- The clearance to run (R39). -/
def clearanceToRun (s : State) : Nat :=
  if s.seq.status = some .transition then
    largest ((((GroupSet.members s.seq.groups).filter fun g => (s.grp g).state = .closed && (s.grp g).openPending)).map
      fun g => (s.grp g).cr - (s.groupDef g).opent)
  else 0

/-- Bits of one byte, bit 0 first. -/
def byteBits (l : List Bool) : List Byte :=
  byte1 ((l.zipIdx.map fun b => if b.1 then 2 ^ b.2 else 0).sum)

/-- The bytes 2 to 135 of the STATUS reply body. -/
def statusItems (s : State) : List Byte :=
  byte1 s.jmc.mode.code ++ byteOptCode (s.jmc.darkCause.map DarkCause.code) ++ byteOptCode (s.jmc.phase.map Phase.code)
    ++ byte2 s.jmc.timer
    ++ byteBits [s.jmc.firstRunning, s.jmc.safeRequest, s.safeOutput]
    ++ byteOptCode (s.seq.activeSlot.map fun n => n.val) ++ byteOptCode (s.seq.pendingPlan.map fun n => n.val)
    ++ byteBits [fitToRun s]
    ++ byteOptStage s.seq.current ++ byteOptCode (s.seq.status.map StageStatus.code) ++ byte1 s.seq.level
    ++ byte1 s.seq.position ++ byteOptCode (s.plan?.map fun p => p.sequence.mode.code)
    ++ byteSet s.seq.groups ++ byteSet s.seq.starting
    ++ byteBits [s.ready, s.cutInForce]
    ++ byteOptCount s.seq.h ++ byteOptStage s.seq.mark ++ byte1 s.seq.stack.length
    ++ byteOptStage (s.seq.manualSlot.map Prod.fst) ++ byteOptCount (s.seq.manualSlot.map Prod.snd)
    ++ byteOptCount s.seq.manualHold
    ++ byte1 (clearanceToRun s) ++ byte1 s.lnk.af ++ byte1 s.lnk.reports.length ++ byte1 s.lnk.replies.length
    ++ byte4 s.time
    ++ bytesOf (fun (d : Demand) => byteFlag d.latched ++ byte1 d.sources.toNat ++ byte2 d.wait) s.seq.demand.toList

/-! ## GROUPS (R23) -/

/-- The eight groups of a part 1 to 3. -/
def partGroups (part : Nat) : List GroupId := (groupIds.drop ((part - 1) * 8)).take 8

/-- One entry of the GROUPS reply. An absent group shows the values of R1 and no kind. -/
def groupEntry (s : State) (g : GroupId) : List Byte :=
  let p := s.present g
  let r := if p then s.grp g else {}
  byte1 (number g) ++ byteFlag p ++ byteOptCode (if p then some (s.kind g).code else none)
    ++ byte1 r.state.code ++ byteFlag r.openPending ++ byteFlag r.closePending
    ++ byte1 r.cr ++ byte1 r.phaseTimer ++ byte2 r.mgRem ++ byte2 r.openElapsed ++ byte1 r.gapTimer
    ++ byte1 r.ext.code ++ byte2 r.effMing ++ byte2 r.effMaxg ++ byteFlag r.hold ++ byteFlag r.wait

/-! ## DETECTOR (R60) -/

/-- The settings of a detector in the DETECTOR reply: kind UNUSED alone while there is no active plan. -/
def detectorSettings (s : State) (d : DetId) : List Byte :=
  match s.plan? with
  | none => byte1 DetKind.unused.code
  | some p => bytesDetector (p.det d)

/-- The items of the DETECTOR reply. -/
def detectorItems (s : State) (d : DetId) : List Byte :=
  let r := s.det d
  detectorSettings s d
    ++ byte1 (if demandOnUnder (s.detSet d) r then FaultMode.demandOn.code else FaultMode.quiet.code)
    ++ byteFlag r.mask ++ byte1 (if r.occupied then 0 else 1) ++ byteFlag r.settled
    ++ byteFlag (s.cause d).isSome ++ byteOptCode ((s.cause d).map DetCond.code) ++ bytesConditions r.conditions
    ++ byte2 r.sinceChange ++ byte1 r.silence ++ byte1 r.parityRun ++ byte1 r.goodRun ++ byte2 r.count
    ++ bytesOf (fun (e : RingEntry) => byte1 (if e.occupied then 0 else 1) ++ byte4 e.time) r.ring

/-! ## TRAMS and CALLS (R116, R117, R206) -/

/-- A tram record as reported, 12 bytes. -/
def tramEntry (r : TramRec) : List Byte :=
  byte1 r.tag
    ++ byte1 (r.source.code + (if r.vehicle.isSome then 2 else 0) + 4 * r.state.code)
    ++ byte2 (r.vehicle.getD 0) ++ byte4 r.checkIn ++ byte2 r.eta ++ byte2 r.age

/-- One approach of the TRAMS reply. An absent approach shows tram group and priority stage 0. -/
def approachEntry (s : State) (a : ApproachId) : List Byte :=
  let c := s.appSet a
  let x := s.app a
  byteFlag c.present ++ byte1 (if c.present then number c.tramGroup else 0)
    ++ byte1 (if c.present then number c.priorityStage else 0)
    ++ byte1 x.episode.code ++ byte2 x.recovery ++ byte1 x.checkinGuard ++ byte1 x.nextTag ++ byte1 x.queue.length
    ++ bytesOf tramEntry x.queue

/-- The items of the TRAMS reply. -/
def tramsItems (s : State) : List Byte := bytesOf (approachEntry s) approachIds ++ bytesRef s.ruling

/-- One call of the CALLS reply, every field of R108. -/
def callEntry (c : Call) : List Byte :=
  byte1 c.id ++ byte1 c.level.code ++ byte1 (number c.target) ++ byte2 c.eta ++ byte2 c.hold ++ byte2 c.remaining
    ++ byte2 c.age ++ byte1 c.state.code ++ byteOptStage c.servingStage

/-- A thing put into a list in order of its number. -/
def insertBy {α : Type} (number : α → Nat) (x : α) : List α → List α
  | [] => [x]
  | y :: l => if number x < number y then x :: y :: l else y :: insertBy number x l

/-- A list in order of the numbers of what it holds. -/
def inOrderOf {α : Type} (number : α → Nat) (l : List α) : List α := l.foldl (fun acc x => insertBy number x acc) []

/-- The calls in order of identifier (R117). -/
def callsInOrder (l : List Call) : List Call := inOrderOf Call.id l

/-- The items of the CALLS reply. -/
def callsItems (s : State) : List Byte :=
  byte1 s.pri.calls.length ++ bytesOf callEntry (callsInOrder s.pri.calls) ++ bytesRef s.ruling

/-! ## FAULTS (R176) -/

/-- The first fault: presence, source, groups and time (R168). -/
def bytesFirst : Option FirstFault → List Byte
  | none => byteFlag false ++ List.replicate 8 0
  | some f => byteFlag true ++ byte1 f.source.code ++ byteSet (GroupSet.ofList f.groups) ++ byte4 f.time

/-- One group of the FAULTS reply. -/
def monitorEntry (s : State) (g : GroupId) : List Byte :=
  let m := s.mon g
  byteFlag m.red ++ byteFlag m.amber ++ byteFlag m.go ++ byteFlag m.redCurrent ++ byte4 m.arrival ++ byte1 m.silence
    ++ byte1 m.scr ++ byteOpt1 (m.source.map number) ++ byte1 m.goTimer ++ byte1 m.aspectTimer ++ byte1 m.redTimer

/-- The items of the FAULTS reply. -/
def faultsItems (s : State) (part : Nat) : List Byte :=
  bytesFirst s.cmon.first ++ byte1 s.cmon.latched.toNat ++ byte2 s.cmon.window ++ byteFlag s.cmon.lockout
    ++ byteFlag s.cmon.safeDropped ++ byte1 s.cmon.dropTimer
    ++ byteFlag s.pins.commission ++ byte1 s.monitorStart.fatal.toNat ++ byte1 s.monitorStart.mtol
    ++ bytesOf (fun f => byteFlag (s.sourcePresent f) ++ byteFlag (f.checked s.jmc.mode)) faultSources
    ++ bytesOf (monitorEntry s) (partGroups part)

/-! ## STACK (R137) -/

/-- A resume record, every field of R131. -/
def resumeEntry (r : ResumeRec) : List Byte :=
  byte1 (number r.stage) ++ byte1 r.level ++ byte2 r.dSaved ++ byte2 r.budget ++ bytesRef r.request

/-- The standing plan, every field of R118, or its absence. -/
def bytesStanding : Option PlanRec → List Byte
  | none => byteFlag false ++ List.replicate 13 0
  | some p =>
    byteFlag true ++ bytesRef (some p.subject) ++ byte1 p.level ++ byte1 (number p.stage) ++ byte1 (number p.prio)
      ++ byte2 p.d ++ byte1 p.tTrans ++ byte2 p.l ++ byte2 p.h

/-- A cap: absent 0xFFFF, ARMED 0xFFFE, else the tenths remaining. -/
def bytesCap : Cap → List Byte
  | .absent => byte2 0xFFFF
  | .armed => byte2 0xFFFE
  | .loaded n => byte2 n

/-- The holders of a group: the approaches as a set, approach 1 at bit 0, then the calls by count and identifiers, these "in
number order" (R206, assumption 11). -/
def bytesHolders (l : List Holder) : List Byte :=
  let ids := l.filterMap fun h => match h with | .call id => some id | .approach _ => none
  byteBits (approachIds.map fun a => Holder.approach a ∈ l) ++ byte1 ids.length ++ bytesOf byte1 (inOrderOf id ids)

/-- The groups whose set of holders is not empty. -/
def heldGroups (s : State) : List GroupId := groupIds.filter fun g => !(s.holders g).isEmpty

/-- The items of the STACK reply, the resume records from bottom to top. -/
def stackItems (s : State) : List Byte :=
  byte1 s.seq.stack.length ++ bytesOf resumeEntry s.seq.stack.reverse ++ bytesStanding s.pri.standing
    ++ bytesRef s.pri.own ++ bytesOf bytesCap s.pri.caps.toList
    ++ bytesOf (fun g => byte1 (number g) ++ bytesHolders (s.holders g)) (heldGroups s)

/-! ## PLAN_READ and TABLE_READ (R192) -/

/-- The directory: slot states, completeness of the trial slot, P, lock, start plan, the write in flight. DESIGN CHOICE
(assumption 11): with no write in flight its remaining time is 0. -/
def directoryItems (s : State) : List Byte :=
  let w : Option StoreTarget := s.pts.write.map fun w =>
    match w.target with
    | .slot n _ => .slot n
    | .tables _ => .tables
  bytesOf (fun (x : Slot) => byte1 x.state.code) s.pts.slots.toList
    ++ byteFlag s.pts.trial.complete?.isSome ++ byte1 s.pts.protect ++ byteFlag s.pts.locked
    ++ byte1 (number s.pts.startPlan) ++ bytesTarget w
    ++ byte1 (match s.pts.write with | some w => w.remaining | none => 0)

/-- What PLAN_READ adds when the named slot is the active slot: fitness and the count of clamped fields. -/
def activeItems (s : State) (n : SlotNo) : List Byte :=
  if s.seq.activeSlot = some n then byteFlag (fitToRun s) ++ byte1 s.pts.clamped else []

/-- The named section of the named slot: of the active copy for the active slot, marked present or absent for the trial
slot, nothing for a slot that is not VALID. DESIGN CHOICE (assumption 39): the active slot is answered from the active copy
when its state is INVALID too. -/
def planContents (s : State) (n : SlotNo) (k : PlanSectionName) : List Byte :=
  if s.seq.activeSlot = some n then
    match s.plan? with
    | some p => (if n = 0 then byteFlag true else []) ++ planSectionBytes p k
    | none => []
  else
    match SlotNo.plan? n with
    | none => trialSectionBytes s.pts.trial k
    | some m =>
      match (s.slot m).state, (s.slot m).contents with
      | .valid, some p => planSectionBytes p k
      | _, _ => []

/-- The store as the plan read of PLAN_READ leaves it: a numbered slot other than the active slot is found INVALID when
its contents fail (R192). -/
def planRead (s : State) (n : SlotNo) : State :=
  if s.seq.activeSlot = some n then s
  else
    match SlotNo.plan? n with
    | none => s
    | some m => (readSlot m s).1

/-- The items of the TABLE_READ reply of a copy that is there. -/
def tableContents (s : State) (c : TableCopy) (k : TableSectionName) : List Byte :=
  match c with
  | .draft => draftSectionBytes s.pts.draft k
  | .inForce =>
    match s.pts.tables with
    | some t => tableSectionBytes t k
    | none => []

end Sys2Proof.Machine
end

