-- ==== Sys2Proof/Machine/Requests.lean ====
section
/-! DEFINITION. How each request of the cabinet link is taken by its block: the checks of its rule in their order, the reply,
and the effect. A request reaches these operations from a frame (`dispatch`) and from its command alike. The reply enters
the reply queue before the effects that follow its taking (assumption 18). -/

namespace Sys2Proof.Machine

/-! ## Queries -/

def takeStatus (tag : Byte) (s : State) : State := s.reply 0x01 tag .ok (statusItems s)

def takeGroups (tag : Byte) (part : Nat) (s : State) : State :=
  if 1 ≤ part ∧ part ≤ 3 then s.reply 0x02 tag .ok (bytesOf (groupEntry s) (partGroups part))
  else s.reply 0x02 tag .range

/-- The DETECTOR query is answered with the count as it was, and sets it to 0 (R60). -/
def takeDetector (tag : Byte) (detector : Nat) (s : State) : State :=
  match detectorNumbered detector with
  | none => s.reply 0x03 tag .range
  | some d => (s.reply 0x03 tag .ok (detectorItems s d)).onDet d fun r => { r with count := 0 }

def takeTrams (tag : Byte) (s : State) : State := s.reply 0x04 tag .ok (tramsItems s)

def takeCalls (tag : Byte) (s : State) : State := s.reply 0x05 tag .ok (callsItems s)

def takeFaults (tag : Byte) (part : Nat) (s : State) : State :=
  if 1 ≤ part ∧ part ≤ 3 then s.reply 0x06 tag .ok (faultsItems s part) else s.reply 0x06 tag .range

def takeStack (tag : Byte) (s : State) : State := s.reply 0x07 tag .ok (stackItems s)

/-- PLAN_READ is answered from the store as its plan read leaves it (R192). -/
def takePlanRead (tag : Byte) (slot : Nat) (k : PlanSectionName) (s : State) : State :=
  match slotNumbered slot with
  | none => s.reply 0x08 tag .range
  | some n =>
    let s := planRead s n
    s.reply 0x08 tag .ok (directoryItems s ++ planContents s n k ++ activeItems s n)

def takeTableRead (tag : Byte) (c : TableCopy) (k : TableSectionName) (s : State) : State :=
  if c = .inForce && s.pts.tables.isNone then s.reply 0x09 tag .ok [] { noTables := true }
  else s.reply 0x09 tag .ok (tableContents s c k)

/-! ## Modes (R144, R153) -/

/-- A MODE_REQUEST taken: OK with the mode that results. -/
def modeTaken (tag : Byte) (m : Mode) (s : State) : State := s.reply 0x0A tag .ok (byte1 m.code)

/-- MODE_REQUEST FLASH (R144). -/
def requestFlash (tag : Byte) (s : State) : State :=
  match s.jmc.mode, s.jmc.phase with
  | .dark, _ =>
    match s.jmc.darkCause with
    | some .safeDropped => s.reply 0x0A tag .faultLatched
    | some .noTables => s.reply 0x0A tag .invalid
    | some .requested => flashFromDark (modeTaken tag .flash s)
    | _ => s.reply 0x0A tag .wrongMode
  | .startup, some .firstStage => enterClearing (modeTaken tag .clearing s)
  | .startup, _ => flashFromStartUp (modeTaken tag .flash s)
  | .normal, _ => enterClearing (modeTaken tag .clearing s)
  | .manual, _ => enterClearing (modeTaken tag .clearing s)
  | .flash, _ => s.reply 0x0A tag .wrongMode
  | .clearing, _ => s.reply 0x0A tag .wrongMode

/-- What a mode that has no row for the request answers: FAULT_LATCHED while SAFE is dropped, else WRONG_MODE. -/
def modeRefused (tag : Byte) (s : State) : State :=
  if s.jmc.mode = .dark && s.jmc.darkCause = some .safeDropped then s.reply 0x0A tag .faultLatched
  else s.reply 0x0A tag .wrongMode

/-- MODE_REQUEST NORMAL (R144, R145). -/
def requestNormal (tag : Byte) (s : State) : State :=
  match s.jmc.mode with
  | .flash =>
    match startCheck s with
    | (s, none) => enterStartUp .request (modeTaken tag .startup s)
    | (s, some e) => s.reply 0x0A tag e
  | .manual => leaveManual (modeTaken tag .normal s)
  | _ => modeRefused tag s

/-- MODE_REQUEST (R144). A mode other than the four is refused RANGE. -/
def takeModeRequest (tag : Byte) (mode : Nat) (s : State) : State :=
  match Mode.ofCode mode with
  | some .normal => requestNormal tag s
  | some .manual => if s.jmc.mode = .normal then enterManual (modeTaken tag .manual s) else modeRefused tag s
  | some .flash => requestFlash tag s
  | some .dark =>
    if s.jmc.mode = .flash then enterDark .requested .request (modeTaken tag .dark s) else modeRefused tag s
  | _ => s.reply 0x0A tag .range

/-- RESTART (R153): the OK reply enters the queue before the reinitialisation. -/
def takeRestart (tag : Byte) (s : State) : State :=
  if s.jmc.mode ≠ .flash && s.jmc.mode ≠ .dark then s.reply 0x14 tag .wrongMode
  else if s.jmc.darkCause = some .verifying then s.reply 0x14 tag .busy
  else if s.jmc.darkCause = some .safeDropped || s.faultLatched then s.reply 0x14 tag .faultLatched
  else restartPart (s.reply 0x14 tag .ok)

/-! ## The sequencer's requests (R69, R83, R85, R156) -/

/-- MANUAL_POST (R156). A post taken is an event of R74. -/
def takeManualPost (tag : Byte) (stage hold : Nat) (s : State) : State :=
  match stageNumbered stage with
  | none => s.reply 0x0B tag .range
  | some t =>
    if s.jmc.mode ≠ .manual then s.reply 0x0B tag .wrongMode
    else if s.seq.manualSlot.isSome then s.reply 0x0B tag .full
    else
      let h := clampTo 0 1200 hold
      ((s.reply 0x0B tag (if h = hold then .ok else .clamped)).onSeq fun q =>
        { q with manualSlot := some (t, h) }).push .choose

/-- The slot cannot be named: EMPTY or INVALID, or the trial slot lacks a section (R83). -/
def slotUnfit (s : State) (n : SlotNo) : Bool :=
  match SlotNo.plan? n with
  | none => s.pts.trial.complete?.isNone
  | some k => (s.slot k).state = .empty || (s.slot k).state = .invalid

/-- The immediate activation of PLAN_SELECT in FLASH or DARK (R85). -/
def selectNow (tag : Byte) (n : SlotNo) (s : State) : State :=
  let before := s.seq.activeSlot
  match activationCheck n s with
  | (s, .error d) => s.reply 0x0C tag d.status d.items
  | (s, .ok p) =>
    reportPlan before n .taken <| takePlan n p <|
      (s.reply 0x0C tag .ok).onSeq fun q => { q with pendingPlan := none }

/-- PLAN_SELECT (R83, R85). -/
def takePlanSelect (tag : Byte) (slot : Nat) (s : State) : State :=
  match slotNumbered slot with
  | none => s.reply 0x0C tag .range
  | some n =>
    if s.jmc.mode = .startup || s.jmc.mode = .clearing then s.reply 0x0C tag .wrongMode
    else if s.beingWritten n then s.reply 0x0C tag .busy
    else if slotUnfit s n then s.reply 0x0C tag .invalid
    else if s.flashOrDark then selectNow tag n s
    else
      let pending := if s.seq.activeSlot = some n then none else some n
      ((s.reply 0x0C tag .ok [] { replaced := s.seq.pendingPlan.isSome }).onSeq fun q =>
        { q with pendingPlan := pending }).push .choose

/-- DEMAND_PLACE (R69). -/
def takeDemandPlace (tag : Byte) (group : Nat) (s : State) : State :=
  match groupNumbered group with
  | none => s.reply 0x0D tag .range
  | some g =>
    if !s.present g then s.reply 0x0D tag .invalid
    else if (s.grp g).state = .opened then s.reply 0x0D tag .ok (byteFlag false)
    else latch g .link (s.reply 0x0D tag .ok (byteFlag true))

/-! ## The detectors' request (R52) -/

/-- DETECTOR_MASK (R52). -/
def takeDetectorMask (tag : Byte) (detector : Nat) (set : Bool) (s : State) : State :=
  match detectorNumbered detector with
  | none => s.reply 0x0E tag .range
  | some d => setMask d set (s.reply 0x0E tag .ok)

/-! ## The priority unit's requests (R99, R100, R109, R112) -/

/-- An ETA clamped to 1200, and whether it was (R99). -/
def clampEta (eta : Option Nat) : Option Nat × Bool :=
  match eta with
  | none => (none, false)
  | some e => (some (min e 1200), e > 1200)

/-- The record a TRAM_IN updates: the first, from the head, with the vehicle number given (R99). -/
def tramToUpdate (s : State) (a : ApproachId) (vehicle : Option Nat) : Option TramRec :=
  match vehicle with
  | none => none
  | some v => (s.app a).queue.find? fun r => r.vehicle = some v

/-- The A of a record is replaced; a WAITING head that rules is planned for again (R99, R119). -/
def updateEta (a : ApproachId) (r : TramRec) (eta : Nat) (s : State) : State :=
  let s := s.onApp a fun x => { x with queue := x.queue.map fun y => if y.tag = r.tag then { y with eta := eta } else y }
  let ref := ReqRef.tram a r.tag
  if r.state = .waiting && s.pri.rulingHeld = some ref && s.ruling = some ref && headIs s a (some ref) then
    plannerRun ref s
  else s

/-- TRAM_IN (R99). -/
def takeTramIn (tag : Byte) (approach : Nat) (vehicle eta : Option Nat) (s : State) : State :=
  match approachNumbered approach with
  | none => s.reply 0x0F tag .range
  | some a =>
    if !(s.appSet a).present then s.reply 0x0F tag .invalid
    else if s.jmc.mode ≠ .normal && s.jmc.mode ≠ .manual then s.reply 0x0F tag .wrongMode
    else
      let e := clampEta eta
      let taken : Status := if e.2 then .clamped else .ok
      match tramToUpdate s a vehicle with
      | some r =>
        let s := s.reply 0x0F tag taken (byte1 r.tag) { updated := true }
        match e.1 with
        | some n => updateEta a r n s
        | none => s
      | none =>
        if (s.app a).queue.length ≥ Config.queueCapacity then s.reply 0x0F tag .full
        else
          addTram a .link vehicle s.time (e.1.getD (s.appSet a).run) (s.reply 0x0F tag taken (byte1 (newTag s a)))

/-- TRAM_OUT (R100). -/
def takeTramOut (tag : Byte) (approach : Nat) (s : State) : State :=
  match approachNumbered approach with
  | none => s.reply 0x10 tag .range
  | some a =>
    if !(s.appSet a).present then s.reply 0x10 tag .invalid
    else
      match s.head? a with
      | none => reportApproach .checkoutUnexpected a (some .link) (s.reply 0x10 tag .notFound)
      | some h => checkOutHead a .link (s.reply 0x10 tag .ok (byte1 h.tag))

/-- The call CALL_PLACE adds, its ETA and hold clamped; an EMERGENCY call's ETA is 0 (R109). -/
def placedCall (id : Nat) (level : CallLevel) (t : StageId) (eta hold : Nat) : Call :=
  let h := clampTo 50 1200 hold
  { id := id, level := level, target := t, eta := if level = .emergency then 0 else min eta 1200, hold := h,
    remaining := h, age := 0, state := .waiting, servingStage := none, planned := false }

/-- The ETA or the hold was clamped. An EMERGENCY call's ETA is not read (R109). -/
def callClamped (level : CallLevel) (eta hold : Nat) : Bool :=
  clampTo 50 1200 hold ≠ hold || (level = .bus && eta > 1200)

/-- CALL_PLACE (R109). -/
def takeCallPlace (tag : Byte) (id level target eta hold : Nat) (s : State) : State :=
  match CallLevel.ofCode level, stageNumbered target with
  | some l, some t =>
    if id < 1 || id > 255 then s.reply 0x11 tag .range
    else if s.jmc.mode ≠ .normal then s.reply 0x11 tag .wrongMode
    else if s.stageGroups t = 0 then s.reply 0x11 tag .invalid
    else if (s.call? id).isSome then s.reply 0x11 tag .duplicate
    else if s.pri.calls.length ≥ Config.queueCapacity then s.reply 0x11 tag .full
    else
      priChanged <| (s.reply 0x11 tag (if callClamped l eta hold then .clamped else .ok)).onPri fun p =>
        { p with calls := p.calls ++ [placedCall id l t eta hold] }
  | _, _ => s.reply 0x11 tag .range

/-- A WAITING call is cancelled: it is removed with DROPPED, and a plan that stood for it is withdrawn (R112, R128). -/
def dropCall (id : Nat) (s : State) : State :=
  let s := s.onPri fun p => { p with calls := p.calls.filter fun c => c.id ≠ id }
  priChanged (withdrawIf (.call id) (reportCall .dropped id s))

/-- CALL_CANCEL (R112). -/
def takeCallCancel (tag : Byte) (id : Nat) (s : State) : State :=
  if id < 1 || id > 255 then s.reply 0x12 tag .range
  else
    match s.call? id with
    | none => s.reply 0x12 tag .notFound
    | some c =>
      match c.state with
      | .waiting => dropCall id (s.reply 0x12 tag .ok)
      | .serving => finishCall id (s.reply 0x12 tag .ok)

/-! ## The monitor's and the link's requests (R172, R204) -/

/-- FAULT_CLEAR (R172). -/
def takeFaultClear (tag : Byte) (s : State) : State :=
  if s.jmc.mode ≠ .flash then s.reply 0x13 tag .wrongMode
  else
    match persisting s with
    | some f => s.reply 0x13 tag .faultPersists (byte1 f.code)
    | none =>
      if s.cmon.lockout && !s.pins.commission then s.reply 0x13 tag .noStrap
      else if s.cmon.first.isNone && s.cmon.latched = 0 then s.reply 0x13 tag .ok [] { nothing := true }
      else clearFaults (s.reply 0x13 tag .ok)

/-- LINK_SET (R204). The reply carries the AF now in force. -/
def takeLinkSet (tag : Byte) (af : Nat) (s : State) : State :=
  if af < 8 || af > 47 then s.reply 0x15 tag .range
  else (s.onLnk fun l => { l with af := af }).reply 0x15 tag .ok (byte1 af)

/-! ## The store's requests (R180 to R191) -/

/-- PLAN_SECTION (R180). -/
def takePlanSection (tag : Byte) (contents : PlanSectionArg) (s : State) : State :=
  if s.seq.activeSlot = some 0 then s.reply 0x16 tag .activeSlot
  else
    match s.pts.tables with
    | none => s.reply 0x16 tag .invalid
    | some t =>
      match takeSection t s.pts.trial contents with
      | .error d => s.reply 0x16 tag d.status d.items
      | .ok (trial, n) =>
        (if n = 0 then s.reply 0x16 tag .ok else s.reply 0x16 tag .clamped (byte1 n)).onPts fun p =>
          { p with trial := trial }

/-- PLAN_STORE (R182). -/
def takePlanStore (tag : Byte) (slot : Nat) (s : State) : State :=
  match numbered 16 slot with
  | none => s.reply 0x17 tag .range
  | some n =>
    match s.pts.trial.complete? with
    | none => s.reply 0x17 tag .incomplete
    | some p =>
      if slot ≤ s.pts.protect then s.reply 0x17 tag .protected'
      else if s.seq.activeSlot = some (slotOf n) then s.reply 0x17 tag .activeSlot
      else if s.pts.write.isSome || s.verifying then s.reply 0x17 tag .busy
      else
        match s.pts.tables with
        | none => s.reply 0x17 tag .invalid
        | some t =>
          match wholePlanCheck t p with
          | some d => s.reply 0x17 tag d.status d.items
          | none =>
            ((s.reply 0x17 tag .accepted).onPts fun x =>
              { x with write := some { target := .slot n p, remaining := Config.planWriteTime } }).onSlot n fun x =>
                { x with state := .writing, contents := none }

/-- One section of the draft as written (R186). -/
def Draft.put (d : Draft) : TableSectionArg → Draft
  | .groups v => { d with groups := some v }
  | .conflicts v => { d with conflicts := some v }
  | .ig k v => { d with ig := d.ig.set k (some v) }
  | .monitorStart v => { d with monitor := some v }

/-- TABLE_SECTION (R186). -/
def takeTableSection (tag : Byte) (contents : TableSectionArg) (s : State) : State :=
  if s.pts.locked then s.reply 0x18 tag .locked
  else if !s.flashOrDark then s.reply 0x18 tag .wrongMode
  else (s.reply 0x18 tag .ok).onPts fun p => { p with draft := p.draft.put contents }

/-- The failure code and the two group numbers of R30, 0 for a number the code does not name. -/
def failureItems (f : Failure) : List Byte := byte1 f.code.code ++ bytesTwoGroups f.groups

/-- TABLE_COMMIT (R187). -/
def takeTableCommit (tag : Byte) (s : State) : State :=
  if !s.flashOrDark then s.reply 0x19 tag .wrongMode
  else if s.pts.locked then s.reply 0x19 tag .locked
  else if s.pts.write.isSome || s.verifying then s.reply 0x19 tag .busy
  else
    match s.pts.draft.complete? with
    | none => s.reply 0x19 tag .incomplete
    | some t =>
      match validate t with
      | some f => s.reply 0x19 tag .invalid (failureItems f)
      | none =>
        (s.reply 0x19 tag .accepted).onPts fun p =>
          { p with write := some { target := .tables t, remaining := Config.tableWriteTime } }

/-- TABLE_LOCK (R189). -/
def takeTableLock (tag : Byte) (s : State) : State := (s.reply 0x1A tag .ok).onPts fun p => { p with locked := true }

/-- TABLE_UNLOCK (R189). -/
def takeTableUnlock (tag : Byte) (s : State) : State :=
  if s.pins.commission then (s.reply 0x1B tag .ok).onPts fun p => { p with locked := false }
  else s.reply 0x1B tag .noStrap

/-- Raising P to `n` would put it over the slot being written (R190). -/
def protectsWrite (s : State) (n : Nat) : Bool :=
  match s.writingSlot? with
  | some w => n ≥ number w && number w > s.pts.protect
  | none => false

/-- PROTECT_SET (R190). -/
def takeProtectSet (tag : Byte) (n : Nat) (s : State) : State :=
  if n > 16 then s.reply 0x1C tag .range
  else if n < s.pts.protect && s.pts.locked then s.reply 0x1C tag .locked
  else if protectsWrite s n then s.reply 0x1C tag .busy
  else (s.reply 0x1C tag .ok).onPts fun p => { p with protect := n }

/-- START_PLAN_SET (R191). -/
def takeStartPlanSet (tag : Byte) (slot : Nat) (s : State) : State :=
  match numbered 16 slot with
  | none => s.reply 0x1D tag .range
  | some n =>
    if (s.slot n).state ≠ .valid then s.reply 0x1D tag .invalid
    else (s.reply 0x1D tag .ok).onPts fun p => { p with startPlan := n }

end Sys2Proof.Machine
end

