-- ==== Sys2Proof/Machine/Link.lean ====
section
/-! DEFINITION. The receiver of the cabinet link (chapter 10): the assembly of a frame, the checks of a received request, the
reading of its fields, and its dispatch. -/

namespace Sys2Proof.Machine

/-! ## Reading fields (R197, R206) -/

/-- A reader takes a field from the front of the bytes; none when the bytes have no meaning for it. -/
abbrev Reader (α : Type) := List Byte → Option (α × List Byte)

namespace Reader

/-- A one-byte number. -/
def u8 : Reader Nat
  | b :: l => some (b.toNat, l)
  | [] => none

/-- A two-byte number, low byte first. -/
def u16 : Reader Nat
  | a :: b :: l => some (a.toNat + 256 * b.toNat, l)
  | _ => none

/-- A yes/no byte, which must be 0 or 1. -/
def flag : Reader Bool
  | b :: l => if b = 0 then some (false, l) else if b = 1 then some (true, l) else none
  | [] => none

/-- A set of groups. -/
def groups : Reader GroupSet
  | a :: b :: c :: l => some (BitVec.ofNat 24 (a.toNat + 256 * b.toNat + 65536 * c.toNat), l)
  | _ => none

/-- An enumeration by its code. -/
def enum {α : Type} (f : Nat → Option α) : Reader α := fun l => do
  let (n, l) ← u8 l
  let x ← f n
  return (x, l)

/-- An optional two-byte number with its presence byte. -/
def opt16 : Reader (Option Nat) := fun l => do
  let (p, l) ← flag l
  let (n, l) ← u16 l
  return (if p then some n else none, l)

/-- `n` things one after another. -/
def vec {α : Type} (f : Reader α) : (n : Nat) → Reader (Vector α n)
  | 0, l => some (#v[], l)
  | n + 1, l => do
    let (v, l) ← vec f n l
    let (x, l) ← f l
    return (v.push x, l)

/-- The timings of a group. -/
def groupTimes : Reader GroupTimes := fun l => do
  let (ming, l) ← u16 l
  let (maxg, l) ← u16 l
  let (gap, l) ← u8 l
  let (maxwait, l) ← u16 l
  let (recallOn, l) ← flag l
  return ({ ming, maxg, gap, maxwait, recallOn }, l)

/-- One place for an entry of a sequence list. -/
def seqEntry : Reader RawEntry := fun l => do
  let (stage, l) ← u8 l
  let (always, l) ← flag l
  return ({ stage, always }, l)

/-- A SEQUENCE section (assumption 12). -/
def sequence : Reader RawSequence := fun l => do
  let (count, l) ← u8 l
  let (entries, l) ← vec seqEntry 16 l
  let (mode, l) ← enum SeqMode.ofCode l
  let (startStage, l) ← u8 l
  let (resumeMin, l) ← u8 l
  return ({ count, entries := entries.toList, mode, startStage, resumeMin }, l)

/-- The settings of a detector. -/
def detector : Reader RawDetector := fun l => do
  let (kind, l) ← enum DetKind.ofCode l
  let (gs, l) ← groups l
  let (approach, l) ← u8 l
  let (faultMode, l) ← enum FaultMode.ofCode l
  let (stuckOn, l) ← u16 l
  let (stuckOff, l) ← u16 l
  let (ringLength, l) ← u8 l
  let (edgeReporting, l) ← flag l
  return ({ kind, groups := gs, approach, faultMode, stuckOn, stuckOff, ringLength, edgeReporting }, l)

/-- The settings of a tram approach. -/
def approach : Reader RawApproach := fun l => do
  let (present, l) ← flag l
  let (tramGroup, l) ← u8 l
  let (priorityStage, l) ← u8 l
  let (run, l) ← u16 l
  let (ext, l) ← u16 l
  let (tmax, l) ← u16 l
  let (recovery, l) ← u16 l
  let (checkinGuard, l) ← u8 l
  return ({ present, tramGroup, priorityStage, run, ext, tmax, recovery, checkinGuard }, l)

/-- The contents of a plan section. -/
def planSection : PlanSectionName → Reader PlanSectionArg
  | .stages => fun l => (vec groups 16 l).map fun x => (.stages x.1, x.2)
  | .sequence => fun l => (sequence l).map fun x => (.sequence x.1, x.2)
  | .groupTimesA => fun l => (vec groupTimes 12 l).map fun x => (.groupTimesA x.1, x.2)
  | .groupTimesB => fun l => (vec groupTimes 12 l).map fun x => (.groupTimesB x.1, x.2)
  | .detectorsA => fun l => (vec detector 16 l).map fun x => (.detectorsA x.1, x.2)
  | .detectorsB => fun l => (vec detector 16 l).map fun x => (.detectorsB x.1, x.2)
  | .priority => fun l => (vec approach 4 l).map fun x => (.priority x.1, x.2)

/-- The definition of a group. -/
def groupDef : Reader GroupDef := fun l => do
  let (present, l) ← flag l
  let (kind, l) ← enum Kind.ofCode l
  let (close, l) ← u8 l
  let (opent, l) ← u8 l
  return ({ present, kind, close, opent }, l)

/-- A row of the intergreen matrix: the set of groups with an entry, then the entries. DESIGN CHOICE (assumption 41): a
nonzero byte in the place of an entry the set does not name is accepted, and the entry is none. -/
def igRow : Reader IgRow := fun l => do
  let (gs, l) ← groups l
  let (v, l) ← vec u8 24 l
  return (Vector.ofFn fun g => if GroupSet.has gs g then some v[g] else none, l)

/-- A set over the seven fault sources; bit 7 has no meaning. -/
def sources : Reader SourceSet
  | b :: l => if b.getLsbD 7 then none else some (b.setWidth 7, l)
  | [] => none

/-- The monitor settings and start-up values. -/
def monitorStart : Reader MonitorStart := fun l => do
  let (fatal, l) ← sources l
  let (mtol, l) ← u8 l
  let (startFlash, l) ← u16 l
  let (startClear, l) ← u8 l
  let (autostart, l) ← flag l
  return ({ fatal, mtol, startFlash, startClear, autostart }, l)

/-- The contents of a table section. -/
def tableSection : TableSectionName → Reader TableSectionArg
  | .groups => fun l => (vec groupDef 24 l).map fun x => (.groups x.1, x.2)
  | .conflicts => fun l => (vec groups 24 l).map fun x => (.conflicts x.1, x.2)
  | .ig k => fun l => (vec igRow 6 l).map fun x => (.ig k x.1, x.2)
  | .monitorStart => fun l => (monitorStart l).map fun x => (.monitorStart x.1, x.2)

end Reader

/-! ## The checks of a received request (R197) -/

/-- The first byte of a section request's body as a section name. -/
def sectionOf {α : Type} (f : Nat → Option α) (body : List Byte) : Option α :=
  body.head?.bind fun b => f b.toNat

/-- The outer answer is whether the KIND is a request code, the inner the body length of the kind; a section request
with no section has none (R197, sections 10.5 and 10.6). -/
def bodyLength (kind : Byte) (body : List Byte) : Option (Option Nat) :=
  match kind.toNat with
  | 0x01 => some (some 0)
  | 0x02 => some (some 1)
  | 0x03 => some (some 1)
  | 0x04 => some (some 0)
  | 0x05 => some (some 0)
  | 0x06 => some (some 1)
  | 0x07 => some (some 0)
  | 0x08 => some (some 2)
  | 0x09 => some (some 2)
  | 0x0A => some (some 1)
  | 0x0B => some (some 3)
  | 0x0C => some (some 1)
  | 0x0D => some (some 1)
  | 0x0E => some (some 2)
  | 0x0F => some (some 7)
  | 0x10 => some (some 1)
  | 0x11 => some (some 7)
  | 0x12 => some (some 1)
  | 0x13 => some (some 0)
  | 0x14 => some (some 0)
  | 0x15 => some (some 1)
  | 0x16 => some ((sectionOf PlanSectionName.ofCode body).map fun k => 1 + planSectionLength k)
  | 0x17 => some (some 1)
  | 0x18 => some ((sectionOf TableSectionName.ofCode body).map fun k => 1 + tableSectionLength k)
  | 0x19 => some (some 0)
  | 0x1A => some (some 0)
  | 0x1B => some (some 0)
  | 0x1C => some (some 1)
  | 0x1D => some (some 1)
  | _ => none

/-- The command a body of the right length spells; none when a field's encoding has no meaning (check 3 of R197). -/
def readRequest (kind tag : Byte) (body : List Byte) : Option Instr :=
  match kind.toNat with
  | 0x01 => some (.status tag)
  | 0x02 => (Reader.u8 body).map fun x => .groups tag x.1
  | 0x03 => (Reader.u8 body).map fun x => .detector tag x.1
  | 0x04 => some (.trams tag)
  | 0x05 => some (.calls tag)
  | 0x06 => (Reader.u8 body).map fun x => .faults tag x.1
  | 0x07 => some (.stack tag)
  | 0x08 => do
    let (slot, l) ← Reader.u8 body
    let (k, _) ← Reader.enum PlanSectionName.ofCode l
    return .planRead tag slot k
  | 0x09 => do
    let (c, l) ← Reader.enum TableCopy.ofCode body
    let (k, _) ← Reader.enum TableSectionName.ofCode l
    return .tableRead tag c k
  | 0x0A => (Reader.u8 body).map fun x => .modeRequest tag x.1
  | 0x0B => do
    let (stage, l) ← Reader.u8 body
    let (hold, _) ← Reader.u16 l
    return .manualPost tag stage hold
  | 0x0C => (Reader.u8 body).map fun x => .planSelect tag x.1
  | 0x0D => (Reader.u8 body).map fun x => .demandPlace tag x.1
  | 0x0E => do
    let (d, l) ← Reader.u8 body
    let (set, _) ← Reader.flag l
    return .detectorMask tag d set
  | 0x0F => do
    let (a, l) ← Reader.u8 body
    let (vehicle, l) ← Reader.opt16 l
    let (eta, _) ← Reader.opt16 l
    return .tramIn tag a vehicle eta
  | 0x10 => (Reader.u8 body).map fun x => .tramOut tag x.1
  | 0x11 => do
    let (id, l) ← Reader.u8 body
    let (level, l) ← Reader.u8 l
    let (target, l) ← Reader.u8 l
    let (eta, l) ← Reader.u16 l
    let (hold, _) ← Reader.u16 l
    return .callPlace tag id level target eta hold
  | 0x12 => (Reader.u8 body).map fun x => .callCancel tag x.1
  | 0x13 => some (.faultClear tag)
  | 0x14 => some (.restart tag)
  | 0x15 => (Reader.u8 body).map fun x => .linkSet tag x.1
  | 0x16 => do
    let (k, l) ← Reader.enum PlanSectionName.ofCode body
    let (c, _) ← Reader.planSection k l
    return .planSection tag c
  | 0x17 => (Reader.u8 body).map fun x => .planStore tag x.1
  | 0x18 => do
    let (k, l) ← Reader.enum TableSectionName.ofCode body
    let (c, _) ← Reader.tableSection k l
    return .tableSection tag c
  | 0x19 => some (.tableCommit tag)
  | 0x1A => some (.tableLock tag)
  | 0x1B => some (.tableUnlock tag)
  | 0x1C => (Reader.u8 body).map fun x => .protectSet tag x.1
  | 0x1D => (Reader.u8 body).map fun x => .startPlanSet tag x.1
  | _ => none

/-- A request is dispatched to the block that takes it (R197, section 10.5). A command that is no request of the link
has no dispatch. -/
def dispatch (i : Instr) (s : State) : State :=
  match i with
  | .status tag => takeStatus tag s
  | .groups tag part => takeGroups tag part s
  | .detector tag d => takeDetector tag d s
  | .trams tag => takeTrams tag s
  | .calls tag => takeCalls tag s
  | .faults tag part => takeFaults tag part s
  | .stack tag => takeStack tag s
  | .planRead tag slot k => takePlanRead tag slot k s
  | .tableRead tag c k => takeTableRead tag c k s
  | .modeRequest tag m => takeModeRequest tag m s
  | .manualPost tag stage hold => takeManualPost tag stage hold s
  | .planSelect tag slot => takePlanSelect tag slot s
  | .demandPlace tag g => takeDemandPlace tag g s
  | .detectorMask tag d set => takeDetectorMask tag d set s
  | .tramIn tag a vehicle eta => takeTramIn tag a vehicle eta s
  | .tramOut tag a => takeTramOut tag a s
  | .callPlace tag id level target eta hold => takeCallPlace tag id level target eta hold s
  | .callCancel tag id => takeCallCancel tag id s
  | .faultClear tag => takeFaultClear tag s
  | .restart tag => takeRestart tag s
  | .linkSet tag af => takeLinkSet tag af s
  | .planSection tag c => takePlanSection tag c s
  | .planStore tag slot => takePlanStore tag slot s
  | .tableSection tag c => takeTableSection tag c s
  | .tableCommit tag => takeTableCommit tag s
  | .tableLock tag => takeTableLock tag s
  | .tableUnlock tag => takeTableUnlock tag s
  | .protectSet tag n => takeProtectSet tag n s
  | .startPlanSet tag slot => takeStartPlanSet tag slot s
  | .powerOnReset | .verificationEnd | .detectorWord .. | .silenceConfirmed _ | .stuckLimitReached _
  | .clearanceCountdown _ | .openingExpiry _ | .minCompletion _ | .gapTimerExpiry _ | .maxGreenReached _
  | .closingExpiry _ | .lampCommandRepeat | .groupOverdue _ | .endCountdownExpiry | .manualHoldExpiry
  | .tramTimeout _ | .recoveryExpiry _ | .guardExpiry _ | .capExpiry _ | .callHoldExpiry _
  | .startFlashingExpiry | .allRedExpiry | .lampSenseRecord .. | .mismatchTimerExceeds _ | .senseSilence _
  | .integrityComparison | .safeDrop | .restartWindowEnd | .planWriteDone | .tableWriteDone
  | .receiveGapTimeout | .linkByte .. | .transmitComplete | .shadowClearanceFallsToMtol _ | .ageReversesOrder => s

/-- A received request is checked in the order of R197 and dispatched. -/
def receiveRequest (kind tag : Byte) (body : List Byte) (s : State) : State :=
  match bodyLength kind body with
  | none => s.replyUnknown tag
  | some n =>
    if n ≠ some body.length then s.reply kind tag .malformed
    else
      match readRequest kind tag body with
      | none => s.reply kind tag .malformed
      | some i => dispatch i s

/-! ## Assembling a frame (R195, R196) -/

/-- A complete frame, START to CRC: it becomes a received request when its CRC agrees, and is discarded otherwise. -/
def completeFrame (frame : List Byte) (s : State) : State :=
  match frame with
  | _ :: len :: kind :: tag :: rest =>
    let body := rest.take len.toNat
    let got := rest.drop len.toNat
    let c := crc (len :: kind :: tag :: body)
    if got = [c.setWidth 8, (c >>> 8).setWidth 8] then receiveRequest kind tag body s else s
  | _ => s

/-- The receive state is set. -/
def setRx (x : RxState) (s : State) : State := s.onLnk fun l => { l with rx := x }

/-- LEN is greater than 240: the second byte of a frame tells (R195). -/
def lenTooLarge : List Byte → Bool
  | [_, len] => len.toNat > 240
  | _ => false

/-- The frame has all of its LEN + 6 bytes. -/
def frameComplete : List Byte → Bool
  | _ :: len :: rest => rest.length = len.toNat + 4
  | _ => false

/-- A byte reaches the receiver (R195). -/
def receiveByte (b : Byte) (framingError : Bool) (s : State) : State :=
  match s.lnk.rx with
  | .hunting => if b = startByte && !framingError then setRx (.assembling [b]) s else s
  | .assembling l =>
    if framingError then setRx .hunting s
    else
      let frame := l ++ [b]
      if lenTooLarge frame then setRx .hunting s
      else if frameComplete frame then completeFrame frame (setRx .hunting s)
      else setRx (.assembling frame) s

/-- A gap of more than 10 ms inside a frame discards it (R195). -/
def receiveGap (s : State) : State :=
  match s.lnk.rx with
  | .hunting => s
  | .assembling _ => setRx .hunting s

/-- The transmitter completes its frame (R199). -/
def transmitDone (s : State) : State := if s.lnk.tx.isSome then s.onLnk Lnk.complete else s

end Sys2Proof.Machine
end

