-- ==== Sys2Proof/Machine/Events.lean ====
section
/-! DEFINITION. The events of the timers: for each, when it is due and what it does. An event that is not due changes nothing
(assumption 7). The power-on reset and the end of the verification stand here too. -/

namespace Sys2Proof.Machine

/-- An effect that takes place only when its event is due (assumption 7). -/
def whenDue (due : Bool) (f : State → State) (s : State) : State := if due then f s else s

/-! ## Resets and verification (R1, R42, R65, R94, R118, R139, R141, R168, R178, R184, R193) -/

/-- A slot as a power-on reset leaves it: one that was WRITING is INVALID (R178, R184). -/
def Slot.afterReset (x : Slot) : Slot :=
  if x.state = .writing then { x with state := .invalid, contents := none } else x

/-- The store as a power-on reset leaves it: the non-volatile store kept, the volatile store empty, the verification just
begun (R177, R178). -/
def Pts.afterReset (p : Pts) : Pts :=
  { slots := p.slots.map Slot.afterReset, areas := p.areas, currentArea := p.currentArea, locked := p.locked
    protect := p.protect, startPlan := p.startPlan, verify := some Config.verificationTime }

/-- The link rate the LINK_RATE strap selects (R194). -/
def rateOf (strap : Bool) : LinkRate := if strap then .fast115200 else .slow38400

/-- A power-on reset (R178). -/
def powerOn (s : State) : State :=
  { s with
    notices := [], time := 0, sge := Sge.reset, dti := Dti.reset, seq := {}, pri := {}, cmon := {}, jmc := {}
    pts := s.pts.afterReset, lnk := { rate := rateOf s.pins.linkRate } }

/-- The stored tables that pass their integrity check, from the area marked current (R178). -/
def verifiedTables (p : Pts) : Option Tables :=
  match p.areas[p.currentArea] with
  | some x => if tablesCheck x.tables = x.check then some x.tables else none
  | none => none

/-- A slot as the verification leaves it (R178). -/
def Slot.verified (x : Slot) : Slot := if x.state = .valid && !x.intact then { x with state := .invalid } else x

/-- The verification has run its ten tenths. -/
def verificationDue (s : State) : Bool := s.pts.verify = some 0

/-- PTS ends its verification and tells JMC (R141, R178). -/
def endVerification (s : State) : State :=
  let t := verifiedTables s.pts
  let s := s.onPts fun p => { p with verify := none, slots := p.slots.map Slot.verified, tables := t }
  if t.isSome then
    tablesVerified s.jmc.mode .tables (s.onCmon fun c => { c with compareTimer := Config.comparisonPeriod })
  else tablesFailed s

/-! ## Timers of the groups (R8, R9, R13, R14, R16, R17, R31) -/

/-- CR has reached OPENT or 0: admission and the end of CLEARING are tested (R8, R31, R151). -/
def clearanceFell (s : State) : State := (admitWaiting s).push .watch

def openingDue (s : State) (g : GroupId) : Bool := (s.grp g).state = .opening && (s.grp g).phaseTimer = 0

def closingDue (s : State) (g : GroupId) : Bool := (s.grp g).state = .closing && (s.grp g).phaseTimer = 0

def minDue (s : State) (g : GroupId) : Bool :=
  (s.grp g).state = .opened && (s.grp g).mgRem = 0 && !(s.grp g).minDone

/-- The group extends: it is past min completion with status RUNNING. -/
def extending (s : State) (g : GroupId) : Bool :=
  (s.grp g).state = .opened && (s.grp g).minDone && (s.grp g).ext = .running

/-- The gap timer has run out (R16). DESIGN CHOICE (assumption 40): under an input that is on the timer is held and does not
expire, at a GAP that a plan switch has made 0 too. -/
def gapDue (s : State) (g : GroupId) : Bool := extending s g && (s.grp g).gapTimer = 0 && !(s.grp g).extInput

def maxDue (s : State) (g : GroupId) : Bool := extending s g && (s.grp g).openElapsed ≥ (s.grp g).effMaxg

/-- The extension status becomes final, and SEQ gets the final-status notice (R16, R17). -/
def finalStatus (g : GroupId) (x : ExtStatus) (s : State) : State :=
  (s.onGrp g fun r => { r with ext := x, gapTimer := 0 }).push .retest

/-! ## Timers of the sequencer (R66, R74, R75, R157) -/

/-- A group has become overdue: readiness changes with the cut, and SEQ chooses (R66, R71, R74). -/
def becameOverdue (s : State) : State := (s.push .retest).push .choose

/-- SEQ takes the event of a group's becoming overdue: it is awaited no longer, and has its effect if the group is then
overdue. -/
def takeOverdue (g : GroupId) (s : State) : State :=
  let s := s.onSeq fun q => { q with overdueAwaited := GroupSet.put q.overdueAwaited g false }
  whenDue (s.overdue g) becameOverdue s

def endCountdownDue (s : State) : Bool := s.seq.h = some 0

def manualHoldDue (s : State) : Bool := s.jmc.mode = .manual && s.seq.manualHold = some 0

/-! ## Timers of the priority unit (R94, R96, R105, R110, R123) -/

/-- The head of the queue has reached TMAX (R96). -/
def timeoutDue (s : State) (a : ApproachId) : Bool :=
  (s.appSet a).present && (s.head? a).any fun h => h.age ≥ (s.appSet a).tmax

def recoveryDue (s : State) (a : ApproachId) : Bool := (s.app a).episode = .recovering && (s.app a).recovery = 0

/-- Recovery ends (R105). -/
def endRecovery (a : ApproachId) (s : State) : State := episodeChanged (s.onApp a fun x => { x with episode := .idle })

/-- The last tenth of the guard is this event's to count (assumption 14). -/
def guardDue (s : State) (a : ApproachId) : Bool := (s.app a).checkinGuard = 1

def endGuard (a : ApproachId) (s : State) : State := s.onApp a fun x => { x with checkinGuard := 0 }

def capDue (s : State) (a : ApproachId) : Bool := s.cap a = .loaded 0

def callHoldDue (s : State) (id : Nat) : Bool := (s.call? id).any fun c => c.state = .serving && c.remaining = 0

/-! ## Start-up (R146, R147) -/

def startFlashingDue (s : State) : Bool :=
  s.jmc.mode = .startup && s.jmc.phase = some .startFlashing && s.jmc.timer = 0

def allRedDue (s : State) : Bool := s.jmc.mode = .startup && s.jmc.phase = some .allRed && s.jmc.timer = 0

/-! ## The monitor (R165, R168) -/

/-- The last tenth of the window is this event's to count (assumption 14). -/
def windowDue (s : State) : Bool := s.cmon.window = 1

def endWindow (s : State) : State := s.onCmon fun c => { c with window := 0 }

/-! ## The store (R184, R188) -/

/-- A plan write whose remaining time has run out. -/
def planWrite? (s : State) : Option (PlanSlot × Plan) :=
  match s.pts.write with
  | some { target := .slot n p, remaining := 0 } => some (n, p)
  | _ => none

/-- A plan write completes (R184). -/
def completePlanWrite (n : PlanSlot) (p : Plan) (s : State) : State :=
  ((s.onPts fun x => { x with write := none }).onSlot n fun _ => { state := .valid, contents := some p, intact := true }).report
    (.storeDone (.slot n) .done)

/-- A table write whose remaining time has run out, in FLASH or DARK (R28). -/
def tableWrite? (s : State) : Option Tables :=
  match s.pts.write with
  | some { target := .tables t, remaining := 0 } => if s.flashOrDark then some t else none
  | _ => none

/-- The other of the two table areas. -/
def otherArea (i : Fin 2) : Fin 2 := if i = 0 then 1 else 0

/-- The mark moves to the area just written (R188). -/
def moveMark (t : Tables) (s : State) : State :=
  s.onPts fun p =>
    { p with
      write := none
      areas := p.areas.set (otherArea p.currentArea) (some { tables := t, check := tablesCheck t })
      currentArea := otherArea p.currentArea }

/-- A table write completes (R188). -/
def completeTableWrite (t : Tables) (s : State) : State :=
  let s := recheckActive (replaceTables t (moveMark t s))
  let s := s.report (.storeDone .tables .done)
  if s.jmc.mode = .dark && s.jmc.darkCause = some .noTables then tablesVerified s.jmc.mode .tables s else s

end Sys2Proof.Machine
end

