-- ==== Sys2Proof/Machine/Tick.lean ====
section
/-! DEFINITION. The passing of one tenth (section 2.1): junction time and every timer move, and the events that fall due are
put into the queue in a free order (assumptions 1 and 2). -/

namespace Sys2Proof.Machine

/-! ## What a tenth does to each record -/

/-- One tenth of a group's timers (R8, R9, R13, R14, R16, R31). DESIGN CHOICE (assumption 40): a gap timer held by an extension
input that is on takes the GAP of a plan switched to at the next tenth. -/
def GroupRec.tick (gap : Nat) (r : GroupRec) : GroupRec :=
  let isOpen : Bool := r.state = .opened
  { r with
    phaseTimer := if r.state = .opening || r.state = .closing then r.phaseTimer - 1 else r.phaseTimer
    openElapsed := if isOpen then min (r.openElapsed + 1) 6000 else r.openElapsed
    mgRem := if isOpen then r.mgRem - 1 else r.mgRem
    gapTimer :=
      if isOpen && r.minDone && r.ext = .running then (if r.extInput then gap else r.gapTimer - 1) else r.gapTimer
    cr := r.cr - 1 }

/-- One tenth of a detector's timers (R47, R48). -/
def DetRec.tick (r : DetRec) : DetRec :=
  { r with sinceChange := min (r.sinceChange + 1) 36000, silence := min (r.silence + 1) Config.detectorSilence }

/-- One tenth of a demand's wait (R66). -/
def Demand.tick (d : Demand) : Demand := if d.latched then { d with wait := min (d.wait + 1) 6000 } else d

/-- The waits rise in these modes (R66). -/
def waitsRise (m : Mode) : Bool := m ≠ .dark && m ≠ .flash

/-- One tenth of a tram record (R96). -/
def TramRec.tick (r : TramRec) : TramRec := { r with eta := r.eta - 1, age := r.age + 1 }

/-- One tenth of an approach (R94, R98). The last tenth of the guard is its event's (assumption 14). -/
def Approach.tick (x : Approach) : Approach :=
  { x with
    queue := x.queue.map TramRec.tick
    recovery := x.recovery - 1
    checkinGuard := if x.checkinGuard > 1 then x.checkinGuard - 1 else x.checkinGuard }

/-- One tenth of a call (R108, R110). DESIGN CHOICE (assumption 47): a SERVING call that became so with a kept hold remaining of
0 stays at 0, and its expiry falls due in this tenth. -/
def Call.tick (c : Call) : Call :=
  { c with
    eta := c.eta - 1, age := min (c.age + 1) 6000
    remaining := if c.state = .serving then c.remaining - 1 else c.remaining }

/-- One tenth of a cap (R123). -/
def Cap.tick : Cap → Cap
  | .loaded n => .loaded (n - 1)
  | c => c

/-- One tenth of a mismatch timer (R164). -/
def tickDifference (runs : Bool) (t : Nat) : Nat := if runs then min (t + 1) 255 else 0

/-- One tenth of what CMON keeps of a group (R160, R161, R164, R166). -/
def tickMon (s : State) (g : GroupId) (m : MonRec) : MonRec :=
  let runs := s.present g && s.jmc.mode ≠ .dark
  { m with
    silence := min (m.silence + 1) Config.senseSilence
    scr := m.scr - 1
    goTimer := tickDifference (runs && s.goDiffers g) m.goTimer
    aspectTimer := tickDifference (runs && s.aspectDiffers g) m.aspectTimer
    redTimer := tickDifference (runs && s.redOutDiffers g) m.redTimer }

/-- The SAFE drop timer after one tenth (R171). -/
def dropTimerNext (s : State) : Nat :=
  if s.jmc.mode = .flash && s.goMismatchPresent then min (s.cmon.dropTimer + 1) Config.safeDropTime else 0

/-- One tenth of every timer of the part. -/
def advance (s : State) : State :=
  { s with
    time := s.time + 1
    sge := { s.sge with
      recs := s.sge.recs.mapFinIdx fun i r h => r.tick (s.times ⟨i, h⟩).gap
      lampRepeat := s.sge.lampRepeat - 1 }
    dti := { s.dti with recs := s.dti.recs.map DetRec.tick }
    seq := { s.seq with
      demand := if waitsRise s.jmc.mode then s.seq.demand.map Demand.tick else s.seq.demand
      h := s.seq.h.map (· - 1)
      manualHold := if s.stageRunning then s.seq.manualHold.map (· - 1) else s.seq.manualHold }
    pri := { s.pri with
      approaches := s.pri.approaches.map Approach.tick
      calls := s.pri.calls.map Call.tick
      caps := s.pri.caps.map Cap.tick }
    cmon := { s.cmon with
      recs := s.cmon.recs.mapFinIdx fun i m h => tickMon s ⟨i, h⟩ m
      window := if s.cmon.window > 1 then s.cmon.window - 1 else s.cmon.window
      dropTimer := dropTimerNext s
      compareTimer := if s.pts.tables.isSome then s.cmon.compareTimer - 1 else s.cmon.compareTimer }
    jmc := { s.jmc with timer := s.jmc.timer - 1 }
    pts := { s.pts with
      write := s.pts.write.map fun w => { w with remaining := w.remaining - 1 }
      verify := s.pts.verify.map (· - 1) } }

/-! ## The events that fall due -/

/-- The command, when its event is due. -/
def dueIf (due : Bool) (i : Instr) : List Instr := if due then [i] else []

/-- The group becomes overdue in the tenth from `old` to `s` (R66). -/
def becomesOverdue (old s : State) (g : GroupId) : Bool := s.waitsTooLong g && !old.overdue g

/-- The events of the groups' timers; `old` is the state before the tenth. -/
def groupEvents (old s : State) (g : GroupId) : List Instr :=
  let r := s.grp g
  dueIf ((old.grp g).cr > 0 && (r.cr = 0 || r.cr = (s.groupDef g).opent)) (.clearanceCountdown g)
    ++ dueIf (openingDue s g) (.openingExpiry g)
    ++ dueIf (minDue s g) (.minCompletion g)
    ++ dueIf (gapDue s g) (.gapTimerExpiry g)
    ++ dueIf (maxDue s g) (.maxGreenReached g)
    ++ dueIf (closingDue s g) (.closingExpiry g)
    ++ dueIf (becomesOverdue old s g) (.groupOverdue g)

/-- The events of what CMON keeps of a group. -/
def monitorEvents (old s : State) (g : GroupId) : List Instr :=
  dueIf (occursAmong s (mismatchConds g)) (.mismatchTimerExceeds g)
    ++ dueIf (occursAmong s [.senseSilent g]) (.senseSilence g)
    ++ dueIf ((old.mon g).go && (old.mon g).scr > s.monitorStart.mtol && (s.mon g).scr = s.monitorStart.mtol)
        (.shadowClearanceFallsToMtol g)

/-- The events of an approach: a timeout for each record that has reached TMAX, recovery, guard and cap. -/
def approachEvents (old s : State) (a : ApproachId) : List Instr :=
  (if (s.appSet a).present then
      ((s.app a).queue.filter fun r => r.age ≥ (s.appSet a).tmax).map fun _ => Instr.tramTimeout a
    else [])
    ++ dueIf (recoveryDue s a) (.recoveryExpiry a)
    ++ dueIf (guardDue old a) (.guardExpiry a)
    ++ dueIf (capDue s a) (.capExpiry a)

/-- The events of a detector. -/
def detectorEvents (s : State) (d : DetId) : List Instr :=
  dueIf (silenceDue s d) (.silenceConfirmed d) ++ dueIf (stuckDue s d) (.stuckLimitReached d)

/-- The events that concern no one group, detector or approach. -/
def otherEvents (old s : State) : List Instr :=
  dueIf (verificationDue s) .verificationEnd
    ++ dueIf (s.sge.lampRepeat = 0) .lampCommandRepeat
    ++ dueIf (endCountdownDue s) .endCountdownExpiry
    ++ dueIf (manualHoldDue s && !manualHoldDue old) .manualHoldExpiry
    ++ dueIf (startFlashingDue s) .startFlashingExpiry
    ++ dueIf (allRedDue s) .allRedExpiry
    ++ dueIf (comparisonDue s) .integrityComparison
    ++ dueIf (safeDropDue s) .safeDrop
    ++ dueIf (windowDue old) .restartWindowEnd
    ++ dueIf (planWrite? s).isSome .planWriteDone
    ++ dueIf (tableWrite? s).isSome .tableWriteDone
    ++ dueIf (s.ruling ≠ s.pri.rulingHeld) .ageReversesOrder

/-- Every event that has fallen due in the tenth from `old` to `s`. -/
def dueEvents (old s : State) : List Instr :=
  groupIds.flatMap (groupEvents old s) ++ groupIds.flatMap (monitorEvents old s)
    ++ approachIds.flatMap (approachEvents old s)
    ++ (s.pri.calls.filter fun c => c.state = .serving && c.remaining = 0).map (fun c => Instr.callHoldExpiry c.id)
    ++ detIds.flatMap (detectorEvents s) ++ otherEvents old s

/-- One tenth passes: every timer moves, and every event that has fallen due joins the queue. SEQ has yet to take those of the
groups that become overdue. -/
def tick (s : State) : State :=
  let t := advance s.begun
  let x := freeOrder (dueEvents s t) t
  { x.2 with
    pending := x.2.pending ++ x.1
    seq := { x.2.seq with overdueAwaited := GroupSet.ofList (groupIds.filter (becomesOverdue s t)) } }

end Sys2Proof.Machine
end

