-- ==== Sys2Proof/Machine/ExecControl.lean ====
section
/-! DEFINITION. The meanings of the control requests of the cabinet link, one for each. -/

namespace Sys2Proof.Machine

/-- MODE_REQUEST (R144). -/
def execModeRequest (tag : Byte) (mode : Nat) (s : State) : Host.Outcome State Fault Refusal :=
  .next (perform (takeModeRequest tag mode) s)

/-- MANUAL_POST (R156). -/
def execManualPost (tag : Byte) (stage hold : Nat) (s : State) : Host.Outcome State Fault Refusal :=
  .next (perform (takeManualPost tag stage hold) s)

/-- PLAN_SELECT (R83). -/
def execPlanSelect (tag : Byte) (slot : Nat) (s : State) : Host.Outcome State Fault Refusal :=
  .next (perform (takePlanSelect tag slot) s)

/-- DEMAND_PLACE (R69). -/
def execDemandPlace (tag : Byte) (group : Nat) (s : State) : Host.Outcome State Fault Refusal :=
  .next (perform (takeDemandPlace tag group) s)

/-- DETECTOR_MASK (R52). -/
def execDetectorMask (tag : Byte) (detector : Nat) (set : Bool) (s : State) : Host.Outcome State Fault Refusal :=
  .next (perform (takeDetectorMask tag detector set) s)

/-- TRAM_IN (R99). -/
def execTramIn (tag : Byte) (approach : Nat) (vehicle eta : Option Nat) (s : State) : Host.Outcome State Fault Refusal :=
  .next (perform (takeTramIn tag approach vehicle eta) s)

/-- TRAM_OUT (R100). -/
def execTramOut (tag : Byte) (approach : Nat) (s : State) : Host.Outcome State Fault Refusal :=
  .next (perform (takeTramOut tag approach) s)

/-- CALL_PLACE (R109). -/
def execCallPlace (tag : Byte) (id level target eta hold : Nat) (s : State) : Host.Outcome State Fault Refusal :=
  .next (perform (takeCallPlace tag id level target eta hold) s)

/-- CALL_CANCEL (R112). -/
def execCallCancel (tag : Byte) (id : Nat) (s : State) : Host.Outcome State Fault Refusal :=
  .next (perform (takeCallCancel tag id) s)

/-- FAULT_CLEAR (R172). -/
def execFaultClear (tag : Byte) (s : State) : Host.Outcome State Fault Refusal :=
  .next (takeFaultClear tag s.begun)

/-- RESTART (R153). -/
def execRestart (tag : Byte) (s : State) : Host.Outcome State Fault Refusal :=
  .next (perform (takeRestart tag) s)

/-- LINK_SET (R204). -/
def execLinkSet (tag : Byte) (af : Nat) (s : State) : Host.Outcome State Fault Refusal :=
  .next (takeLinkSet tag af s.begun)

end Sys2Proof.Machine
end

