-- ==== Sys2Proof/Machine/ExecLines.lean ====
section
/-! DEFINITION. The meanings of the power-on reset and of what arrives or leaves on the part's lines: detector words, lamp commands, lamp
sense records and the bytes of the cabinet link. -/

namespace Sys2Proof.Machine

/-- POWER_ON_RESET: every block takes its reset values, and the verification begins (R178). -/
def execPowerOnReset (s : State) : Host.Outcome State Fault Refusal :=
  .next (powerOn s)

/-- DETECTOR_WORD: a word of the detector line is charged to its channel (R41, R49). -/
def execDetectorWord (channel : Nat) (occupied cardFault passesParity : Bool) (s : State) : Host.Outcome State Fault Refusal :=
  .next (perform (chargeWord channel occupied cardFault passesParity) s)

/-- LAMP_COMMAND_REPEAT: SGE repeats every group's lamp command (R5). -/
def execLampCommandRepeat (s : State) : Host.Outcome State Fault Refusal :=
  .next (repeatLamps s.begun)

/-- LAMP_SENSE_RECORD: a lamp sense record arrives (R159, R160). -/
def execLampSenseRecord (group : Nat) (red amber go redCurrent passesParity : Bool) (s : State) : Host.Outcome State Fault Refusal :=
  .next (perform (senseRecord group red amber go redCurrent passesParity) s)

/-- RECEIVE_GAP_TIMEOUT: a gap inside a frame discards it (R195). -/
def execReceiveGapTimeout (s : State) : Host.Outcome State Fault Refusal :=
  .next (receiveGap s.begun)

/-- LINK_BYTE: a byte arrives on the cabinet link (R195 to R197). -/
def execLinkByte (byte : Byte) (framingError : Bool) (s : State) : Host.Outcome State Fault Refusal :=
  .next (perform (receiveByte byte framingError) s)

/-- TRANSMIT_COMPLETE: the transmitter completes its frame (R199). -/
def execTransmitComplete (s : State) : Host.Outcome State Fault Refusal :=
  .next (transmitDone s.begun)

end Sys2Proof.Machine
end

