-- ==== Sys2Proof/Machine/ExecQueries.lean ====
section
/-! DEFINITION. The meanings of the queries of the cabinet link, one for each. -/

namespace Sys2Proof.Machine

/-- STATUS (R205). -/
def execStatus (tag : Byte) (s : State) : Host.Outcome State Fault Refusal :=
  .next (takeStatus tag s.begun)

/-- GROUPS (R23). -/
def execGroups (tag : Byte) (part : Nat) (s : State) : Host.Outcome State Fault Refusal :=
  .next (takeGroups tag part s.begun)

/-- DETECTOR (R60). -/
def execDetector (tag : Byte) (detector : Nat) (s : State) : Host.Outcome State Fault Refusal :=
  .next (takeDetector tag detector s.begun)

/-- TRAMS (R116). -/
def execTrams (tag : Byte) (s : State) : Host.Outcome State Fault Refusal :=
  .next (takeTrams tag s.begun)

/-- CALLS (R117). -/
def execCalls (tag : Byte) (s : State) : Host.Outcome State Fault Refusal :=
  .next (takeCalls tag s.begun)

/-- FAULTS (R176). -/
def execFaults (tag : Byte) (part : Nat) (s : State) : Host.Outcome State Fault Refusal :=
  .next (takeFaults tag part s.begun)

/-- STACK (R137). -/
def execStack (tag : Byte) (s : State) : Host.Outcome State Fault Refusal :=
  .next (takeStack tag s.begun)

/-- PLAN_READ (R192). -/
def execPlanRead (tag : Byte) (slot : Nat) (k : PlanSectionName) (s : State) : Host.Outcome State Fault Refusal :=
  .next (takePlanRead tag slot k s.begun)

/-- TABLE_READ (R192). -/
def execTableRead (tag : Byte) (c : TableCopy) (k : TableSectionName) (s : State) : Host.Outcome State Fault Refusal :=
  .next (takeTableRead tag c k s.begun)

end Sys2Proof.Machine
end

