-- ==== Sys2Proof/Machine/ExecStore.lean ====
section
/-! DEFINITION. The meanings of the store requests of the cabinet link, one for each. -/

namespace Sys2Proof.Machine

/-- PLAN_SECTION (R180). -/
def execPlanSection (tag : Byte) (contents : PlanSectionArg) (s : State) : Host.Outcome State Fault Refusal :=
  .next (takePlanSection tag contents s.begun)

/-- PLAN_STORE (R182). -/
def execPlanStore (tag : Byte) (slot : Nat) (s : State) : Host.Outcome State Fault Refusal :=
  .next (takePlanStore tag slot s.begun)

/-- TABLE_SECTION (R186). -/
def execTableSection (tag : Byte) (contents : TableSectionArg) (s : State) : Host.Outcome State Fault Refusal :=
  .next (takeTableSection tag contents s.begun)

/-- TABLE_COMMIT (R187). -/
def execTableCommit (tag : Byte) (s : State) : Host.Outcome State Fault Refusal :=
  .next (takeTableCommit tag s.begun)

/-- TABLE_LOCK (R189). -/
def execTableLock (tag : Byte) (s : State) : Host.Outcome State Fault Refusal :=
  .next (takeTableLock tag s.begun)

/-- TABLE_UNLOCK (R189). -/
def execTableUnlock (tag : Byte) (s : State) : Host.Outcome State Fault Refusal :=
  .next (takeTableUnlock tag s.begun)

/-- PROTECT_SET (R190). -/
def execProtectSet (tag : Byte) (p : Nat) (s : State) : Host.Outcome State Fault Refusal :=
  .next (takeProtectSet tag p s.begun)

/-- START_PLAN_SET (R191). -/
def execStartPlanSet (tag : Byte) (slot : Nat) (s : State) : Host.Outcome State Fault Refusal :=
  .next (takeStartPlanSet tag slot s.begun)

end Sys2Proof.Machine
end

