-- ==== Sys2Proof/Machine/ExecTimers.lean ====
section
/-! DEFINITION. The meanings of the events of the part's timers, one for each command. -/

namespace Sys2Proof.Machine

/-- VERIFICATION_END: PTS ends its verification and tells JMC (R141, R178). -/
def execVerificationEnd (s : State) : Host.Outcome State Fault Refusal :=
  .next (perform (fun s => whenDue (verificationDue s) endVerification s) s)

/-- SILENCE_CONFIRMED: a silence timer has reached 30 (R48). -/
def execSilenceConfirmed (d : DetId) (s : State) : Host.Outcome State Fault Refusal :=
  .next (perform (fun s => whenDue (silenceDue s d) (confirmSilence d) s) s)

/-- STUCK_LIMIT_REACHED: the since-change timer has reached the plan's limit (R47). -/
def execStuckLimitReached (d : DetId) (s : State) : Host.Outcome State Fault Refusal :=
  .next (perform (fun s => whenDue (stuckDue s d) (becomeStuck d) s) s)

/-- CLEARANCE_COUNTDOWN: a CR has reached OPENT or 0; admission and the end of CLEARING are tested (R8, R31, R151). The
tests read the state of every group, so that of two groups waiting at one moment the lower number is admitted. -/
def execClearanceCountdown (_g : GroupId) (s : State) : Host.Outcome State Fault Refusal :=
  .next (perform clearanceFell s)

/-- OPENING_EXPIRY: the group enters OPEN (R9, R10). -/
def execOpeningExpiry (g : GroupId) (s : State) : Host.Outcome State Fault Refusal :=
  .next (perform (fun s => whenDue (openingDue s g) (enterOpen g) s) s)

/-- MIN_COMPLETION: MG_rem has reached 0 (R14). -/
def execMinCompletion (g : GroupId) (s : State) : Host.Outcome State Fault Refusal :=
  .next (perform (fun s => whenDue (minDue s g) (minComplete g) s) s)

/-- GAP_TIMER_EXPIRY: the extension status becomes GAPPED (R16). -/
def execGapTimerExpiry (g : GroupId) (s : State) : Host.Outcome State Fault Refusal :=
  .next (perform (fun s => whenDue (gapDue s g) (finalStatus g .gapped) s) s)

/-- MAX_GREEN_REACHED: the extension status becomes MAXED (R17). -/
def execMaxGreenReached (g : GroupId) (s : State) : Host.Outcome State Fault Refusal :=
  .next (perform (fun s => whenDue (maxDue s g) (finalStatus g .maxed) s) s)

/-- CLOSING_EXPIRY: the group enters CLOSED (R13). -/
def execClosingExpiry (g : GroupId) (s : State) : Host.Outcome State Fault Refusal :=
  .next (perform (fun s => whenDue (closingDue s g) (enterClosed g) s) s)

/-- GROUP_OVERDUE: the starvation cut begins and SEQ chooses (R66, R72, R74). -/
def execGroupOverdue (g : GroupId) (s : State) : Host.Outcome State Fault Refusal :=
  .next (perform (takeOverdue g) s)

/-- END_COUNTDOWN_EXPIRY: H has reached 0 (R75). -/
def execEndCountdownExpiry (s : State) : Host.Outcome State Fault Refusal :=
  .next (perform endCountdownExpired s)

/-- MANUAL_HOLD_EXPIRY: the manual hold has run out, and SEQ tests readiness (R71, R157). -/
def execManualHoldExpiry (s : State) : Host.Outcome State Fault Refusal :=
  .next (perform (fun s => whenDue (manualHoldDue s) (State.push · .retest) s) s)

/-- TRAM_TIMEOUT: the head of the queue has reached TMAX and leaves LOST (R96). -/
def execTramTimeout (a : ApproachId) (s : State) : Host.Outcome State Fault Refusal :=
  .next (perform (fun s => whenDue (timeoutDue s a) (loseHead a) s) s)

/-- RECOVERY_EXPIRY: the episode becomes IDLE (R105). -/
def execRecoveryExpiry (a : ApproachId) (s : State) : Host.Outcome State Fault Refusal :=
  .next (perform (fun s => whenDue (recoveryDue s a) (endRecovery a) s) s)

/-- GUARD_EXPIRY: the guard ends (R94, R98). -/
def execGuardExpiry (a : ApproachId) (s : State) : Host.Outcome State Fault Refusal :=
  .next (whenDue (guardDue s a) (endGuard a) s.begun)

/-- CAP_EXPIRY: a loaded cap has run out (R123). -/
def execCapExpiry (a : ApproachId) (s : State) : Host.Outcome State Fault Refusal :=
  .next (perform (fun s => whenDue (capDue s a) (capExpired a) s) s)

/-- CALL_HOLD_EXPIRY: a call's hold remaining has run out (R110). -/
def execCallHoldExpiry (id : Nat) (s : State) : Host.Outcome State Fault Refusal :=
  .next (perform (fun s => whenDue (callHoldDue s id) (finishCall id) s) s)

/-- START_FLASHING_EXPIRY: the phase becomes ALL_RED (R146, R147). -/
def execStartFlashingExpiry (s : State) : Host.Outcome State Fault Refusal :=
  .next (perform (fun s => whenDue (startFlashingDue s) beginAllRed s) s)

/-- ALL_RED_EXPIRY: the phase becomes FIRST_STAGE (R147). -/
def execAllRedExpiry (s : State) : Host.Outcome State Fault Refusal :=
  .next (perform (fun s => whenDue (allRedDue s) beginFirstStage s) s)

/-- MISMATCH_TIMER_EXCEEDS: a mismatch timer of the group exceeds MTOL (R164). -/
def execMismatchTimerExceeds (g : GroupId) (s : State) : Host.Outcome State Fault Refusal :=
  .next (perform (evaluateIf (mismatchConds g)) s)

/-- SENSE_SILENCE: the group's silence timer stands at 10 (R165). -/
def execSenseSilence (g : GroupId) (s : State) : Host.Outcome State Fault Refusal :=
  .next (perform (evaluateIf [.senseSilent g]) s)

/-- INTEGRITY_COMPARISON: a comparison completes and the next begins (R165). -/
def execIntegrityComparison (s : State) : Host.Outcome State Fault Refusal :=
  .next (perform (fun s => whenDue (comparisonDue s) completeComparison s) s)

/-- SAFE_DROP: the SAFE drop timer has reached 30 (R171). -/
def execSafeDrop (s : State) : Host.Outcome State Fault Refusal :=
  .next (perform (fun s => whenDue (safeDropDue s) dropSafe s) s)

/-- RESTART_WINDOW_END: the restart window ends (R168). -/
def execRestartWindowEnd (s : State) : Host.Outcome State Fault Refusal :=
  .next (whenDue (windowDue s) endWindow s.begun)

/-- PLAN_WRITE_DONE: a plan write completes (R184). -/
def execPlanWriteDone (s : State) : Host.Outcome State Fault Refusal :=
  .next (match planWrite? s with
    | some (n, p) => completePlanWrite n p s.begun
    | none => s.begun)

/-- TABLE_WRITE_DONE: a table write completes (R188). -/
def execTableWriteDone (s : State) : Host.Outcome State Fault Refusal :=
  .next (match tableWrite? s with
    | some t => perform (completeTableWrite t) s
    | none => s.begun)

/-- SHADOW_CLEARANCE_FALLS_TO_MTOL: the group's INTERGREEN_SHORT condition ends (R163). CMON forgets every condition that
is no longer present, so that it may occur again (R169). -/
def execShadowClearanceFallsToMtol (_g : GroupId) (s : State) : Host.Outcome State Fault Refusal :=
  .next (dropEnded s.begun)

/-- AGE_REVERSES_ORDER: PRI determines the ruling request anew (R91). -/
def execAgeReversesOrder (s : State) : Host.Outcome State Fault Refusal :=
  .next (perform (determineRuling false) s)

end Sys2Proof.Machine
end

