-- ==== Sys2Proof/Machine/Dispatch.lean ====
section
/-! DEFINITION. The meaning of every command, one arm for each. -/

namespace Sys2Proof.Machine

def exec (i : Instr) (s : State) : Host.Outcome State Fault Refusal :=
  match i with
  | .powerOnReset => Sys2Proof.Machine.execPowerOnReset s
  | .verificationEnd => Sys2Proof.Machine.execVerificationEnd s
  | .detectorWord channel occupied cardFault passesParity => Sys2Proof.Machine.execDetectorWord channel occupied cardFault passesParity s
  | .silenceConfirmed d => Sys2Proof.Machine.execSilenceConfirmed d s
  | .stuckLimitReached d => Sys2Proof.Machine.execStuckLimitReached d s
  | .clearanceCountdown g => Sys2Proof.Machine.execClearanceCountdown g s
  | .openingExpiry g => Sys2Proof.Machine.execOpeningExpiry g s
  | .minCompletion g => Sys2Proof.Machine.execMinCompletion g s
  | .gapTimerExpiry g => Sys2Proof.Machine.execGapTimerExpiry g s
  | .maxGreenReached g => Sys2Proof.Machine.execMaxGreenReached g s
  | .closingExpiry g => Sys2Proof.Machine.execClosingExpiry g s
  | .lampCommandRepeat => Sys2Proof.Machine.execLampCommandRepeat s
  | .groupOverdue g => Sys2Proof.Machine.execGroupOverdue g s
  | .endCountdownExpiry => Sys2Proof.Machine.execEndCountdownExpiry s
  | .manualHoldExpiry => Sys2Proof.Machine.execManualHoldExpiry s
  | .tramTimeout a => Sys2Proof.Machine.execTramTimeout a s
  | .recoveryExpiry a => Sys2Proof.Machine.execRecoveryExpiry a s
  | .guardExpiry a => Sys2Proof.Machine.execGuardExpiry a s
  | .capExpiry a => Sys2Proof.Machine.execCapExpiry a s
  | .callHoldExpiry id => Sys2Proof.Machine.execCallHoldExpiry id s
  | .startFlashingExpiry => Sys2Proof.Machine.execStartFlashingExpiry s
  | .allRedExpiry => Sys2Proof.Machine.execAllRedExpiry s
  | .lampSenseRecord group red amber go redCurrent passesParity => Sys2Proof.Machine.execLampSenseRecord group red amber go redCurrent passesParity s
  | .mismatchTimerExceeds g => Sys2Proof.Machine.execMismatchTimerExceeds g s
  | .senseSilence g => Sys2Proof.Machine.execSenseSilence g s
  | .integrityComparison => Sys2Proof.Machine.execIntegrityComparison s
  | .safeDrop => Sys2Proof.Machine.execSafeDrop s
  | .restartWindowEnd => Sys2Proof.Machine.execRestartWindowEnd s
  | .planWriteDone => Sys2Proof.Machine.execPlanWriteDone s
  | .tableWriteDone => Sys2Proof.Machine.execTableWriteDone s
  | .receiveGapTimeout => Sys2Proof.Machine.execReceiveGapTimeout s
  | .linkByte byte framingError => Sys2Proof.Machine.execLinkByte byte framingError s
  | .transmitComplete => Sys2Proof.Machine.execTransmitComplete s
  | .status tag => Sys2Proof.Machine.execStatus tag s
  | .groups tag part => Sys2Proof.Machine.execGroups tag part s
  | .detector tag detector => Sys2Proof.Machine.execDetector tag detector s
  | .trams tag => Sys2Proof.Machine.execTrams tag s
  | .calls tag => Sys2Proof.Machine.execCalls tag s
  | .faults tag part => Sys2Proof.Machine.execFaults tag part s
  | .stack tag => Sys2Proof.Machine.execStack tag s
  | .planRead tag slot k => Sys2Proof.Machine.execPlanRead tag slot k s
  | .tableRead tag copy k => Sys2Proof.Machine.execTableRead tag copy k s
  | .modeRequest tag mode => Sys2Proof.Machine.execModeRequest tag mode s
  | .manualPost tag stage hold => Sys2Proof.Machine.execManualPost tag stage hold s
  | .planSelect tag slot => Sys2Proof.Machine.execPlanSelect tag slot s
  | .demandPlace tag group => Sys2Proof.Machine.execDemandPlace tag group s
  | .detectorMask tag detector set => Sys2Proof.Machine.execDetectorMask tag detector set s
  | .tramIn tag approach vehicle eta => Sys2Proof.Machine.execTramIn tag approach vehicle eta s
  | .tramOut tag approach => Sys2Proof.Machine.execTramOut tag approach s
  | .callPlace tag id level target eta hold => Sys2Proof.Machine.execCallPlace tag id level target eta hold s
  | .callCancel tag id => Sys2Proof.Machine.execCallCancel tag id s
  | .faultClear tag => Sys2Proof.Machine.execFaultClear tag s
  | .restart tag => Sys2Proof.Machine.execRestart tag s
  | .linkSet tag af => Sys2Proof.Machine.execLinkSet tag af s
  | .planSection tag c => Sys2Proof.Machine.execPlanSection tag c s
  | .planStore tag slot => Sys2Proof.Machine.execPlanStore tag slot s
  | .tableSection tag c => Sys2Proof.Machine.execTableSection tag c s
  | .tableCommit tag => Sys2Proof.Machine.execTableCommit tag s
  | .tableLock tag => Sys2Proof.Machine.execTableLock tag s
  | .tableUnlock tag => Sys2Proof.Machine.execTableUnlock tag s
  | .protectSet tag p => Sys2Proof.Machine.execProtectSet tag p s
  | .startPlanSet tag slot => Sys2Proof.Machine.execStartPlanSet tag slot s
  | .shadowClearanceFallsToMtol g => Sys2Proof.Machine.execShadowClearanceFallsToMtol g s
  | .ageReversesOrder => Sys2Proof.Machine.execAgeReversesOrder s

end Sys2Proof.Machine
end

