-- ==== Sys2Proof/WellFormed.lean ====
section
/-! DEFINITION. The commands that can reach the part: a request's numbers fit the bytes the link carries them in (R206), a
sequence section has its sixteen places (assumption 12), and a call hold's timer names an identifier a call can have
(R108). A detector word and a lamp sense record may name any number: R41 and R159 say what becomes of one out of
range. -/

namespace Sys2Proof

/-- The number fits one byte (R206). -/
def inByte (n : Nat) : Bool := n < 256

/-- The number fits two bytes (R206). -/
def inTwoBytes (n : Nat) : Bool := n < 65536

/-- A number that may be absent fits two bytes when it is there. -/
def optInTwoBytes (o : Option Nat) : Bool := o.all inTwoBytes

/-- The timings of a group fit their places (R64, R179). -/
def GroupTimes.fits (t : GroupTimes) : Bool :=
  inTwoBytes t.ming && inTwoBytes t.maxg && inByte t.gap && inTwoBytes t.maxwait

/-- A SEQUENCE section fits its places, of which sixteen are for entries (R63, assumption 12). -/
def RawSequence.fits (q : RawSequence) : Bool :=
  inByte q.count && q.entries.length = 16 && q.entries.all (fun e => inByte e.stage) && inByte q.startStage
    && inByte q.resumeMin

/-- The settings of a detector fit their places (R43). -/
def RawDetector.fits (d : RawDetector) : Bool :=
  inByte d.approach && inTwoBytes d.stuckOn && inTwoBytes d.stuckOff && inByte d.ringLength

/-- The settings of a tram approach fit their places (R93). -/
def RawApproach.fits (a : RawApproach) : Bool :=
  inByte a.tramGroup && inByte a.priorityStage && inTwoBytes a.run && inTwoBytes a.ext && inTwoBytes a.tmax
    && inTwoBytes a.recovery && inByte a.checkinGuard

/-- The definition of a group fits its places (R24). -/
def GroupDef.fits (d : GroupDef) : Bool := inByte d.close && inByte d.opent

/-- A row of the intergreen matrix fits its places (R26). -/
def IgRow.fits (r : IgRow) : Bool := r.toList.all fun e => e.all inByte

/-- The monitor settings and start-up values fit their places (R27). -/
def MonitorStart.fits (m : MonitorStart) : Bool := inByte m.mtol && inTwoBytes m.startFlash && inByte m.startClear

/-- The contents of a plan section fit their places. -/
def PlanSectionArg.fits : PlanSectionArg → Bool
  | .stages _ => true
  | .sequence q => q.fits
  | .groupTimesA v => v.toList.all GroupTimes.fits
  | .groupTimesB v => v.toList.all GroupTimes.fits
  | .detectorsA v => v.toList.all RawDetector.fits
  | .detectorsB v => v.toList.all RawDetector.fits
  | .priority v => v.toList.all RawApproach.fits

/-- The contents of a table section fit their places. -/
def TableSectionArg.fits : TableSectionArg → Bool
  | .groups v => v.toList.all GroupDef.fits
  | .conflicts _ => true
  | .ig _ v => v.toList.all IgRow.fits
  | .monitorStart m => m.fits

/-- The command can reach the part. -/
def Instr.wellFormed : Instr → Bool
  | .powerOnReset => true
  | .verificationEnd => true
  | .detectorWord _ _ _ _ => true
  | .silenceConfirmed _ => true
  | .stuckLimitReached _ => true
  | .clearanceCountdown _ => true
  | .openingExpiry _ => true
  | .minCompletion _ => true
  | .gapTimerExpiry _ => true
  | .maxGreenReached _ => true
  | .closingExpiry _ => true
  | .lampCommandRepeat => true
  | .groupOverdue _ => true
  | .endCountdownExpiry => true
  | .manualHoldExpiry => true
  | .tramTimeout _ => true
  | .recoveryExpiry _ => true
  | .guardExpiry _ => true
  | .capExpiry _ => true
  | .callHoldExpiry id => 1 ≤ id && id ≤ 255
  | .startFlashingExpiry => true
  | .allRedExpiry => true
  | .lampSenseRecord _ _ _ _ _ _ => true
  | .mismatchTimerExceeds _ => true
  | .senseSilence _ => true
  | .integrityComparison => true
  | .safeDrop => true
  | .restartWindowEnd => true
  | .planWriteDone => true
  | .tableWriteDone => true
  | .receiveGapTimeout => true
  | .linkByte _ _ => true
  | .transmitComplete => true
  | .status _ => true
  | .groups _ part => inByte part
  | .detector _ d => inByte d
  | .trams _ => true
  | .calls _ => true
  | .faults _ part => inByte part
  | .stack _ => true
  | .planRead _ slot _ => inByte slot
  | .tableRead _ _ _ => true
  | .modeRequest _ mode => inByte mode
  | .manualPost _ stage hold => inByte stage && inTwoBytes hold
  | .planSelect _ slot => inByte slot
  | .demandPlace _ g => inByte g
  | .detectorMask _ d _ => inByte d
  | .tramIn _ a vehicle eta => inByte a && optInTwoBytes vehicle && optInTwoBytes eta
  | .tramOut _ a => inByte a
  | .callPlace _ id level target eta hold =>
    inByte id && inByte level && inByte target && inTwoBytes eta && inTwoBytes hold
  | .callCancel _ id => inByte id
  | .faultClear _ => true
  | .restart _ => true
  | .linkSet _ af => inByte af
  | .planSection _ contents => contents.fits
  | .planStore _ slot => inByte slot
  | .tableSection _ contents => contents.fits
  | .tableCommit _ => true
  | .tableLock _ => true
  | .tableUnlock _ => true
  | .protectSet _ p => inByte p
  | .startPlanSet _ slot => inByte slot
  | .shadowClearanceFallsToMtol _ => true
  | .ageReversesOrder => true

end Sys2Proof
end

