-- ==== Sys2Proof/Machine/Encode.lean ====
section
/-! DEFINITION. The frames in which the cabinet processor sends its requests (sections 10.2, 10.5 and 10.6): the code and the TAG of
a request, its body, and the whole frame. The receiver of `Link` is written from the same layouts, and the two are
compared by statements. -/

namespace Sys2Proof.Machine

/-- One place for an entry of a sequence list. -/
def bytesRawEntry (e : RawEntry) : List Byte := byte1 e.stage ++ byteFlag e.always

/-- A SEQUENCE section as a request carries it (assumption 12). -/
def bytesRawSequence (q : RawSequence) : List Byte :=
  byte1 q.count ++ bytesOf bytesRawEntry q.entries ++ byte1 q.mode.code ++ byte1 q.startStage ++ byte1 q.resumeMin

/-- The settings of a detector as a request carries them (R43). -/
def bytesRawDetector (d : RawDetector) : List Byte :=
  byte1 d.kind.code ++ byteSet d.groups ++ byte1 d.approach ++ byte1 d.faultMode.code ++ byte2 d.stuckOn
    ++ byte2 d.stuckOff ++ byte1 d.ringLength ++ byteFlag d.edgeReporting

/-- The settings of a tram approach as a request carries them (R93). -/
def bytesRawApproach (a : RawApproach) : List Byte :=
  byteFlag a.present ++ byte1 a.tramGroup ++ byte1 a.priorityStage ++ byte2 a.run ++ byte2 a.ext ++ byte2 a.tmax
    ++ byte2 a.recovery ++ byte1 a.checkinGuard

/-- The code of a section of a plan (R179, R206). -/
def PlanSectionName.code : PlanSectionName → Nat
  | .stages => 0 | .sequence => 1 | .groupTimesA => 2 | .groupTimesB => 3 | .detectorsA => 4 | .detectorsB => 5
  | .priority => 6

/-- The code of a section of the safety tables (R186, R206). -/
def TableSectionName.code : TableSectionName → Nat
  | .groups => 0 | .conflicts => 1 | .ig k => 2 + k.val | .monitorStart => 6

/-- The code of a copy of the tables (R192, R206). -/
def TableCopy.code : TableCopy → Nat
  | .inForce => 0 | .draft => 1

/-- The section a PLAN_SECTION request names. -/
def planSectionName : PlanSectionArg → PlanSectionName
  | .stages _ => .stages
  | .sequence _ => .sequence
  | .groupTimesA _ => .groupTimesA
  | .groupTimesB _ => .groupTimesB
  | .detectorsA _ => .detectorsA
  | .detectorsB _ => .detectorsB
  | .priority _ => .priority

/-- The section a TABLE_SECTION request names. -/
def tableSectionName : TableSectionArg → TableSectionName
  | .groups _ => .groups
  | .conflicts _ => .conflicts
  | .ig k _ => .ig k
  | .monitorStart _ => .monitorStart

/-- The contents of a plan section as a request carries them. -/
def bytesPlanArg : PlanSectionArg → List Byte
  | .stages v => bytesStages v
  | .sequence q => bytesRawSequence q
  | .groupTimesA v => bytesTimes v
  | .groupTimesB v => bytesTimes v
  | .detectorsA v => bytesOf bytesRawDetector v.toList
  | .detectorsB v => bytesOf bytesRawDetector v.toList
  | .priority v => bytesOf bytesRawApproach v.toList

/-- The contents of a table section as a request carries them. -/
def bytesTableArg : TableSectionArg → List Byte
  | .groups v => bytesGroupDefs v
  | .conflicts v => bytesConflicts v
  | .ig _ v => bytesIg v
  | .monitorStart m => bytesMonitor m

/-- A request of the cabinet link: its code, its TAG and the bytes of its body (section 10.5). A command that is no
request of the link has none. -/
def requestOf : Instr → Option (Byte × Byte × List Byte)
  | .status tag => some (0x01, tag, [])
  | .groups tag part => some (0x02, tag, byte1 part)
  | .detector tag d => some (0x03, tag, byte1 d)
  | .trams tag => some (0x04, tag, [])
  | .calls tag => some (0x05, tag, [])
  | .faults tag part => some (0x06, tag, byte1 part)
  | .stack tag => some (0x07, tag, [])
  | .planRead tag slot k => some (0x08, tag, byte1 slot ++ byte1 (PlanSectionName.code k))
  | .tableRead tag c k => some (0x09, tag, byte1 (TableCopy.code c) ++ byte1 (TableSectionName.code k))
  | .modeRequest tag mode => some (0x0A, tag, byte1 mode)
  | .manualPost tag stage hold => some (0x0B, tag, byte1 stage ++ byte2 hold)
  | .planSelect tag slot => some (0x0C, tag, byte1 slot)
  | .demandPlace tag g => some (0x0D, tag, byte1 g)
  | .detectorMask tag d set => some (0x0E, tag, byte1 d ++ byteFlag set)
  | .tramIn tag a vehicle eta => some (0x0F, tag, byte1 a ++ byteOpt2 vehicle ++ byteOpt2 eta)
  | .tramOut tag a => some (0x10, tag, byte1 a)
  | .callPlace tag id level target eta hold =>
    some (0x11, tag, byte1 id ++ byte1 level ++ byte1 target ++ byte2 eta ++ byte2 hold)
  | .callCancel tag id => some (0x12, tag, byte1 id)
  | .faultClear tag => some (0x13, tag, [])
  | .restart tag => some (0x14, tag, [])
  | .linkSet tag af => some (0x15, tag, byte1 af)
  | .planSection tag c => some (0x16, tag, byte1 (PlanSectionName.code (planSectionName c)) ++ bytesPlanArg c)
  | .planStore tag slot => some (0x17, tag, byte1 slot)
  | .tableSection tag c => some (0x18, tag, byte1 (TableSectionName.code (tableSectionName c)) ++ bytesTableArg c)
  | .tableCommit tag => some (0x19, tag, [])
  | .tableLock tag => some (0x1A, tag, [])
  | .tableUnlock tag => some (0x1B, tag, [])
  | .protectSet tag p => some (0x1C, tag, byte1 p)
  | .startPlanSet tag slot => some (0x1D, tag, byte1 slot)
  | .powerOnReset | .verificationEnd | .detectorWord .. | .silenceConfirmed _ | .stuckLimitReached _
  | .clearanceCountdown _ | .openingExpiry _ | .minCompletion _ | .gapTimerExpiry _ | .maxGreenReached _
  | .closingExpiry _ | .lampCommandRepeat | .groupOverdue _ | .endCountdownExpiry | .manualHoldExpiry
  | .tramTimeout _ | .recoveryExpiry _ | .guardExpiry _ | .capExpiry _ | .callHoldExpiry _
  | .startFlashingExpiry | .allRedExpiry | .lampSenseRecord .. | .mismatchTimerExceeds _ | .senseSilence _
  | .integrityComparison | .safeDrop | .restartWindowEnd | .planWriteDone | .tableWriteDone
  | .receiveGapTimeout | .linkByte .. | .transmitComplete | .shadowClearanceFallsToMtol _ | .ageReversesOrder => none

/-- The whole frame of a request (section 10.2). -/
def requestFrame (i : Instr) : Option (List Byte) := (requestOf i).map fun x => frameBytes x.1 x.2.1 x.2.2

/-- Bytes reach the receiver one after another, none with a framing error (R195). -/
def receiveBytes (l : List Byte) (s : State) : State := l.foldl (fun s b => receiveByte b false s) s

end Sys2Proof.Machine
end

