-- ==== Sys2Proof/Safety.lean ====
section
/-! DEFINITION. What a safe state of the part is, in the terms statements use: sound tables, groups that follow the mode, the
interlock, and the bounds of the queues; and the request a command delivers. -/

namespace Sys2Proof.Machine

/-! ## The street -/

/-- Tables that pass the validation of R29: "The tables in force hold it only in a form that has passed R29" (R25). -/
def Tables.sound (t : Tables) : Prop := validate t = none

/-- Every copy of the safety tables the part can come to run on is sound: the working copy, both stored areas, and the
copy of a table write in flight (R25, R178, R187). -/
structure TablesSound (s : State) : Prop where
  inForce : ∀ t, s.pts.tables = some t → Tables.sound t
  stored : ∀ (k : Fin 2) (x : StoredTables), s.pts.areas[k] = some x → Tables.sound x.tables
  written : ∀ t n, s.pts.write = some { target := .tables t, remaining := n } → Tables.sound t

/-- The states of the groups fit their presence and the junction mode: an absent group is DARK (R2), every present group
is in FLASH while the mode is FLASH and every group DARK while it is DARK (R20, R21), and the part is dark with no
tables and no write while it verifies its store (R139, R141, R178). -/
structure GroupsFollowMode (s : State) : Prop where
  absent : ∀ g, s.present g = false → (s.grp g).state = .dark
  flash : s.jmc.mode = .flash → ∀ g, s.present g = true → (s.grp g).state = .flash
  dark : s.jmc.mode = .dark → ∀ g, (s.grp g).state = .dark
  verifying : s.pts.verify.isSome = true →
    s.jmc.mode = .dark ∧ s.jmc.darkCause = some .verifying ∧ s.pts.tables = none ∧ s.pts.write = none

/-- "Two conflicting groups are never both in OPENING, OPEN or CLOSING" (R35). -/
def Interlocked (s : State) : Prop :=
  ∀ g h, GroupSet.has (s.conflicts g) h = true →
    ¬ ((s.grp g).state.moving = true ∧ (s.grp h).state.moving = true)

/-- The interlock with what it rests on. -/
structure Safe (s : State) : Prop where
  tables : TablesSound s
  modes : GroupsFollowMode s
  interlock : Interlocked s

/-! ## Queues and tables of requests -/

/-- The queues of the link are within their capacities and AF within its range (R193). -/
def LinkBounded (s : State) : Prop :=
  s.lnk.replies.length ≤ 4 ∧ s.lnk.reports.length ≤ 48 ∧ 8 ≤ s.lnk.af ∧ s.lnk.af ≤ 47

/-- A tram queue holds at most 4 records with pairwise distinct tags of 1 to 255, and the next tag is one of them too
(R94, R95). -/
def Approach.bounded (x : Approach) : Prop :=
  x.queue.length ≤ 4 ∧ (x.queue.map TramRec.tag).Nodup ∧ (∀ r ∈ x.queue, 1 ≤ r.tag ∧ r.tag ≤ 255)
    ∧ 1 ≤ x.nextTag ∧ x.nextTag ≤ 255

/-- The tram queues are bounded, and the call table holds at most 4 calls with distinct identifiers (R95, R108). -/
def RequestsBounded (s : State) : Prop :=
  (∀ a, (s.app a).bounded) ∧ s.pri.calls.length ≤ 4 ∧ (s.pri.calls.map Call.id).Nodup

/-- The slot a plan write is writing stands above the protection count (R190). -/
def WriteAboveProtection (s : State) : Prop := ∀ n, s.writingSlot? = some n → s.pts.protect < number n

/-- The resume stack holds at most three records, their levels strictly rising from the bottom to the top, which stands first
(R133). -/
def StackRising (s : State) : Prop := s.seq.stack.length ≤ 3 ∧ s.seq.stack.Pairwise fun x y => y.level < x.level

/-! ## What an action on groups leaves alone -/

/-- `u` is `s` but for what the Signal Group Engine holds, the lamps and mismatch timers CMON keeps of the groups with what
rests on those timers, and the notices sent. -/
def SameOutsideGroups (s u : State) : Prop :=
  { u with
    sge := s.sge, notices := s.notices
    cmon := { u.cmon with recs := s.cmon.recs, counted := s.cmon.counted, dropTimer := s.cmon.dropTimer } } = s

/-- `u` is `s` but for what the Priority Unit holds, the hold flags of groups, the sequencer's countdown, mark and level, the
link's queues, the lamp line of the command, and the notices sent. -/
structure SameOutsidePriority (s u : State) : Prop where
  blocks : u.dti = s.dti ∧ u.cmon = s.cmon ∧ u.jmc = s.jmc ∧ u.pts = s.pts
  kept : u.time = s.time ∧ u.pins = s.pins ∧ u.pending = s.pending
  seq : { u.seq with h := s.seq.h, mark := s.seq.mark, level := s.seq.level } = s.seq
  lamps : u.sge.lamps = s.sge.lamps
  groups : ∀ g, { u.grp g with hold := (s.grp g).hold } = s.grp g

/-! ## The request a command delivers -/

/-- The request a complete frame carries when its CRC agrees and it passes the checks of R197. -/
def frameRequest : List Byte → Option Instr
  | _ :: len :: kind :: tag :: rest =>
    let body := rest.take len.toNat
    let c := crc (len :: kind :: tag :: body)
    if rest.drop len.toNat = [c.setWidth 8, (c >>> 8).setWidth 8] ∧ bodyLength kind body = some (some body.length) then
      readRequest kind tag body
    else none
  | _ => none

/-- The request a command delivers to its block: the command itself, or, for a byte that completes a frame, the request
of that frame. -/
def delivered (s : State) : Instr → Option Instr
  | .linkByte b framingError =>
    match s.lnk.rx with
    | .hunting => none
    | .assembling l =>
      if framingError = false ∧ lenTooLarge (l ++ [b]) = false ∧ frameComplete (l ++ [b]) = true then
        frameRequest (l ++ [b])
      else none
  | i => some i

end Sys2Proof.Machine
end

