-- ==== Sys2Proof/Certificates/Slice0/Obligations.lean ====
section
/-! DEFINITION. The statements about the part that the provers settle. A command's own effect is written out on the state as the
command finds it, `s.begun`, and `settle Config.reactionBound` delivers the notices it has sent to the blocks they are
for. Free values (`Config.tieBreak`) are nowhere assumed to have any value. -/

open Sys2Proof Sys2Proof.Machine

/-! ## Steps, the queue of commands, and time -/

/-- A step takes the command at the front of the queue and runs it with the queue's rest. -/
def Obligations.StepRunsFrontCommand : Prop :=
  ∀ (s : State) (i : Instr) (rest : List Instr), s.pending = i :: rest → step s = exec i { s with pending := rest }

/-- Every command ends in a next state: the manual gives every command an effect or none, and no stop. -/
def Obligations.EveryCommandEndsInNextState : Prop := ∀ (i : Instr) (s : State), ∃ t, exec i s = .next t

/-- A command changes no waiting command and no pin (that none moves a strap is the model's choice, assumption 6), and junction time is set by a power-on reset alone ("Junction time
is a count of tenths since the last power-on reset"). Its reactions, however many are worked off, also leave as they were
the settings and tables of the store, CMON's second failure and restart window, AF, the frame being received and the link
rate. -/
def Obligations.CommandsKeepQueuePinsTimeAndSettings : Prop :=
  (∀ (i : Instr) (s t : State), exec i s = .next t →
    t.pending = s.pending ∧ t.pins = s.pins ∧ (i ≠ .powerOnReset → t.time = s.time))
  ∧ ∀ (fuel : Nat) (s t : State), settle fuel s = t →
    t.pending = s.pending ∧ t.pins = s.pins ∧ t.time = s.time
    ∧ t.pts.locked = s.pts.locked ∧ t.pts.protect = s.pts.protect ∧ t.pts.startPlan = s.pts.startPlan
    ∧ t.pts.areas = s.pts.areas ∧ t.pts.currentArea = s.pts.currentArea ∧ t.pts.tables = s.pts.tables
    ∧ t.pts.trial = s.pts.trial ∧ t.pts.draft = s.pts.draft ∧ t.pts.verify = s.pts.verify
    ∧ t.cmon.safeDropped = s.cmon.safeDropped ∧ t.cmon.window = s.cmon.window
    ∧ t.lnk.af = s.lnk.af ∧ t.lnk.rx = s.lnk.rx ∧ t.lnk.rate = s.lnk.rate

/-- With no command waiting, one tenth passes, and every event that has fallen due in it joins the queue, in an order
that is left open (assumptions 1 and 2). Which events those are is written out for each timer, on the state `s` before the tenth and
the state `t` after it; nothing else joins the queue, so no request and no reset comes of itself. That no line event does (no byte,
gap, end of a frame, detector word or sense record), so that the link stands as it was, and that no strap moves in a tenth, are
the model's choices (assumptions 15 and 6). The groups that become overdue are those whose event SEQ has yet to take (assumption 44); a guard and a window end by their event (assumption
14), the repetition is due when its period has run out (assumption 5), and a gap timer held at 0 by an input that is on is not
due, which is the model's choice (assumption 40). -/
def Obligations.IdleTenthQueuesEveryDueEvent : Prop :=
  ∀ (s : State), s.pending = [] →
    ∃ t, step s = .next t ∧ t.pending.Perm (dueEvents s (advance s.begun)) ∧ t.time = s.time + 1 ∧ t.pins = s.pins
      ∧ t.lnk = s.lnk ∧ t.sge.lampLine = []
      ∧ (let due (i : Instr) : Prop := i ∈ t.pending
        (∀ g, let r := t.grp g
          let extending : Prop := r.state = .opened ∧ r.minDone = true ∧ r.ext = .running
          (due (.clearanceCountdown g) ↔ 0 < (s.grp g).cr ∧ (r.cr = 0 ∨ r.cr = (s.groupDef g).opent))
          ∧ (due (.openingExpiry g) ↔ r.state = .opening ∧ r.phaseTimer = 0)
          ∧ (due (.closingExpiry g) ↔ r.state = .closing ∧ r.phaseTimer = 0)
          ∧ (due (.minCompletion g) ↔ r.state = .opened ∧ r.mgRem = 0 ∧ r.minDone = false)
          ∧ (due (.gapTimerExpiry g) ↔ extending ∧ r.gapTimer = 0 ∧ r.extInput = false)
          ∧ (due (.maxGreenReached g) ↔ extending ∧ r.effMaxg ≤ r.openElapsed)
          ∧ (due (.groupOverdue g) ↔ (t.dem g).latched = true ∧ r.state ≠ .opened ∧ (s.times g).maxwait ≠ 0
              ∧ (s.times g).maxwait < (t.dem g).wait ∧ s.overdue g = false)
          ∧ (GroupSet.has t.seq.overdueAwaited g = true ↔ due (.groupOverdue g))
          ∧ (due (.mismatchTimerExceeds g) ↔
              ∃ x, (x = .goMismatch g ∨ x = .aspectMismatch g ∨ x = .redOut g) ∧ t.condCounts x = true
                ∧ x ∉ s.cmon.counted)
          ∧ (due (.senseSilence g) ↔ t.condCounts (.senseSilent g) = true ∧ .senseSilent g ∉ s.cmon.counted)
          ∧ (due (.shadowClearanceFallsToMtol g) ↔
              (s.mon g).go = true ∧ s.monitorStart.mtol < (s.mon g).scr ∧ (t.mon g).scr = s.monitorStart.mtol))
        ∧ (∀ d, let r := t.det d
          let c := s.detSet d
          (due (.silenceConfirmed d) ↔ 30 ≤ r.silence ∧ (r.silent = false ∨ r.settled = false))
          ∧ (due (.stuckLimitReached d) ↔ c.kind ≠ .unused
              ∧ ((r.occupied = true ∧ c.stuckOn ≠ 0 ∧ c.stuckOn ≤ r.sinceChange ∧ r.stuckOn = false)
                ∨ (r.occupied = false ∧ c.stuckOff ≠ 0 ∧ c.stuckOff ≤ r.sinceChange ∧ r.stuckOff = false))))
        ∧ (∀ a,
          (due (.tramTimeout a) ↔
              (s.appSet a).present = true ∧ ∃ r ∈ (t.app a).queue, (s.appSet a).tmax ≤ r.age)
          ∧ (due (.recoveryExpiry a) ↔ (t.app a).episode = .recovering ∧ (t.app a).recovery = 0)
          ∧ (due (.guardExpiry a) ↔ (s.app a).checkinGuard = 1)
          ∧ (due (.capExpiry a) ↔ t.cap a = .loaded 0))
        ∧ (∀ id, due (.callHoldExpiry id) ↔ ∃ c ∈ t.pri.calls, c.id = id ∧ c.state = .serving ∧ c.remaining = 0)
        ∧ (due .verificationEnd ↔ t.pts.verify = some 0)
        ∧ (due .lampCommandRepeat ↔ t.sge.lampRepeat = 0)
        ∧ (due .endCountdownExpiry ↔ t.seq.h = some 0)
        ∧ (due .manualHoldExpiry ↔ s.jmc.mode = .manual ∧ t.seq.manualHold = some 0 ∧ s.seq.manualHold ≠ some 0)
        ∧ (due .startFlashingExpiry ↔ s.jmc.mode = .startup ∧ s.jmc.phase = some .startFlashing ∧ t.jmc.timer = 0)
        ∧ (due .allRedExpiry ↔ s.jmc.mode = .startup ∧ s.jmc.phase = some .allRed ∧ t.jmc.timer = 0)
        ∧ (due .integrityComparison ↔ s.pts.tables.isSome = true ∧ t.cmon.compareTimer = 0)
        ∧ (due .safeDrop ↔ s.jmc.mode = .flash ∧ 30 ≤ t.cmon.dropTimer ∧ ∃ g, t.condPresent (.goMismatch g) = true)
        ∧ (due .restartWindowEnd ↔ s.cmon.window = 1)
        ∧ (due .planWriteDone ↔ ∃ n p, t.pts.write = some { target := .slot n p, remaining := 0 })
        ∧ (due .tableWriteDone ↔ (s.jmc.mode = .flash ∨ s.jmc.mode = .dark)
            ∧ ∃ x, t.pts.write = some { target := .tables x, remaining := 0 })
        ∧ (due .ageReversesOrder ↔ t.ruling ≠ s.pri.rulingHeld)
        ∧ (∀ i, due i → requestFrame i = none)
        ∧ ¬ due .powerOnReset ∧ ¬ due .receiveGapTimeout ∧ ¬ due .transmitComplete
        ∧ (∀ b fe, ¬ due (.linkByte b fe)) ∧ (∀ n o c q, ¬ due (.detectorWord n o c q))
        ∧ ∀ n r a g c q, ¬ due (.lampSenseRecord n r a g c q))

/-- What one tenth does to every timer: those of the groups, the period of the lamp repetition (assumption 5), the detectors, the
demand table, the end countdown, the manual hold, the tram approaches, the calls, the caps, CMON, the store and JMC. That a step
on an empty queue is one tenth, which moves every timer at one moment, is the model's choice (assumption 1), and so are that the
last tenth of a check-in guard and of the restart window is their event's to count (assumption 14) and that a gap timer held by
an input that is on takes the GAP of a plan switched to at this tenth (assumption 40). -/
def Obligations.TenthMovesEveryTimer : Prop :=
  ∀ (s : State), s.pending = [] →
    ∃ t, step s = .next t
      ∧ (∀ g, let r := s.grp g
          let isOpen : Bool := decide (r.state = .opened)
          t.grp g = { r with
            phaseTimer := if r.state = .opening ∨ r.state = .closing then r.phaseTimer - 1 else r.phaseTimer
            openElapsed := if isOpen then min (r.openElapsed + 1) 6000 else r.openElapsed
            mgRem := if isOpen then r.mgRem - 1 else r.mgRem
            gapTimer :=
              if isOpen && r.minDone && decide (r.ext = .running) then
                if r.extInput then (s.times g).gap else r.gapTimer - 1
              else r.gapTimer
            cr := r.cr - 1 })
      ∧ (∀ d, let r := s.det d
          t.det d = { r with sinceChange := min (r.sinceChange + 1) 36000, silence := min (r.silence + 1) 30 })
      ∧ t.dti.ext = s.dti.ext ∧ t.dti.fault = s.dti.fault ∧ t.sge.lamps = s.sge.lamps
      ∧ t.sge.lampRepeat = s.sge.lampRepeat - 1
      ∧ (∀ g, t.dem g =
          if s.jmc.mode ≠ .dark ∧ s.jmc.mode ≠ .flash ∧ (s.dem g).latched = true then
            { s.dem g with wait := min ((s.dem g).wait + 1) 6000 }
          else s.dem g)
      ∧ t.seq.h = s.seq.h.map (· - 1)
      ∧ t.seq.manualHold = (if s.seq.status = some .running then s.seq.manualHold.map (· - 1) else s.seq.manualHold)
      ∧ t.seq.stack = s.seq.stack ∧ t.seq.current = s.seq.current ∧ t.seq.status = s.seq.status
      ∧ (∀ a, let x := s.app a
          t.app a = { x with
            queue := x.queue.map fun r => { r with eta := r.eta - 1, age := r.age + 1 }
            recovery := x.recovery - 1
            checkinGuard := if x.checkinGuard > 1 then x.checkinGuard - 1 else x.checkinGuard })
      ∧ t.pri.calls = s.pri.calls.map (fun c =>
          { c with
            eta := c.eta - 1, age := min (c.age + 1) 6000
            remaining := if c.state = .serving then c.remaining - 1 else c.remaining })
      ∧ (∀ a n, s.cap a = .loaded n → t.cap a = .loaded (n - 1))
      ∧ (∀ a, (s.cap a = .absent ∨ s.cap a = .armed) → t.cap a = s.cap a)
      ∧ t.pri.standing = s.pri.standing ∧ t.pri.holders = s.pri.holders ∧ t.pri.own = s.pri.own
      ∧ (∀ g, let m := s.mon g
          let runs : Bool := s.present g && decide (s.jmc.mode ≠ .dark)
          t.mon g = { m with
            silence := min (m.silence + 1) 10
            scr := m.scr - 1
            goTimer := if runs && s.goDiffers g then min (m.goTimer + 1) 255 else 0
            aspectTimer := if runs && s.aspectDiffers g then min (m.aspectTimer + 1) 255 else 0
            redTimer := if runs && s.redOutDiffers g then min (m.redTimer + 1) 255 else 0 })
      ∧ t.cmon.dropTimer =
          (if s.jmc.mode = .flash ∧ s.goMismatchPresent = true then min (s.cmon.dropTimer + 1) 30 else 0)
      ∧ t.cmon.window = (if s.cmon.window > 1 then s.cmon.window - 1 else s.cmon.window)
      ∧ t.cmon.first = s.cmon.first ∧ t.cmon.latched = s.cmon.latched ∧ t.cmon.lockout = s.cmon.lockout
      ∧ t.cmon.compareTimer
        = (if s.pts.tables.isSome = true then s.cmon.compareTimer - 1 else s.cmon.compareTimer)
      ∧ t.cmon.integrity = s.cmon.integrity
      ∧ t.pts = { s.pts with
          write := s.pts.write.map fun w => { w with remaining := w.remaining - 1 }
          verify := s.pts.verify.map (· - 1) }
      ∧ t.jmc = { s.jmc with timer := s.jmc.timer - 1 }

/-! ## Resets -/

/-- A power-on reset gives every block its reset values, keeps the non-volatile store, and begins the verification. The model's
own here: a slot that was being written is INVALID right after the reset, before the verification ends (assumption 19), the
lamp commands of the reset stand on the lamp line (assumption 32), in the order of the groups' numbers (assumption 36), and the link's rate follows the strap as it stands
(assumptions 6 and 25). -/
def Obligations.PowerOnResetSetsEveryBlock : Prop :=
  ∀ (s : State), ∃ t, exec .powerOnReset s = .next t
    ∧ (∀ g, t.grp g = {
          state := .dark, openPending := false, closePending := false, override := none, phaseTimer := 0
          openElapsed := 0, mgRem := 0, gapTimer := 0, ext := .running, effMing := 0, effMaxg := 0, cr := 0
          hold := false, wait := false, extInput := false, minDone := false })
    ∧ t.sge.lampLine = groupIds.map (fun g => { group := g, aspect := .allOff, wait := false })
    ∧ (∀ d, t.det d = {
          occupied := false, settled := false, card := false, parity := false, silent := true, stuckOn := false
          stuckOff := false, sinceChange := 0, silence := 0, parityRun := 0, goodRun := 0, mask := false, count := 0
          ring := [] })
    ∧ t.dti.ext = 0 ∧ t.dti.fault = 0
    ∧ t.seq.activeSlot = none ∧ t.seq.current = none ∧ t.seq.groups = 0 ∧ t.seq.status = none ∧ t.seq.level = 0
    ∧ t.seq.starting = 0 ∧ t.seq.position = 0 ∧ t.seq.holdFreeSeen = false ∧ t.seq.h = none ∧ t.seq.mark = none
    ∧ (∀ g, t.dem g = { latched := false, sources := 0, wait := 0 })
    ∧ t.seq.manualSlot = none ∧ t.seq.manualHold = none ∧ t.seq.pendingPlan = none ∧ t.seq.stack = []
    ∧ (∀ a, t.app a = { queue := [], episode := .idle, recovery := 0, checkinGuard := 0, nextTag := 1 })
    ∧ t.pri.calls = [] ∧ t.pri.standing = none ∧ (∀ a, t.cap a = .absent) ∧ (∀ g, t.holders g = [])
    ∧ t.pri.own = none ∧ t.pri.rulingHeld = none
    ∧ t.jmc = {
        mode := .dark, darkCause := some .verifying, phase := none, timer := 0, firstRunning := false
        safeRequest := false }
    ∧ t.safeOutput = false
    ∧ t.cmon.first = none ∧ t.cmon.latched = 0 ∧ t.cmon.window = 0 ∧ t.cmon.lockout = false
    ∧ t.cmon.safeDropped = false ∧ t.cmon.dropTimer = 0
    ∧ (∀ g, (t.mon g).red = false ∧ (t.mon g).amber = false ∧ (t.mon g).go = false ∧ (t.mon g).redCurrent = false
        ∧ (t.mon g).silence = 0 ∧ (t.mon g).scr = 0 ∧ (t.mon g).source = none ∧ (t.mon g).goTimer = 0
        ∧ (t.mon g).aspectTimer = 0 ∧ (t.mon g).redTimer = 0)
    ∧ t.pts.locked = s.pts.locked ∧ t.pts.protect = s.pts.protect ∧ t.pts.startPlan = s.pts.startPlan
    ∧ t.pts.areas = s.pts.areas ∧ t.pts.currentArea = s.pts.currentArea ∧ t.pts.tables = none ∧ t.pts.write = none
    ∧ t.pts.verify = some 10 ∧ t.pts.trial = {} ∧ t.pts.draft = {}
    ∧ (∀ n, (s.slot n).state = .writing → (t.slot n).state = .invalid)
    ∧ (∀ n, (s.slot n).state ≠ .writing → t.slot n = s.slot n)
    ∧ t.lnk = {
        rate := if s.pins.linkRate then .fast115200 else .slow38400
        rx := .hunting, replies := [], requestsLost := false, reports := [], loss := false, af := 40, tx := none }
    ∧ t.time = 0 ∧ t.pins = s.pins ∧ t.pending = s.pending

/-- The verification ends with no sound tables: the part stays dark with cause NO_TABLES and reports it. Ends with sound
ones that do not ask for AUTOSTART: the SAFE request is made and the mode becomes FLASH. The mode stays FLASH, with AUTOSTART
asked for, when a fault is latched or a fatal SENSE_SILENT stands for a present group, because the source occurs at the entry
into FLASH from DARK. -/
def Obligations.VerificationEndsDarkOrInFlash : Prop :=
  ∀ (s : State), s.notices = [] → s.pts.verify = some 0 → s.jmc.mode = .dark →
    (verifiedTables s.pts = none →
      ∃ t, exec .verificationEnd s = .next t ∧ t.jmc.mode = .dark ∧ t.jmc.darkCause = some .noTables
        ∧ t.jmc.safeRequest = s.jmc.safeRequest ∧ t.pts.tables = none ∧ t.pts.verify = none ∧ t.sge = s.begun.sge
        ∧ t.lnk = (s.lnk.accept { time := s.time, body := .noTables }).begin')
    ∧ (∀ x, verifiedTables s.pts = some x →
      (x.monitor.autostart = false ∨ s.cmon.first.isSome = true
        ∨ (SourceSet.has x.monitor.fatal .senseSilent = true ∧ s.cmon.counted = []
          ∧ ∃ g : GroupId, x.groups[g].present = true ∧ 10 ≤ (s.mon g).silence)) →
      ∃ t, exec .verificationEnd s = .next t ∧ t.jmc.mode = .flash ∧ t.jmc.darkCause = none ∧ t.jmc.safeRequest = true
        ∧ t.pts.tables = some x ∧ t.pts.verify = none
        ∧ ∀ g, x.groups[g].present = true → (t.grp g).state = .flash)

/-- The state right after the first reset is safe and within every bound. -/
def Obligations.ResetStateIsSafeAndBounded : Prop :=
  Safe State.reset ∧ LinkBounded State.reset ∧ RequestsBounded State.reset ∧ WriteAboveProtection State.reset
    ∧ StackRising State.reset ∧ State.reset.safeOutput = false

/-! ## What every step keeps -/

/-- Two conflicting groups are never both in OPENING, OPEN or CLOSING: every step keeps the interlock, with the sound
tables and the modes of the groups that it rests on. -/
def Obligations.EveryStepKeepsTheInterlock : Prop := ∀ (s t : State), Safe s → step s = .next t → Safe t

/-- The lock passes from LOCKED to OPEN only by TABLE_UNLOCK, as a command or in a frame, with the COMMISSION strap
asserted; no reset changes it. -/
def Obligations.LockOpensOnlyByUnlockWithStrap : Prop :=
  ∀ (s t : State), step s = .next t → s.pts.locked = true → t.pts.locked = false →
    s.pins.commission = true
      ∧ ∃ i rest tag, s.pending = i :: rest ∧ delivered s i = some (.tableUnlock tag)

/-- SAFE_DROPPED, once set, is cleared only by a power-on reset, and while it is set the SAFE output is low. -/
def Obligations.SafeDroppedClearedOnlyByPowerOnReset : Prop :=
  ∀ (s t : State), step s = .next t → s.cmon.safeDropped = true →
    (t.cmon.safeDropped = true ∧ t.safeOutput = false) ∨ ∃ rest, s.pending = .powerOnReset :: rest

/-- The first fault is changed only by FAULT_CLEAR or a power-on reset, and lockout is cleared only by a reset or by a
FAULT_CLEAR with the COMMISSION strap asserted. -/
def Obligations.FaultRecordClearedOnlyByRequestOrReset : Prop :=
  ∀ (s t : State), step s = .next t → (∀ rest, s.pending ≠ .powerOnReset :: rest) →
    (∀ f, s.cmon.first = some f → t.cmon.first = some f
      ∨ ∃ i rest tag, s.pending = i :: rest ∧ delivered s i = some (.faultClear tag))
    ∧ (s.cmon.lockout = true → t.cmon.lockout = true
      ∨ (s.pins.commission = true
        ∧ ∃ i rest tag, s.pending = i :: rest ∧ delivered s i = some (.faultClear tag)))

/-- The reply queue holds at most 4 replies and the report queue at most 48 records, and AF stays in 8 to 47. -/
def Obligations.EveryStepKeepsLinkQueuesBounded : Prop :=
  ∀ (s t : State), LinkBounded s → step s = .next t → LinkBounded t

/-- A tram queue holds at most 4 records with pairwise distinct tags, and the call table at most 4 calls with distinct
identifiers. -/
def Obligations.EveryStepKeepsTramQueuesAndCallTable : Prop :=
  ∀ (s t : State), RequestsBounded s → step s = .next t → RequestsBounded t

/-- No plan slot numbered 1 to P is being written: the slot of a plan write in flight stands above the protection
count. -/
def Obligations.EveryStepKeepsWritesAboveProtection : Prop :=
  ∀ (s t : State), WriteAboveProtection s → step s = .next t → WriteAboveProtection t

/-- "The resume stack holds at most 3 records, and the interrupted levels of its records strictly increase from bottom to
top." That a stage whose level is not above the top record's is not pushed is read from that sentence (assumption 26). -/
def Obligations.EveryStepKeepsResumeStackRising : Prop :=
  ∀ (s t : State), StackRising s → step s = .next t → StackRising t

/-! ## The store -/

/-- TABLE_LOCK locks from either value in every mode, and TABLE_UNLOCK opens the lock with the COMMISSION strap asserted and
is refused NO_STRAP without it. PROTECT_SET is checked for RANGE, LOCKED and BUSY in this order, and otherwise P becomes the
value. START_PLAN_SET is refused RANGE outside 1 to 16 and INVALID for a slot that is not VALID, and otherwise the start
plan becomes the slot. -/
def Obligations.StoreSettingsTakenOrRefused : Prop :=
  ∀ (tag : Byte) (s : State),
    (exec (.tableLock tag) s = .next ({ s.begun with pts := { s.pts with locked := true } }.reply 0x1A tag .ok)
      ∧ (s.pins.commission = true →
        exec (.tableUnlock tag) s = .next ({ s.begun with pts := { s.pts with locked := false } }.reply 0x1B tag .ok))
      ∧ (s.pins.commission = false → exec (.tableUnlock tag) s = .next (s.begun.reply 0x1B tag .noStrap)))
    ∧ (∀ p : Nat,
      (16 < p → exec (.protectSet tag p) s = .next (s.begun.reply 0x1C tag .range))
      ∧ (p ≤ 16 → p < s.pts.protect → s.pts.locked = true →
        exec (.protectSet tag p) s = .next (s.begun.reply 0x1C tag .locked))
      ∧ (p ≤ 16 → ¬ (p < s.pts.protect ∧ s.pts.locked = true) →
        ((∃ n, s.writingSlot? = some n ∧ number n ≤ p ∧ s.pts.protect < number n) →
          exec (.protectSet tag p) s = .next (s.begun.reply 0x1C tag .busy))
        ∧ ((¬ ∃ n, s.writingSlot? = some n ∧ number n ≤ p ∧ s.pts.protect < number n) →
          exec (.protectSet tag p) s
            = .next ({ s.begun with pts := { s.pts with protect := p } }.reply 0x1C tag .ok))))
    ∧ (∀ slot, slot = 0 ∨ 16 < slot → exec (.startPlanSet tag slot) s = .next (s.begun.reply 0x1D tag .range))
    ∧ (∀ n : PlanSlot, (s.slot n).state ≠ .valid →
      exec (.startPlanSet tag (number n)) s = .next (s.begun.reply 0x1D tag .invalid))
    ∧ (∀ n : PlanSlot, (s.slot n).state = .valid →
      exec (.startPlanSet tag (number n)) s
        = .next ({ s.begun with pts := { s.pts with startPlan := n } }.reply 0x1D tag .ok))

/-- PLAN_STORE in the order of its checks, each refusal changing nothing but the reply queue; an accepted one starts a
write of 20 tenths of the trial slot's sections as they stand, and the slot becomes WRITING. A PLAN_SECTION does not change
the copy being written. -/
def Obligations.PlanStoreInOrderOfChecks : Prop :=
  ∀ (tag : Byte) (s : State),
    (∀ slot, slot = 0 ∨ 16 < slot → exec (.planStore tag slot) s = .next (s.begun.reply 0x17 tag .range))
    ∧ (∀ c t, exec (.planSection tag c) s = .next t → t.pts.write = s.pts.write ∧ t.pts.slots = s.pts.slots)
    ∧ ∀ n : PlanSlot,
      (s.pts.trial.complete? = none →
        exec (.planStore tag (number n)) s = .next (s.begun.reply 0x17 tag .incomplete))
      ∧ ∀ p, s.pts.trial.complete? = some p →
        (number n ≤ s.pts.protect →
          exec (.planStore tag (number n)) s = .next (s.begun.reply 0x17 tag .protected'))
        ∧ (s.pts.protect < number n → s.seq.activeSlot = some (slotOf n) →
          exec (.planStore tag (number n)) s = .next (s.begun.reply 0x17 tag .activeSlot))
        ∧ (s.pts.protect < number n → s.seq.activeSlot ≠ some (slotOf n) →
          s.pts.write.isSome = true ∨ s.pts.verify.isSome = true →
          exec (.planStore tag (number n)) s = .next (s.begun.reply 0x17 tag .busy))
        ∧ (s.pts.protect < number n → s.seq.activeSlot ≠ some (slotOf n) → s.pts.write = none → s.pts.verify = none →
          (s.pts.tables = none → exec (.planStore tag (number n)) s = .next (s.begun.reply 0x17 tag .invalid))
          ∧ ∀ x, s.pts.tables = some x →
            (∀ d, wholePlanCheck x p = some d →
              exec (.planStore tag (number n)) s = .next (s.begun.reply 0x17 tag d.status d.items))
            ∧ (wholePlanCheck x p = none →
              exec (.planStore tag (number n)) s
                = .next ({ s.begun with
                    pts := { s.pts with
                      write := some { target := .slot n p, remaining := 20 }
                      slots := s.pts.slots.set n { s.slot n with state := .writing, contents := none } } }.reply
                    0x17 tag .accepted)))

/-- PLAN_SECTION: refused ACTIVE_SLOT while the trial slot is active and INVALID with no tables in force; otherwise the
checks of its section decide, and a section taken is written whole with the count of clamped fields. A STAGES section is
refused CONFLICT when a stage holds a conflicting pair, INVALID when none does and a stage holds an absent group, and is
otherwise taken as given. -/
def Obligations.PlanSectionIsTakenWholeOrRefused : Prop :=
  (∀ (tag : Byte) (c : PlanSectionArg) (s : State),
    (s.seq.activeSlot = some 0 → exec (.planSection tag c) s = .next (s.begun.reply 0x16 tag .activeSlot))
    ∧ (s.seq.activeSlot ≠ some 0 → s.pts.tables = none →
        exec (.planSection tag c) s = .next (s.begun.reply 0x16 tag .invalid))
    ∧ ∀ x, s.seq.activeSlot ≠ some 0 → s.pts.tables = some x →
      (∀ d, takeSection x s.pts.trial c = .error d →
        exec (.planSection tag c) s = .next (s.begun.reply 0x16 tag d.status d.items))
      ∧ (∀ trial, takeSection x s.pts.trial c = .ok (trial, 0) →
        exec (.planSection tag c) s = .next ({ s.begun with pts := { s.pts with trial := trial } }.reply 0x16 tag .ok))
      ∧ (∀ trial n, takeSection x s.pts.trial c = .ok (trial, n + 1) →
        exec (.planSection tag c) s
          = .next ({ s.begun with pts := { s.pts with trial := trial } }.reply 0x16 tag .clamped (byte1 (n + 1)))))
  ∧
  ∀ (x : Tables) (trial : Trial) (v : Vector GroupSet 16),
    ((∃ k : StageId, ∃ g h : GroupId, g < h ∧ GroupSet.has v[k] g = true ∧ GroupSet.has v[k] h = true
        ∧ Tables.conflict x g h = true) →
      ∃ d, takeSection x trial (.stages v) = .error d ∧ d.status = .conflict)
    ∧ ((∀ (k : StageId) (g h : GroupId), g < h → GroupSet.has v[k] g = true → GroupSet.has v[k] h = true →
        Tables.conflict x g h = false) →
      ((∃ k : StageId, ∃ g : GroupId, GroupSet.has v[k] g = true ∧ Tables.present x g = false) →
        ∃ d, takeSection x trial (.stages v) = .error d ∧ d.status = .invalid)
      ∧ ((∀ (k : StageId) (g : GroupId), GroupSet.has v[k] g = true → Tables.present x g = true) →
        takeSection x trial (.stages v) = .ok ({ trial with stages := some v }, 0)))

/-- The timings of a GROUP_TIMES section are clamped on being written, those of groups 1 to 12 in GROUP_TIMES_A and of 13 to
24 in GROUP_TIMES_B: MING into 0–600 and up to the floor of the group's kind, MAXG from that MING to 1200, GAP into 0–100, and a
nonzero MAXWAIT into 100–3000; RECALL is kept. The count is that of the fields whose written value differs from the value
given. -/
def Obligations.GroupTimesAreClamped : Prop :=
  ∀ (x : Tables) (trial : Trial) (v : Vector GroupTimes 12),
    let changed (given written : Nat) : Nat := if given = written then 0 else 1
    let written (base : Nat) (w : Vector GroupTimes 12) (n : Nat) : Prop :=
      (∀ (i : Fin 12) (g : GroupId), g.val = base + i.val →
        let floor := if x.groups[g].present then
          (match x.groups[g].kind with | .vehicle => 50 | .pedestrian => 40 | .tram => 30 | .arrow => 0) else 0
        w[i].ming = max (min v[i].ming 600) floor
        ∧ w[i].maxg = min (max v[i].maxg w[i].ming) 1200
        ∧ w[i].gap = min v[i].gap 100
        ∧ w[i].maxwait = (if v[i].maxwait = 0 then 0 else min (max v[i].maxwait 100) 3000)
        ∧ w[i].recallOn = v[i].recallOn)
      ∧ n = ((List.finRange 12).map fun i =>
          changed v[i].ming w[i].ming + changed v[i].maxg w[i].maxg + changed v[i].gap w[i].gap
            + changed v[i].maxwait w[i].maxwait).sum
    (∃ w n, takeSection x trial (.groupTimesA v) = .ok ({ trial with timesA := some w }, n) ∧ written 0 w n)
    ∧ ∃ w n, takeSection x trial (.groupTimesB v) = .ok ({ trial with timesB := some w }, n) ∧ written 12 w n

/-- The checks and clamps of the other plan sections. SEQUENCE: RANGE for a count or a stage number out of range, else RESUME_MIN
is clamped into 0–200; that the list holds as many entries as its count says is the model's reading (assumption 12). That the
numbers of every detector and every approach are checked, whatever its kind or presence, is the model's reading (assumption 27),
and that the first in number order is named is its choice (assumption 50).
DETECTORS_A and DETECTORS_B: RANGE for an approach number out of range; else INVALID naming the first detector of a kind that
reads its groups and lists fewer than 1, more than 3 or an absent one; else the stuck limits and the ring length are clamped.
PRIORITY: RANGE for a group or stage number out of range; else INVALID naming the first present approach whose tram group is
no present TRAM group; else RUN, EXT, TMAX, RECOVERY and CHECKIN_GUARD are clamped. The count is that of the fields whose
written value differs from the value given. -/
def Obligations.PlanSectionsAreCheckedAndClamped : Prop :=
  ∀ (x : Tables) (trial : Trial),
    let changed (given written : Nat) : Nat := if given = written then 0 else 1
    let out (top n : Nat) : Prop := n = 0 ∨ top < n
    let clampedOr0 (lo hi n : Nat) : Nat := if n = 0 then 0 else min (max n lo) hi
    (∀ q : RawSequence,
      let wrong : Prop :=
        out 16 q.count ∨ q.entries.length < q.count ∨ out 16 q.startStage ∨ ∃ e ∈ q.entries.take q.count, out 16 e.stage
      (wrong → takeSection x trial (.sequence q) = .error { status := .range })
      ∧ (¬ wrong → ∃ w, takeSection x trial (.sequence q)
            = .ok ({ trial with sequence := some w }, if q.resumeMin ≤ 200 then 0 else 1)
          ∧ w.entries.map (fun e => (number e.stage, e.always)) = (q.entries.take q.count).map (fun e => (e.stage, e.always))
          ∧ w.mode = q.mode ∧ number w.startStage = q.startStage ∧ w.resumeMin = min q.resumeMin 200))
    ∧ (∀ v : Vector RawDetector 16,
      let wrong : Prop := ∃ i : Fin 16, out 4 v[i].approach
      let unfit (i : Fin 16) : Prop :=
        (v[i].kind = .demand ∨ v[i].kind = .extend ∨ v[i].kind = .demandExtend ∨ v[i].kind = .button)
          ∧ (GroupSet.size v[i].groups = 0 ∨ 3 < GroupSet.size v[i].groups
            ∨ ∃ g, GroupSet.has v[i].groups g = true ∧ Tables.present x g = false)
      let written (w : Vector DetSettings 16) (n : Nat) : Prop :=
        (∀ i : Fin 16,
          w[i].kind = v[i].kind ∧ w[i].groups = v[i].groups ∧ number w[i].approach = v[i].approach
          ∧ w[i].faultMode = v[i].faultMode ∧ w[i].edgeReporting = v[i].edgeReporting
          ∧ w[i].stuckOn = clampedOr0 600 6000 v[i].stuckOn ∧ w[i].stuckOff = clampedOr0 3000 36000 v[i].stuckOff
          ∧ w[i].ringLength = min (max v[i].ringLength 2) 16)
        ∧ n = ((List.finRange 16).map fun i =>
            changed v[i].stuckOn w[i].stuckOn + changed v[i].stuckOff w[i].stuckOff
              + changed v[i].ringLength w[i].ringLength).sum
      (wrong → takeSection x trial (.detectorsA v) = .error { status := .range }
        ∧ takeSection x trial (.detectorsB v) = .error { status := .range })
      ∧ (¬ wrong →
        (∀ i, unfit i → (∀ j, j < i → ¬ unfit j) →
          takeSection x trial (.detectorsA v) = .error { status := .invalid, items := byte1 (i.val + 1) }
          ∧ takeSection x trial (.detectorsB v) = .error { status := .invalid, items := byte1 (i.val + 17) })
        ∧ ((∀ i, ¬ unfit i) →
          (∃ w n, takeSection x trial (.detectorsA v) = .ok ({ trial with detsA := some w }, n) ∧ written w n)
          ∧ ∃ w n, takeSection x trial (.detectorsB v) = .ok ({ trial with detsB := some w }, n) ∧ written w n)))
    ∧ ∀ v : Vector RawApproach 4,
      let wrong : Prop := ∃ a : ApproachId, out 24 v[a].tramGroup ∨ out 16 v[a].priorityStage
      let unfit (a : ApproachId) : Prop :=
        v[a].present = true
          ∧ ∀ g : GroupId, number g = v[a].tramGroup → Tables.present x g = true → x.groups[g].kind ≠ .tram
      (wrong → takeSection x trial (.priority v) = .error { status := .range })
      ∧ (¬ wrong →
        (∀ a, unfit a → (∀ b, b < a → ¬ unfit b) →
          takeSection x trial (.priority v) = .error { status := .invalid, items := byte1 (number a) })
        ∧ ((∀ a, ¬ unfit a) →
          ∃ w n, takeSection x trial (.priority v) = .ok ({ trial with priority := some w }, n)
            ∧ (∀ a : ApproachId,
              w[a].present = v[a].present ∧ number w[a].tramGroup = v[a].tramGroup
              ∧ number w[a].priorityStage = v[a].priorityStage ∧ w[a].run = min v[a].run 1200
              ∧ w[a].ext = min v[a].ext 300 ∧ w[a].tmax = min (max v[a].tmax 100) 3000
              ∧ w[a].recovery = min v[a].recovery 1200 ∧ w[a].checkinGuard = min v[a].checkinGuard 100)
            ∧ n = ((List.finRange 4).map fun a =>
                changed v[a].run w[a].run + changed v[a].ext w[a].ext + changed v[a].tmax w[a].tmax
                  + changed v[a].recovery w[a].recovery + changed v[a].checkinGuard w[a].checkinGuard).sum))

/-- The whole-plan check: its six steps in their order, in item order within each, with the status and the items named of
the first failure; a plan passes when no step fails. That step 4 is over detectors of every kind (assumption 27) and that the
items are named by bytes of their numbers (assumption 11) are the model's readings, and that the lowest group or pair is named
within a stage or a detector is its choice (assumption 50). -/
def Obligations.WholePlanCheckStopsAtTheFirstFailure : Prop :=
  ∀ (x : Tables) (p : Plan),
    let absent (k : StageId) (g : GroupId) : Prop := GroupSet.has p.stages[k] g = true ∧ Tables.present x g = false
    let pair (k : StageId) (g h : GroupId) : Prop :=
      g < h ∧ GroupSet.has p.stages[k] g = true ∧ GroupSet.has p.stages[k] h = true ∧ Tables.conflict x g h = true
    let empty (i : Nat) : Prop := ∃ e, p.sequence.entries[i]? = some e ∧ p.stages[e.stage] = 0
    let listed (d : DetId) (g : GroupId) : Prop :=
      GroupSet.has (p.det d).groups g = true ∧ Tables.present x g = false
    let noTram (a : ApproachId) : Prop :=
      let c := p.priority[a]
      c.present = true ∧ ¬ (Tables.present x c.tramGroup = true ∧ x.groups[c.tramGroup].kind = .tram)
    let outside (a : ApproachId) : Prop :=
      let c := p.priority[a]
      c.present = true ∧ GroupSet.has p.stages[c.priorityStage] c.tramGroup = false
    let denied (y : Status) (items : List Byte) : Prop :=
      wholePlanCheck x p = some { status := y, items := items }
    (∀ k g, absent k g → (∀ k' g', absent k' g' → k < k' ∨ (k = k' ∧ g ≤ g')) →
      denied .invalid (byte1 (number k) ++ byte1 (number g)))
    ∧ ((∀ k g, ¬ absent k g) →
      (∀ k g h, pair k g h →
        (∀ k' g' h', pair k' g' h' → k < k' ∨ (k = k' ∧ (g < g' ∨ (g = g' ∧ h ≤ h')))) →
        denied .conflict (byte1 (number k) ++ byte1 (number g) ++ byte1 (number h)))
      ∧ ((∀ k g h, ¬ pair k g h) →
        (∀ i, empty i → (∀ j, j < i → ¬ empty j) → denied .invalid (byte1 (i + 1)))
        ∧ ((∀ i, ¬ empty i) →
          (∀ d g, listed d g → (∀ d' g', listed d' g' → d < d' ∨ (d = d' ∧ g ≤ g')) →
            denied .invalid (byte1 (number d) ++ byte1 (number g)))
          ∧ ((∀ d g, ¬ listed d g) →
            (∀ a, noTram a → (∀ b, b < a → ¬ noTram b) → denied .invalid (byte1 (number a)))
            ∧ ((∀ a, ¬ noTram a) →
              (∀ a, outside a → (∀ b, b < a → ¬ outside b) → denied .invalid (byte1 (number a)))
              ∧ ((∀ a, ¬ outside a) → wholePlanCheck x p = none))))))

/-- TABLE_SECTION: LOCKED first, then WRONG_MODE outside FLASH and DARK; otherwise the section is written whole into the
draft as given. TABLE_COMMIT in the order of its checks: a draft that fails the validation is refused with the failure's code
and groups and changes nothing, and one that passes begins a write of 40 tenths. -/
def Obligations.DraftIsWrittenAndCommitted : Prop :=
  (∀ (tag : Byte) (c : TableSectionArg) (s : State),
      (s.pts.locked = true → exec (.tableSection tag c) s = .next (s.begun.reply 0x18 tag .locked))
      ∧ (s.pts.locked = false → s.jmc.mode ≠ .flash → s.jmc.mode ≠ .dark →
          exec (.tableSection tag c) s = .next (s.begun.reply 0x18 tag .wrongMode))
      ∧ (s.pts.locked = false → s.jmc.mode = .flash ∨ s.jmc.mode = .dark →
          exec (.tableSection tag c) s
            = .next ({ s.begun with
                pts := { s.pts with
                  draft := match c with
                    | .groups v => { s.pts.draft with groups := some v }
                    | .conflicts v => { s.pts.draft with conflicts := some v }
                    | .ig k v => { s.pts.draft with ig := s.pts.draft.ig.set k (some v) }
                    | .monitorStart m => { s.pts.draft with monitor := some m } } }.reply 0x18 tag .ok)))
  ∧ ∀ (tag : Byte) (s : State),
    (s.jmc.mode ≠ .flash → s.jmc.mode ≠ .dark →
      exec (.tableCommit tag) s = .next (s.begun.reply 0x19 tag .wrongMode))
    ∧ (s.jmc.mode = .flash ∨ s.jmc.mode = .dark →
      (s.pts.locked = true → exec (.tableCommit tag) s = .next (s.begun.reply 0x19 tag .locked))
      ∧ (s.pts.locked = false → s.pts.write.isSome = true ∨ s.pts.verify.isSome = true →
        exec (.tableCommit tag) s = .next (s.begun.reply 0x19 tag .busy))
      ∧ (s.pts.locked = false → s.pts.write = none → s.pts.verify = none →
        (s.pts.draft.complete? = none → exec (.tableCommit tag) s = .next (s.begun.reply 0x19 tag .incomplete))
        ∧ ∀ x, s.pts.draft.complete? = some x →
          (∀ f, validate x = some f →
            exec (.tableCommit tag) s
              = .next (s.begun.reply 0x19 tag .invalid (byte1 f.code.code ++ bytesTwoGroups f.groups)))
          ∧ (validate x = none →
            exec (.tableCommit tag) s
              = .next ({ s.begun with
                  pts := { s.pts with write := some { target := .tables x, remaining := 40 } } }.reply
                  0x19 tag .accepted))))

/-- Tables that pass the validation: every conflict listed is between two present, different groups and is listed from
both sides, and a pair has an intergreen exactly when it conflicts, of at least CLOSE[e] + OPENT[b]. -/
def Obligations.ValidTablesAreSymmetricWithIntergreens : Prop :=
  ∀ (x : Tables), validate x = none →
    ∀ e b : GroupId,
      (Tables.conflict x e b = true → e ≠ b ∧ Tables.present x e = true ∧ Tables.present x b = true
        ∧ Tables.conflict x b e = true)
      ∧ (Tables.conflict x e b = true → ∃ n, x.igEntry e b = some n ∧ x.groups[e].close + x.groups[b].opent ≤ n)
      ∧ (Tables.conflict x e b = false → x.igEntry e b = none)

/-- A plan write whose time has run out makes its slot VALID with the copied contents and is reported DONE. A table write that
completes in FLASH or DARK moves the mark to the other area, stores the tables there with their CRC, and replaces the tables
in force. Before its time, and for a table write in another mode, the event changes nothing (assumption 7). -/
def Obligations.StoreWritesComplete : Prop :=
  (∀ (s : State),
      (∀ n p, s.pts.write = some { target := .slot n p, remaining := 0 } →
        exec .planWriteDone s
          = .next ({ s.begun with
              pts := { s.pts with
                write := none
                slots := s.pts.slots.set n { state := .valid, contents := some p, intact := true } } }.report
              (.storeDone (.slot n) .done)))
      ∧ ((∀ n p, s.pts.write ≠ some { target := .slot n p, remaining := 0 }) →
        exec .planWriteDone s = .next s.begun))
  ∧ ∀ (s : State) (x : Tables),
    (s.pts.write = some { target := .tables x, remaining := 0 } → s.jmc.mode = .flash ∨ s.jmc.mode = .dark →
      ∃ t, exec .tableWriteDone s = .next t ∧ t.pts.tables = some x ∧ t.pts.write = none
        ∧ t.pts.currentArea ≠ s.pts.currentArea
        ∧ t.pts.areas[t.pts.currentArea] = some { tables := x, check := crc (bytesTables x) }
        ∧ t.pts.areas[s.pts.currentArea] = s.pts.areas[s.pts.currentArea]
        ∧ t.pts.locked = s.pts.locked ∧ t.pts.draft = s.pts.draft)
    ∧ (∀ n, s.pts.write = some { target := .tables x, remaining := n + 1 } →
      exec .tableWriteDone s = .next s.begun)
    ∧ (s.pts.write = some { target := .tables x, remaining := 0 } → s.jmc.mode ≠ .flash → s.jmc.mode ≠ .dark →
      exec .tableWriteDone s = .next s.begun)

/-! ## The queries -/

/-- A query is answered in every mode with the values as they stand and changes nothing but the link's queues, except that
the DETECTOR query sets the count it has answered to 0, and that PLAN_READ makes a VALID slot INVALID whose contents fail
their check and which is not the active slot. A GROUPS or FAULTS part outside 1 to 3, a detector number outside 1 to 32 and a
slot outside 0 to 16 are refused RANGE. The items of GROUPS, DETECTOR, TRAMS, CALLS, FAULTS and STACK and the directory of
PLAN_READ are written out byte by byte. Where R206 leaves their coding open the bytes are the model's: references, holders,
caps, the standing plan and the write in flight (assumption 11), set and clear as yes and no (assumption 13), absent groups and
approaches (assumption 29), and MTOL and fatal-enable with no tables in force (assumption 45). -/
def Obligations.QueriesAnswerFromTheState : Prop :=
  (∀ (tag : Byte) (s : State),
      exec (.status tag) s = .next (s.begun.reply 0x01 tag .ok (statusItems s.begun))
      ∧ (∀ part, 1 ≤ part → part ≤ 3 →
        exec (.groups tag part) s = .next (s.begun.reply 0x02 tag .ok (bytesOf (groupEntry s.begun) (partGroups part)))
        ∧ exec (.faults tag part) s = .next (s.begun.reply 0x06 tag .ok (faultsItems s.begun part)))
      ∧ (∀ part, part = 0 ∨ 3 < part →
        exec (.groups tag part) s = .next (s.begun.reply 0x02 tag .range)
        ∧ exec (.faults tag part) s = .next (s.begun.reply 0x06 tag .range))
      ∧ (∀ n, n = 0 ∨ 32 < n → exec (.detector tag n) s = .next (s.begun.reply 0x03 tag .range))
      ∧ (∀ d : DetId,
        exec (.detector tag (number d)) s
          = .next ({ s.begun with
              dti := { s.dti with recs := s.dti.recs.set d { s.det d with count := 0 } } }.reply 0x03 tag .ok
              (detectorItems s.begun d)))
      ∧ exec (.trams tag) s = .next (s.begun.reply 0x04 tag .ok (tramsItems s.begun))
      ∧ exec (.calls tag) s = .next (s.begun.reply 0x05 tag .ok (callsItems s.begun))
      ∧ exec (.stack tag) s = .next (s.begun.reply 0x07 tag .ok (stackItems s.begun))
      ∧ (∀ k, exec (.tableRead tag .draft k) s
          = .next (s.begun.reply 0x09 tag .ok (draftSectionBytes s.pts.draft k)))
      ∧ (∀ k x, s.pts.tables = some x →
        exec (.tableRead tag .inForce k) s = .next (s.begun.reply 0x09 tag .ok (tableSectionBytes x k)))
      ∧ (∀ k, s.pts.tables = none →
        exec (.tableRead tag .inForce k) s = .next (s.begun.reply 0x09 tag .ok [] { noTables := true })))
  ∧ ∀ (tag : Byte) (k : PlanSectionName) (s : State),
    (∀ slot, 16 < slot → exec (.planRead tag slot k) s = .next (s.begun.reply 0x08 tag .range))
    ∧ (∀ n : SlotNo, (s.seq.activeSlot = some n ∨ n = 0) →
      exec (.planRead tag n.val k) s
        = .next (s.begun.reply 0x08 tag .ok
            (directoryItems s.begun ++ planContents s.begun n k ++ activeItems s.begun n)))
    ∧ (∀ m : PlanSlot, s.seq.activeSlot ≠ some (slotOf m) →
      ((s.slot m).state ≠ .valid ∨ (s.slot m).intact = true →
        exec (.planRead tag (number m) k) s
          = .next (s.begun.reply 0x08 tag .ok (directoryItems s.begun ++ planContents s.begun (slotOf m) k)))
      ∧ ((s.slot m).state = .valid → (s.slot m).intact = false →
        ∃ t, t = { s.begun with
            pts := { s.pts with slots := s.pts.slots.set m { s.slot m with state := .invalid } } }
          ∧ planContents t (slotOf m) k = []
          ∧ exec (.planRead tag (number m) k) s = .next (t.reply 0x08 tag .ok (directoryItems t))))
  ∧ ∀ (s : State),
    let b (n : Nat) : Byte := BitVec.ofNat 8 n
    let two (n : Nat) : List Byte := [b n, b (n / 256)]
    let flag (x : Bool) : Byte := if x = true then 1 else 0
    let set (x : GroupSet) : List Byte := [x.extractLsb' 0 8, x.extractLsb' 8 8, x.extractLsb' 16 8]
    let at' (x : JTime) : List Byte := [x.extractLsb' 0 8, x.extractLsb' 8 8, x.extractLsb' 16 8, x.extractLsb' 24 8]
    let code (x : Option Nat) : Byte := b (x.getD 0xFF)
    let ref (q : Option ReqRef) : List Byte :=
      match q with
      | none => [0xFF, 0, 0]
      | some (.tram a k) => [0, b (a.val + 1), b k]
      | some (.call id) => [1, b id, 0]
    let inPart (part : Nat) : List GroupId := groupIds.filter fun g => g.val / 8 + 1 = part
    (∀ part, 1 ≤ part → part ≤ 3 →
      bytesOf (groupEntry s) (partGroups part)
        = ((inPart part).map fun g =>
            let r : GroupRec := if s.present g = true then s.grp g else {}
            [b (g.val + 1), flag (s.present g), if s.present g = true then b (s.kind g).code else 0xFF, b r.state.code,
              flag r.openPending, flag r.closePending, b r.cr, b r.phaseTimer] ++ two r.mgRem ++ two r.openElapsed
            ++ [b r.gapTimer, b r.ext.code] ++ two r.effMing ++ two r.effMaxg ++ [flag r.hold, flag r.wait]).flatten
      ∧ faultsItems s part
        = (match s.cmon.first with
            | none => List.replicate 9 0
            | some f => [1, b f.source.code] ++ set (GroupSet.ofList f.groups) ++ at' f.time)
          ++ [s.cmon.latched.setWidth 8] ++ two s.cmon.window
          ++ [flag s.cmon.lockout, flag s.cmon.safeDropped, b s.cmon.dropTimer, flag s.pins.commission,
              s.monitorStart.fatal.setWidth 8, b s.monitorStart.mtol]
          ++ (([.conflictGo, .intergreenShort, .goMismatch, .aspectMismatch, .redOut, .senseSilent,
              .tableIntegrity] : List FaultSource).map fun f =>
              [flag (allConds.any fun x => decide (x.source = f) && s.condPresent x),
                flag (decide ((s.jmc.mode ≠ .dark ∧ s.jmc.mode ≠ .flash)
                  ∨ (s.jmc.mode = .flash ∧ (f = .goMismatch ∨ f = .senseSilent))))]).flatten
          ++ ((inPart part).map fun g =>
              let m := s.mon g
              [flag m.red, flag m.amber, flag m.go, flag m.redCurrent] ++ at' m.arrival
              ++ [b m.silence, b m.scr, flag m.source.isSome, b ((m.source.map fun e => e.val + 1).getD 0), b m.goTimer,
                b m.aspectTimer, b m.redTimer]).flatten)
    ∧ (∀ d : DetId,
      let r := s.det d
      let c := s.detSet d
      detectorItems s d
        = (match s.plan? with
            | none => [0]
            | some p =>
              let x := p.det d
              [b x.kind.code] ++ set x.groups ++ [b (x.approach.val + 1), b x.faultMode.code] ++ two x.stuckOn
              ++ two x.stuckOff ++ [b x.ringLength, flag x.edgeReporting])
          ++ [if c.faultMode = .demandOn ∧ r.settled = true
                ∧ (c.kind = .demand ∨ c.kind = .extend ∨ c.kind = .demandExtend ∨ c.kind = .button) then 0 else 1,
              flag r.mask, flag !r.occupied, flag r.settled, flag (s.cause d).isSome, code ((s.cause d).map DetCond.code),
              b (r.card.toNat + 2 * r.parity.toNat + 4 * r.silent.toNat + 8 * r.stuckOn.toNat + 16 * r.stuckOff.toNat)]
          ++ two r.sinceChange ++ [b r.silence, b r.parityRun, b r.goodRun] ++ two r.count
          ++ (r.ring.map fun e => [flag !e.occupied] ++ at' e.time).flatten)
    ∧ tramsItems s
      = (approachIds.map fun a =>
          let c := s.appSet a
          let x := s.app a
          [flag c.present, if c.present = true then b (c.tramGroup.val + 1) else 0,
            if c.present = true then b (c.priorityStage.val + 1) else 0, b x.episode.code] ++ two x.recovery
          ++ [b x.checkinGuard, b x.nextTag, b x.queue.length]
          ++ (x.queue.map fun r =>
              [b r.tag, b (r.source.code + 2 * r.vehicle.isSome.toNat + 4 * r.state.code)] ++ two (r.vehicle.getD 0)
              ++ at' r.checkIn ++ two r.eta ++ two r.age).flatten).flatten ++ ref s.ruling
    ∧ (∃ l : List Call, l.Perm s.pri.calls ∧ (l.Pairwise fun c d => c.id ≤ d.id)
      ∧ callsItems s
        = [b s.pri.calls.length]
          ++ (l.map fun c =>
              [b c.id, b c.level.code, b (c.target.val + 1)] ++ two c.eta ++ two c.hold ++ two c.remaining ++ two c.age
              ++ [b c.state.code, b ((c.servingStage.map fun t => t.val + 1).getD 0)]).flatten ++ ref s.ruling)
    ∧ (∃ ids : GroupId → List Nat,
      (∀ g, (ids g).Perm ((s.holders g).filterMap fun h => match h with | .call k => some k | .approach _ => none)
        ∧ (ids g).Pairwise (· ≤ ·))
      ∧ stackItems s
        = [b s.seq.stack.length]
          ++ (s.seq.stack.reverse.map fun r =>
              [b (r.stage.val + 1), b r.level] ++ two r.dSaved ++ two r.budget ++ ref r.request).flatten
          ++ (match s.pri.standing with
              | none => List.replicate 14 0
              | some p =>
                [1] ++ ref (some p.subject) ++ [b p.level, b (p.stage.val + 1), b (p.prio.val + 1)] ++ two p.d
                ++ [b p.tTrans] ++ two p.l ++ two p.h)
          ++ ref s.pri.own
          ++ (approachIds.map fun a =>
              match s.cap a with
              | .absent => two 0xFFFF
              | .armed => two 0xFFFE
              | .loaded n => two n).flatten
          ++ ((groupIds.filter fun g => decide (s.holders g ≠ [])).map fun g =>
              let on (a : ApproachId) : Nat := if .approach a ∈ s.holders g then 1 else 0
              [b (g.val + 1), b (on 0 + 2 * on 1 + 4 * on 2 + 8 * on 3), b (ids g).length] ++ (ids g).map b).flatten)
    ∧ directoryItems s
      = (s.pts.slots.toList.map fun x => b x.state.code)
        ++ [flag s.pts.trial.complete?.isSome, b s.pts.protect, flag s.pts.locked, b (s.pts.startPlan.val + 1)]
        ++ (match s.pts.write with
            | none => [0xFF, 0]
            | some { target := .slot n _, remaining := k } => [b (n.val + 1), b k]
            | some { target := .tables _, remaining := k } => [17, b k])

/-- The STATUS reply body has 136 bytes, every field of the layout in its place: the two bytes of status and markers, then
these 134. The codes of absent fields are R206's. -/
def Obligations.StatusReplyLayout : Prop :=
  ∀ (s : State),
    let b (n : Nat) : Byte := BitVec.ofNat 8 n
    let hi (n : Nat) : Byte := BitVec.ofNat 8 (n / 256)
    let bit (x : Bool) (n : Nat) : Nat := if x = true then n else 0
    let stage (x : Option StageId) : Byte := b (match x with | none => 0 | some t => t.val + 1)
    let slot (x : Option SlotNo) : Byte := b ((x.map Fin.val).getD 0xFF)
    let count (x : Option Nat) : Nat := x.getD 0xFFFF
    let set (x : GroupSet) : List Byte := [x.extractLsb' 0 8, x.extractLsb' 8 8, x.extractLsb' 16 8]
    (statusItems s).length = 134
    ∧ (statusItems s).take 14
      = [b s.jmc.mode.code, b ((s.jmc.darkCause.map DarkCause.code).getD 0xFF),
          b ((s.jmc.phase.map Phase.code).getD 0xFF), b s.jmc.timer, hi s.jmc.timer,
          b (bit s.jmc.firstRunning 1 + bit s.jmc.safeRequest 2 + bit (s.jmc.safeRequest && !s.cmon.safeDropped) 4),
          slot s.seq.activeSlot, slot s.seq.pendingPlan, b (bit (fitToRun s) 1), stage s.seq.current,
          b ((s.seq.status.map StageStatus.code).getD 0xFF), b s.seq.level, b s.seq.position,
          b ((s.plan?.map fun p => p.sequence.mode.code).getD 0xFF)]
    ∧ ((statusItems s).drop 14).take 6 = set s.seq.groups ++ set s.seq.starting
    ∧ ((statusItems s).drop 20).take 18
      = [b (bit s.ready 1 + bit s.cutInForce 2), b (count s.seq.h), hi (count s.seq.h), stage s.seq.mark,
          b s.seq.stack.length, stage (s.seq.manualSlot.map Prod.fst), b (count (s.seq.manualSlot.map Prod.snd)),
          hi (count (s.seq.manualSlot.map Prod.snd)), b (count s.seq.manualHold), hi (count s.seq.manualHold),
          b (clearanceToRun s), b s.lnk.af, b s.lnk.reports.length, b s.lnk.replies.length,
          s.time.extractLsb' 0 8, s.time.extractLsb' 8 8, s.time.extractLsb' 16 8, s.time.extractLsb' 24 8]
    ∧ (s.seq.status ≠ some .transition → clearanceToRun s = 0)
    ∧ (s.seq.status = some .transition →
      ∀ g, GroupSet.has s.seq.groups g = true → (s.grp g).state = .closed → (s.grp g).openPending = true →
        (s.grp g).cr - (s.groupDef g).opent ≤ clearanceToRun s)
    ∧ (clearanceToRun s = 0
      ∨ ∃ g, GroupSet.has s.seq.groups g = true ∧ (s.grp g).state = .closed ∧ (s.grp g).openPending = true
        ∧ clearanceToRun s = (s.grp g).cr - (s.groupDef g).opent)
    ∧ ∀ g : GroupId,
      ((statusItems s).drop (38 + 4 * g.val)).take 4
        = [if (s.dem g).latched then 1 else 0, (s.dem g).sources.setWidth 8, b (s.dem g).wait, hi (s.dem g).wait]

/-! ## The cabinet link -/

/-- A reply joins a reply queue that holds fewer than 4, with REQUESTS_LOST if the marker was set, which is then clear;
at 4 it is discarded and the marker set. A DETAIL report is admitted below AF, an OPERATIONAL one below 48; a SAFETY report
is admitted below 48, and from 48 on takes the place of the oldest record that is no SAFETY record, or is discarded when
there is none. Every discard and eviction of a report sets the loss marker. -/
def Obligations.LinkQueuesAdmitByClass : Prop :=
  (∀ (l : Lnk) (r : Reply),
    (l.replies.length < 4 →
      l.reply r = { l with
        replies := l.replies ++ [{ r with markers := { r.markers with requestsLost := l.requestsLost } }]
        requestsLost := false })
    ∧ (4 ≤ l.replies.length → l.reply r = { l with requestsLost := true }))
  ∧ ∀ (l : Lnk) (r : Report),
    (r.body.cls = .detail → l.reports.length < l.af → l.accept r = { l with reports := l.reports ++ [r] })
    ∧ (r.body.cls = .detail → l.af ≤ l.reports.length → l.accept r = { l with loss := true })
    ∧ (r.body.cls = .operational → l.reports.length < 48 → l.accept r = { l with reports := l.reports ++ [r] })
    ∧ (r.body.cls = .operational → 48 ≤ l.reports.length → l.accept r = { l with loss := true })
    ∧ (r.body.cls = .safety → l.reports.length < 48 → l.accept r = { l with reports := l.reports ++ [r] })
    ∧ (r.body.cls = .safety → 48 ≤ l.reports.length →
      (∀ before x after, l.reports = before ++ x :: after → (∀ y ∈ before, y.body.cls = .safety) → x.body.cls ≠ .safety →
        l.accept r = { l with reports := before ++ after ++ [r], loss := true })
      ∧ ((∀ y ∈ l.reports, y.body.cls = .safety) → l.accept r = { l with loss := true }))

/-- LINK_SET: RANGE outside 8 to 47; otherwise AF takes the value in every mode, no record leaves the queue, and the reply
is OK with the AF now in force. A power-on reset sets AF to 40 and a RESTART keeps it. -/
def Obligations.LinkSetTakesAf : Prop :=
  ∀ (tag : Byte) (af : Nat) (s : State),
    (af < 8 ∨ 47 < af → exec (.linkSet tag af) s = .next (s.begun.reply 0x15 tag .range))
    ∧ (8 ≤ af → af ≤ 47 →
      exec (.linkSet tag af) s
        = .next ({ s.begun with lnk := { s.lnk with af := af } }.reply 0x15 tag .ok [BitVec.ofNat 8 af]))
    ∧ (∀ t, exec .powerOnReset s = .next t → t.lnk.af = 40)
    ∧ (∀ t, exec (.restart tag) s = .next t → t.lnk.af = s.lnk.af)

/-- The CRC over the characters "123456789" is 0x29B1, and the TABLE_LOCK request with TAG 7 is the frame A5 00 1A 07 with its
CRC low byte first. The receiver byte by byte: hunting, only a START byte without a framing error begins a frame; assembling,
a framing error, a LEN above 240 or a gap discards the frame, and any other byte that does not complete it is added. At the
completion of a frame the transmitter begins the reply at the head of its queue, otherwise the report at the head of its queue
with the loss marker, which is then clear, and otherwise becomes idle; an idle transmitter has nothing to complete. -/
def Obligations.ReceiverAssemblesAndTransmitterPrefersReplies : Prop :=
  crc [0x31, 0x32, 0x33, 0x34, 0x35, 0x36, 0x37, 0x38, 0x39] = 0x29B1
  ∧ requestFrame (.tableLock 7)
    = some [0xA5, 0x00, 0x1A, 0x07, (crc [0x00, 0x1A, 0x07]).setWidth 8, (crc [0x00, 0x1A, 0x07] >>> 8).setWidth 8]
  ∧ (∀ (s : State),
    (s.lnk.rx = .hunting →
      exec (.linkByte 0xA5 false) s
        = .next (settle Config.reactionBound { s.begun with lnk := { s.lnk with rx := .assembling [0xA5] } })
      ∧ (∀ b fe, b ≠ 0xA5 ∨ fe = true → exec (.linkByte b fe) s = .next (settle Config.reactionBound s.begun))
      ∧ exec .receiveGapTimeout s = .next s.begun)
    ∧ (∀ l, s.lnk.rx = .assembling l →
      (∀ b, exec (.linkByte b true) s
        = .next (settle Config.reactionBound { s.begun with lnk := { s.lnk with rx := .hunting } }))
      ∧ (∀ b, l.length = 1 → 240 < b.toNat →
        exec (.linkByte b false) s
          = .next (settle Config.reactionBound { s.begun with lnk := { s.lnk with rx := .hunting } }))
      ∧ (∀ b, l.length = 1 → b.toNat ≤ 240 →
        exec (.linkByte b false) s
          = .next (settle Config.reactionBound { s.begun with lnk := { s.lnk with rx := .assembling (l ++ [b]) } }))
      ∧ (∀ b start len rest, l = start :: len :: rest → rest.length + 1 ≠ len.toNat + 4 →
        exec (.linkByte b false) s
          = .next (settle Config.reactionBound { s.begun with lnk := { s.lnk with rx := .assembling (l ++ [b]) } }))
      ∧ exec .receiveGapTimeout s = .next { s.begun with lnk := { s.lnk with rx := .hunting } }))
  ∧ ∀ (s : State),
    (s.lnk.tx = none → exec .transmitComplete s = .next s.begun)
    ∧ (s.lnk.tx ≠ none →
      (∀ r rest, s.lnk.replies = r :: rest →
        exec .transmitComplete s
          = .next { s.begun with lnk := { s.lnk with replies := rest, tx := some (.reply r) } })
      ∧ (∀ r rest, s.lnk.replies = [] → s.lnk.reports = r :: rest →
        exec .transmitComplete s
          = .next { s.begun with lnk := { s.lnk with reports := rest, tx := some (.report r s.lnk.loss), loss := false } })
      ∧ (s.lnk.replies = [] → s.lnk.reports = [] →
        exec .transmitComplete s = .next { s.begun with lnk := { s.lnk with tx := none } }))

/-- Whatever frame a well-formed request is sent in, the receiver reads back exactly that request: sent byte by byte to a
hunting receiver, it is dispatched to its block, with every field at every value the link can carry. The byte that completes the
frame does what the request's own command does on the state with the receiver hunting; where notices were left over from an
earlier command (assumption 4) the byte works them off, and a query or a store request as its own command leaves them. For two
requests the frame itself is the model's reading: a SEQUENCE section of 36 bytes (assumption 12), and a TRAM_IN of 7 whose
optional numbers carry presence bytes (assumption 23). -/
def Obligations.FrameDeliversItsRequest : Prop :=
  ∀ (i : Instr) (frame : List Byte) (s : State), i.wellFormed = true → requestFrame i = some frame →
    (s.lnk.rx = .hunting → receiveBytes frame s = dispatch i s)
    ∧ ∀ front b, frame = front ++ [b] → s.lnk.rx = .assembling front →
      let h : State := { s with lnk := { s.lnk with rx := .hunting } }
      let u := dispatch i h.begun
      exec (.linkByte b false) s = .next (settle Config.reactionBound u)
      ∧ (exec i h = .next (settle Config.reactionBound u) ∨ (exec i h = .next u ∧ u.notices = s.notices))
      ∧ (s.notices = [] → exec (.linkByte b false) s = exec i h)

/-- A frame whose CRC differs is discarded silently; a received request of unknown kind is answered UNKNOWN with KIND
0x7F, and one of the wrong length, or with a field that has no meaning, MALFORMED. -/
def Obligations.BadFramesChangeNothingElse : Prop :=
  (∀ (start len kind tag : Byte) (body : List Byte) (lo hi : Byte) (s : State), body.length = len.toNat →
    [lo, hi] ≠ [(crc (len :: kind :: tag :: body)).setWidth 8, (crc (len :: kind :: tag :: body) >>> 8).setWidth 8] →
    completeFrame (start :: len :: kind :: tag :: (body ++ [lo, hi])) s = s)
  ∧ (∀ (kind tag : Byte) (body : List Byte) (s : State), (kind = 0 ∨ 0x1D < kind.toNat) →
    receiveRequest kind tag body s = s.replyUnknown tag)
  ∧ (∀ (kind tag : Byte) (body : List Byte) (s : State) (n : Option Nat), bodyLength kind body = some n →
    n ≠ some body.length ∨ readRequest kind tag body = none →
    receiveRequest kind tag body s = s.reply kind tag .malformed)

/-! ## Signal groups -/

/-- The expiry of OPENING: the group enters OPEN on the timings fixed for the opening, the override used up, with its lamp
command and its notices; with an effective MING of 0 min completion takes place at once, and a close command held takes
the group out again. An event that is not due changes nothing (assumption 7). -/
def Obligations.OpeningExpiryEntersOpen : Prop :=
  ∀ (s : State) (g : GroupId),
    let r := s.grp g
    let t := s.times g
    let ming := match r.override with | none => t.ming | some o => max o.ming (s.kind g).floor
    let maxg := match r.override with | none => t.maxg | some o => max o.maxg ming
    let opened : GroupRec := { r with
      state := .opened, openPending := false, override := none, phaseTimer := 0, openElapsed := 0, mgRem := ming
      gapTimer := 0, ext := .running, effMing := ming, effMaxg := maxg, minDone := false }
    (r.state = .opening → r.phaseTimer = 0 →
      ∃ v, exec (.openingExpiry g) s
            = .next (settle Config.reactionBound (if ming = 0 ∧ r.closePending = true then leaveOpen g v else v))
        ∧ (0 < ming → v.grp g = opened ∧ v.notices = s.notices ++ [.entered g, .watch])
        ∧ (ming = 0 →
            v.grp g = { opened with
              minDone := true
              ext := if maxg = 0 then .maxed else if s.hasExtender g = false ∨ t.gap = 0 then .gapped else .running
              gapTimer := if maxg = 0 ∨ s.hasExtender g = false ∨ t.gap = 0 then 0 else t.gap }
            ∧ v.notices = s.notices ++ [.entered g, .watch, .retest])
        ∧ (∀ h, h ≠ g → v.grp h = s.grp h ∧ v.mon h = s.mon h)
        ∧ v.sge.lampLine
            = [{ group := g, aspect := if s.present g then aspectOf (s.kind g) .opened else .allOff, wait := r.wait }]
        ∧ SameOutsideGroups s v)
    ∧ (¬ (r.state = .opening ∧ r.phaseTimer = 0) →
        exec (.openingExpiry g) s = .next (settle Config.reactionBound s.begun))

/-- Min completion makes the status MAXED, GAPPED or leaves it RUNNING with the gap timer loaded, tells SEQ, and takes a
close command held; the expiry of the gap timer makes it GAPPED, and reaching effective MAXG makes it MAXED, both with the
gap timer at 0. An event that is not due changes nothing (assumption 7): before min completion and after it, in a group
that does not extend, and in one that does with its gap timer still running or its input on, or with its maximum still to
come. That an input that is on keeps a gap timer at 0 from expiring is the model's choice (assumption 40). -/
def Obligations.MinCompletionAndFinalStatus : Prop :=
  ∀ (s : State) (g : GroupId),
    let r := s.grp g
    let gap := (s.times g).gap
    let withRec (x : GroupRec) : State :=
      { s with
        sge := { s.sge with lampLine := [], recs := s.sge.recs.set g x }
        notices := s.notices ++ [.retest] }
    let completed : GroupRec :=
      if r.effMaxg ≤ r.openElapsed then { r with minDone := true, ext := .maxed }
      else if s.hasExtender g = false ∨ gap = 0 then { r with minDone := true, ext := .gapped }
      else { r with minDone := true, gapTimer := gap }
    (r.state = .opened → r.mgRem = 0 → r.minDone = false →
      exec (.minCompletion g) s
        = .next (settle Config.reactionBound
            (if r.closePending = true then leaveOpen g (withRec completed) else withRec completed)))
    ∧ (¬ (r.state = .opened ∧ r.mgRem = 0 ∧ r.minDone = false) →
      exec (.minCompletion g) s = .next (settle Config.reactionBound s.begun))
    ∧ (r.state = .opened → r.minDone = true → r.ext = .running →
      (r.gapTimer = 0 → r.extInput = false →
        exec (.gapTimerExpiry g) s
          = .next (settle Config.reactionBound (withRec { r with ext := .gapped, gapTimer := 0 })))
      ∧ (0 < r.gapTimer ∨ r.extInput = true →
        exec (.gapTimerExpiry g) s = .next (settle Config.reactionBound s.begun))
      ∧ (r.openElapsed < r.effMaxg →
        exec (.maxGreenReached g) s = .next (settle Config.reactionBound s.begun))
      ∧ (r.effMaxg ≤ r.openElapsed →
        exec (.maxGreenReached g) s
          = .next (settle Config.reactionBound (withRec { r with ext := .maxed, gapTimer := 0 }))))
    ∧ (¬ (r.state = .opened ∧ r.minDone = true ∧ r.ext = .running) →
      exec (.gapTimerExpiry g) s = .next (settle Config.reactionBound s.begun)
      ∧ exec (.maxGreenReached g) s = .next (settle Config.reactionBound s.begun))

/-- A group that takes a close command in OPEN enters CLOSING, or CLOSED when its CLOSE is 0, with its hold and the close
command it held cleared; every group that conflicts with it has its clearance raised to at least the intergreen, and no
other group changes. That the leaving notice goes out before what follows an entry into CLOSED is the model's reading
(assumption 3). The expiry of CLOSING takes the
group to CLOSED, with the closed notice; an event that is not due changes nothing, which is the model's choice (assumption
7). -/
def Obligations.LeavingOpenRaisesClearance : Prop :=
  ∀ (s : State) (g : GroupId),
    let r := s.grp g
    let close := (s.groupDef g).close
    let lamp (x : GroupState) : LampCommand :=
      { group := g, aspect := if s.present g then aspectOf (s.kind g) x else .allOff, wait := r.wait }
    (GroupSet.has (s.conflicts g) g = false →
      let u := leaveOpen g s
      let held : List Notice := if r.hold = true then [.retest] else []
      (0 < close →
        u.grp g = { r with
          state := .closing, closePending := false, hold := false, mgRem := 0, gapTimer := 0, phaseTimer := close
          minDone := false }
        ∧ u.notices = s.notices ++ [.left g] ++ held ∧ u.sge.lampLine = s.sge.lampLine ++ [lamp .closing])
      ∧ (close = 0 →
        u.grp g = { r with
          state := .closed, closePending := false, hold := false, mgRem := 0, gapTimer := 0, phaseTimer := 0
          minDone := false }
        ∧ u.notices = s.notices ++ [.left g] ++ held ++ [.closed g, .watch]
        ∧ u.sge.lampLine = s.sge.lampLine ++ [lamp .closed])
      ∧ (∀ b, b ≠ g →
        u.grp b = (if GroupSet.has (s.conflicts g) b = true then { s.grp b with cr := max (s.grp b).cr (s.ig g b) }
          else s.grp b)
        ∧ u.mon b = s.mon b)
      ∧ SameOutsideGroups s u)
    ∧ (r.state = .closing → r.phaseTimer = 0 →
      ∃ v, exec (.closingExpiry g) s = .next (settle Config.reactionBound v)
        ∧ v.grp g = { r with
            state := .closed, phaseTimer := 0, mgRem := 0, gapTimer := 0, minDone := false }
        ∧ (∀ h, h ≠ g → v.grp h = s.grp h ∧ v.mon h = s.mon h)
        ∧ v.notices = s.notices ++ [.closed g, .watch] ∧ v.sge.lampLine = [lamp .closed]
        ∧ SameOutsideGroups s v)
    ∧ (¬ (r.state = .closing ∧ r.phaseTimer = 0) →
      exec (.closingExpiry g) s = .next (settle Config.reactionBound s.begun))

/-- A clearance that has reached OPENT or 0 tests the admission of every waiting group: a group whose state changes was
CLOSED with an open command pending, a clearance of at most its OPENT and no conflicting group in OPENING, OPEN or
CLOSING; such a group is admitted, to OPENING with OPENT to run or with an OPENT of 0 to OPEN with its entry notice, when no such
group of lower number conflicts with it, and stays waiting beside a group of lower number admitted that conflicts with it; with
no such group, the groups stay as they are. -/
def Obligations.ClearanceCountdownAdmitsInOrder : Prop :=
  ∀ (s : State) (c : GroupId),
    let admissible (g : GroupId) : Prop :=
      s.present g = true ∧ (s.grp g).state = .closed ∧ (s.grp g).openPending = true
        ∧ (s.grp g).cr ≤ (s.groupDef g).opent
        ∧ ∀ h, GroupSet.has (s.conflicts g) h = true →
            (s.grp h).state ≠ .opening ∧ (s.grp h).state ≠ .opened ∧ (s.grp h).state ≠ .closing
    ∃ u, exec (.clearanceCountdown c) s = .next (settle Config.reactionBound { u with notices := u.notices ++ [.watch] })
      ∧ (∀ g, (u.grp g).state ≠ (s.grp g).state → admissible g)
      ∧ (∀ g, admissible g →
          (∀ h, h < g → admissible h →
            GroupSet.has (s.conflicts g) h = false ∧ GroupSet.has (s.conflicts h) g = false) →
          (u.grp g).openPending = false
          ∧ (0 < (s.groupDef g).opent →
              (u.grp g).state = .opening ∧ (u.grp g).phaseTimer = (s.groupDef g).opent)
          ∧ ((s.groupDef g).opent = 0 → (s.grp g).closePending = false →
              (u.grp g).state = .opened ∧ (u.grp g).openElapsed = 0 ∧ .entered g ∈ u.notices))
      ∧ (∀ g h, h < g → admissible g → admissible h → GroupSet.has (s.conflicts g) h = true →
          (u.grp h).state = .opening ∨ (u.grp h).state = .opened →
          (u.grp g).state = .closed ∧ (u.grp g).openPending = true)
      ∧ ((∀ g, ¬ admissible g) → u = s.begun)
      ∧ SameOutsideGroups s u

/-- What an open command and a close command make of a group in each state (an absent group and the states DARK and FLASH
ignore both). A group whose MG_rem has reached 0 with its min completion still to come completes it first, the close command
held, and takes it there. -/
def Obligations.OpenAndCloseCommandsByState : Prop :=
  ∀ (s : State) (g : GroupId) (o : Option Override),
    let r := s.grp g
    let withRec (x : GroupRec) : State := { s with sge := { s.sge with recs := s.sge.recs.set g x } }
    (s.present g = false ∨ r.state = .dark ∨ r.state = .flash → openCommand g o s = s ∧ closeCommand g s = s)
    ∧ (s.present g = true →
      (r.state = .closed →
        openCommand g o s = admitWaiting (withRec { r with openPending := true, override := o }))
      ∧ (r.state = .closing → openCommand g o s = withRec { r with openPending := true, override := o })
      ∧ (r.state = .opening ∨ r.state = .opened → openCommand g o s = withRec { r with closePending := false })
      ∧ (r.state = .opened → r.mgRem = 0 → r.minDone = true → closeCommand g s = leaveOpen g s)
      ∧ (r.state = .opened → r.mgRem = 0 → r.minDone = false →
        closeCommand g s = minComplete g (withRec { r with closePending := true })
        ∧ ((closeCommand g s).grp g).closePending = false
        ∧ ((closeCommand g s).grp g).ext
          = if r.effMaxg ≤ r.openElapsed then .maxed
            else if s.hasExtender g = false ∨ (s.times g).gap = 0 then .gapped else r.ext)
      ∧ (r.state = .opened → 0 < r.mgRem → closeCommand g s = withRec { r with closePending := true })
      ∧ (r.state = .opening → closeCommand g s = withRec { r with closePending := true })
      ∧ (r.state = .closed ∨ r.state = .closing → r.openPending = true →
        closeCommand g s = withRec { r with openPending := false, override := none })
      ∧ (r.state = .closed ∨ r.state = .closing → r.openPending = false → closeCommand g s = s))

/-- The repetition puts one lamp command for each of the 24 groups on the line, in number order: the aspect of its kind and
state, all off for an absent group, and the wait indicator off in FLASH and DARK. The groups themselves do not change, and
the next repetition is 10 tenths off (assumption 5). That it shows the kind a commit in FLASH has given a group, and not the
aspect sent before, is the model's choice (assumption 52), and so is the order of the 24 (assumption 36). -/
def Obligations.LampRepeatSendsEveryGroup : Prop :=
  ∀ (s : State),
    let lamp (g : GroupId) : LampCommand :=
      { group := g
        aspect := if s.present g then aspectOf (s.kind g) (s.grp g).state else .allOff
        wait := (s.grp g).wait && !decide ((s.grp g).state = .flash) && !decide ((s.grp g).state = .dark) }
    ∃ t, exec .lampCommandRepeat s = .next t
      ∧ t.sge.lampLine = groupIds.map lamp ∧ (∀ g : GroupId, t.sge.lamps[g] = lamp g)
      ∧ t.sge.recs = s.sge.recs ∧ t.sge.lampRepeat = 10 ∧ t.notices = s.notices
      ∧ (∀ g, (t.mon g).go = (s.mon g).go ∧ (t.mon g).silence = (s.mon g).silence ∧ (t.mon g).scr = (s.mon g).scr)
      ∧ SameOutsideGroups s t

/-! ## Demand, the sequencer and manual control -/

/-- DEMAND_PLACE: RANGE, INVALID for an absent group, OK with latched no for a group in OPEN, and otherwise OK with latched
yes and the demand latched with source LINK (R67), reported when it was not latched before. That the reply enters the link
before the report is the model's reading (assumption 18). -/
def Obligations.DemandPlaceLatchesOutsideOpen : Prop :=
  ∀ (tag : Byte) (s : State),
    (∀ n, n = 0 ∨ 24 < n →
      exec (.demandPlace tag n) s = .next (settle Config.reactionBound (s.begun.reply 0x0D tag .range)))
    ∧ (∀ g : GroupId, s.present g = false →
      exec (.demandPlace tag (number g)) s = .next (settle Config.reactionBound (s.begun.reply 0x0D tag .invalid)))
    ∧ (∀ g : GroupId, s.present g = true → (s.grp g).state = .opened →
      exec (.demandPlace tag (number g)) s
        = .next (settle Config.reactionBound (s.begun.reply 0x0D tag .ok [0])))
    ∧ (∀ g : GroupId, s.present g = true → (s.grp g).state ≠ .opened →
      let r := s.begun.reply 0x0D tag .ok [1]
      ((s.dem g).latched = false →
        exec (.demandPlace tag (number g)) s
          = .next (settle Config.reactionBound { r.report (.demandLatched g .link) with
              seq := { s.seq with
                demand := s.seq.demand.set g { latched := true, sources := DemandSet.add 0 .link, wait := 0 } }
              notices := s.notices ++ [.choose] }))
      ∧ ((s.dem g).latched = true →
        exec (.demandPlace tag (number g)) s
          = .next (settle Config.reactionBound { r with
              seq := { s.seq with
                demand := s.seq.demand.set g { s.dem g with sources := DemandSet.add (s.dem g).sources .link } }
              notices := s.notices ++ [.choose] })))

/-- MANUAL_POST in the order of its checks: RANGE, WRONG_MODE outside MANUAL, FULL, and otherwise the slot holds the stage
and the hold clamped to 1200. A manual hold that has run out in MANUAL tests readiness again; an event that is not due
changes nothing, which is the model's choice (assumption 7). -/
def Obligations.ManualPostFillsTheSlot : Prop :=
  ∀ (tag : Byte) (hold : Nat) (s : State),
    (∀ n, n = 0 ∨ 16 < n →
      exec (.manualPost tag n hold) s = .next (settle Config.reactionBound (s.begun.reply 0x0B tag .range)))
    ∧ (∀ t : StageId, s.jmc.mode ≠ .manual →
      exec (.manualPost tag (number t) hold) s
        = .next (settle Config.reactionBound (s.begun.reply 0x0B tag .wrongMode)))
    ∧ (∀ t : StageId, s.jmc.mode = .manual → s.seq.manualSlot.isSome = true →
      exec (.manualPost tag (number t) hold) s
        = .next (settle Config.reactionBound (s.begun.reply 0x0B tag .full)))
    ∧ (∀ t : StageId, s.jmc.mode = .manual → s.seq.manualSlot = none →
      exec (.manualPost tag (number t) hold) s
        = .next (settle Config.reactionBound
            { s.begun.reply 0x0B tag (if hold ≤ 1200 then .ok else .clamped) with
              seq := { s.seq with manualSlot := some (t, min hold 1200) }
              notices := s.notices ++ [.choose] }))
    ∧ (s.jmc.mode = .manual → s.seq.manualHold = some 0 →
      exec .manualHoldExpiry s
        = .next (settle Config.reactionBound { s.begun with notices := s.notices ++ [.retest] }))
    ∧ (¬ (s.jmc.mode = .manual ∧ s.seq.manualHold = some 0) →
      exec .manualHoldExpiry s = .next (settle Config.reactionBound s.begun))

/-- PLAN_SELECT in the order of its checks. In NORMAL and MANUAL the named slot becomes the pending plan, or the pending plan
absent when the slot is the active one, with the marker REPLACED when a plan was pending. In FLASH and DARK a slot that
passes the activation check becomes the active slot at once, on a clamped copy, with the pending plan absent; a whole plan
that fails a check is refused with the status of that check. -/
def Obligations.PlanSelectInOrderOfChecks : Prop :=
  ∀ (tag : Byte) (s : State),
    (∀ slot, 16 < slot →
      exec (.planSelect tag slot) s = .next (settle Config.reactionBound (s.begun.reply 0x0C tag .range)))
    ∧ ∀ n : SlotNo,
      let written : Prop := ∃ w, s.writingSlot? = some w ∧ slotOf w = n
      let unfit : Prop :=
        (n = 0 ∧ s.pts.trial.complete? = none)
          ∨ ∃ w, n = slotOf w ∧ ((s.slot w).state = .empty ∨ (s.slot w).state = .invalid)
      let quiet : Prop := s.jmc.mode ≠ .startup ∧ s.jmc.mode ≠ .clearing
      (¬ quiet →
        exec (.planSelect tag n.val) s = .next (settle Config.reactionBound (s.begun.reply 0x0C tag .wrongMode)))
      ∧ (quiet → written →
        exec (.planSelect tag n.val) s = .next (settle Config.reactionBound (s.begun.reply 0x0C tag .busy)))
      ∧ (quiet → ¬ written → unfit →
        exec (.planSelect tag n.val) s = .next (settle Config.reactionBound (s.begun.reply 0x0C tag .invalid)))
      ∧ (s.jmc.mode = .normal ∨ s.jmc.mode = .manual → ¬ written → ¬ unfit →
        exec (.planSelect tag n.val) s
          = .next (settle Config.reactionBound
              { s.begun.reply 0x0C tag .ok [] { replaced := s.seq.pendingPlan.isSome } with
                seq := { s.seq with pendingPlan := if s.seq.activeSlot = some n then none else some n }
                notices := s.notices ++ [.choose] }))
      ∧ (s.jmc.mode = .flash ∨ s.jmc.mode = .dark → ¬ written → ¬ unfit →
        (s.pts.tables = none →
          exec (.planSelect tag n.val) s = .next (settle Config.reactionBound (s.begun.reply 0x0C tag .invalid)))
        ∧ ∀ x p, s.pts.tables = some x →
          ((n = 0 ∧ s.pts.trial.complete? = some p)
            ∨ ∃ w, n = slotOf w ∧ (s.slot w).state = .valid ∧ (s.slot w).intact = true ∧ (s.slot w).contents = some p) →
          (∀ d, wholePlanCheck x p = some d →
            exec (.planSelect tag n.val) s
              = .next (settle Config.reactionBound (s.begun.reply 0x0C tag d.status d.items)))
          ∧ (wholePlanCheck x p = none →
            ∃ u, exec (.planSelect tag n.val) s = .next (settle Config.reactionBound u)
              ∧ u.seq.activeSlot = some n ∧ u.seq.pendingPlan = none ∧ u.seq.current = s.seq.current
              ∧ u.pts.activeCopy = some (clampPlan x p).1 ∧ u.pts.clamped = (clampPlan x p).2
              ∧ u.pts.slots = s.pts.slots ∧ u.pts.trial = s.pts.trial ∧ u.jmc = s.jmc))

/-- A group that has become overdue makes SEQ test readiness and choose; until SEQ has taken its event it is not overdue, and
neither its cut nor its rank is seen at an expiry that SEQ takes first (assumption 44). At the expiry of the end countdown SEQ chooses: a
stage yielded ends the current one, and nothing yielded clears the countdown and the mark. An event that is not due changes
nothing (assumption 7). The cause and level of the chosen stage follow from the step that yielded it and the class of
the ending. -/
def Obligations.SequencerEventsChoose : Prop :=
  (∀ (s : State),
    (¬ (s.seq.h = some 0 ∧ s.jmc.mode = .normal ∧ s.seq.status = some .running) →
      exec .endCountdownExpiry s = .next (settle Config.reactionBound s.begun))
    ∧ (s.seq.h = some 0 → s.jmc.mode = .normal → s.seq.status = some .running →
      let c : EndClass := if s.readyWith false = true then .ready else if s.ready = true then .cut else .expiry
      (∀ v, choose s.begun = (v, none) →
        exec .endCountdownExpiry s
          = .next (settle Config.reactionBound { v with seq := { v.seq with h := none, mark := none } }))
      ∧ ∀ v t y, choose s.begun = (v, some (t, y)) →
        exec .endCountdownExpiry s = .next (settle Config.reactionBound (endStage c t y v)))
    ∧ (∀ g : GroupId,
      let late : Prop := (s.dem g).latched = true ∧ (s.grp g).state ≠ .opened ∧ (s.times g).maxwait ≠ 0
        ∧ (s.times g).maxwait < (s.dem g).wait
      let taken : State := { s.begun with
        seq := { s.seq with overdueAwaited := GroupSet.minus s.seq.overdueAwaited (GroupSet.only g) } }
      (s.overdue g = true ↔ late ∧ GroupSet.has s.seq.overdueAwaited g = false)
      ∧ (late → taken.overdue g = true
        ∧ exec (.groupOverdue g) s
          = .next (settle Config.reactionBound { taken with notices := s.notices ++ [.retest, .choose] }))
      ∧ (¬ late → exec (.groupOverdue g) s = .next (settle Config.reactionBound taken)))
    ∧ (s.jmc.mode = .normal → s.seq.status = some .running → (∀ g, s.overdue g = false) →
      s.ready = s.readyWith false))
  ∧ ∀ (c : EndClass) (r : ResumeRec) (q : ReqRef) (l k : Nat),
    causeAndLevel .manual c = (.manual, 0)
    ∧ causeAndLevel (.resumed r) c = (.resume, r.level)
    ∧ causeAndLevel (.priority q l) c = ((if c = .expiry then .truncated else .priority), l)
    ∧ causeAndLevel (.sequence k) c = ((if c = .expiry then .truncated else .ready), 0)

/-- The next-stage choice in its six steps. Step 1, in MANUAL, takes the manual slot. Step 2 yields the ruling request's priority
stage over a record of lower level, gives a record back, or discards it and looks again. Step 3 yields the ruling request's
priority stage on an empty stack. Step 4 switches to the pending plan when nothing stands against it, which a slot being
written puts off and a slot that fails its check discards. Step 5 yields the first eligible entry: in CYCLIC from the entry
after the position on, in RANKED from the start of the list, after an entry for the overdue group of largest excess and lowest
number. With no such entry the stage rests, except after a switch, when the first entry is yielded. -/
def Obligations.NextStageChoiceInOrderOfSteps : Prop :=
  (∀ (s : State),
    let elsewhere (q : ReqRef) : Prop := s.ruling = some q ∧ some (s.prioStage q) ≠ s.seq.current
    let mayswitch : Prop :=
      s.jmc.mode = .normal ∧ s.ruling = none
        ∧ (∀ a, (s.app a).episode ≠ .planned ∧ (s.app a).episode ≠ .serving) ∧ ∀ c ∈ s.pri.calls, c.state ≠ .serving
    (s.jmc.mode = .manual →
      (s.seq.manualSlot = none → choose s = (s, none))
      ∧ ∀ t h, s.seq.manualSlot = some (t, h) →
        ∃ v, choose s = (v, if s.seq.current = some t then none else some (t, .manual))
          ∧ v.seq = { s.seq with manualSlot := none, manualHold := some h }
          ∧ v.notices = s.notices ++ [.retest])
    ∧ (s.jmc.mode ≠ .manual →
      (∀ r rest, s.seq.stack = r :: rest →
        let gone : Prop := some r.stage = s.seq.current ∨ (0 < r.level ∧ ∀ q, r.request = some q → s.stillWaits q = false)
        (∀ q, elsewhere q → r.level < s.reqLevel q →
          choose s = (s, some (s.prioStage q, .priority q (s.reqLevel q))))
        ∧ ((∀ q, elsewhere q → s.reqLevel q ≤ r.level) →
          (¬ gone → choose s = ({ s with seq := { s.seq with stack := rest } }, some (r.stage, .resumed r)))
          ∧ (gone → choose s = choose { s with seq := { s.seq with stack := rest } })))
      ∧ (s.seq.stack = [] →
        (∀ q, elsewhere q → choose s = (s, some (s.prioStage q, .priority q (s.reqLevel q))))
        ∧ ((∀ q, ¬ elsewhere q) →
          (s.seq.pendingPlan = none ∨ ¬ mayswitch → choose s = (s, chooseEntry s.seq.current s))
          ∧ ∀ n, s.seq.pendingPlan = some n → mayswitch →
            ((∃ w, s.writingSlot? = some w ∧ slotOf w = n) → choose s = (s, chooseEntry s.seq.current s))
            ∧ (¬ (∃ w, s.writingSlot? = some w ∧ slotOf w = n) →
              (∀ u d, checkContents n s = (u, .error d) → d.status ≠ .busy →
                ∃ v, choose s = (v, chooseEntry s.seq.current v) ∧ v.seq = { s.seq with pendingPlan := none }
                  ∧ v.lnk = (s.report (.planChanged s.seq.activeSlot n .discarded)).lnk)
              ∧ (∀ u p x, checkContents n s = (u, .ok p) → s.pts.tables = some x →
                ∃ v, choose s
                    = (v, (chooseEntry none v).or (v.sequence.entries.head?.map fun e => (e.stage, .sequence 1)))
                  ∧ v.seq.activeSlot = some n ∧ v.seq.pendingPlan = none ∧ v.seq.position = 0
                  ∧ v.seq.current = s.seq.current ∧ v.seq.groups = s.seq.groups
                  ∧ v.pts.activeCopy = some (clampPlan x p).1))))))
  ∧ ∀ (s : State) (passed : Option StageId),
    let entries := s.sequence.entries
    let wanted (e : SeqEntry) : Prop :=
      some e.stage ≠ passed
        ∧ (e.always = true ∨ ∃ g, GroupSet.has (s.stageGroups e.stage) g = true ∧ (s.grp g).state ≠ .opened
            ∧ (s.dem g).latched = true)
    let answers (g : GroupId) (e : SeqEntry) : Prop :=
      GroupSet.has (s.stageGroups e.stage) g = true ∧ some e.stage ≠ passed
    let sooner (i k : Nat) : Prop :=
      let p := s.seq.position
      (p ≤ i ∧ k < p) ∨ (i < k ∧ (p ≤ i ↔ p ≤ k))
    let yields (k : Nat) (e : SeqEntry) : Prop := chooseEntry passed s = some (e.stage, .sequence (k + 1))
    (s.sequence.mode = .cyclic →
      ((∀ e ∈ entries, ¬ wanted e) → chooseEntry passed s = none)
      ∧ ∀ k e, entries[k]? = some e → wanted e → (∀ i x, entries[i]? = some x → sooner i k → ¬ wanted x) → yields k e)
    ∧ (s.sequence.mode = .ranked →
      (∀ g k e, s.overdue g = true → entries[k]? = some e → answers g e →
        (∀ i x, entries[i]? = some x → i < k → ¬ answers g x) →
        (∀ h, s.overdue h = true → (∃ x ∈ entries, answers h x) →
          let late (y : GroupId) : Nat := (s.dem y).wait - (s.times y).maxwait
          late h < late g ∨ (late h = late g ∧ g ≤ h)) →
        yields k e)
      ∧ ((∀ g, s.overdue g = true → ∀ e ∈ entries, ¬ answers g e) →
        ((∀ e ∈ entries, ¬ wanted e) → chooseEntry passed s = none)
        ∧ ∀ k e, entries[k]? = some e → wanted e → (∀ i x, entries[i]? = some x → i < k → ¬ wanted x) → yields k e))

/-- The ending of a stage: the chosen stage is current with its groups and its level, the countdown and the mark are cleared,
and a resume record of the stage that ended is pushed exactly for an ending that was not READY, whose stage was at level 0
or whose request still waits, while the stack holds fewer than three and the level is above its top record's (assumption
26). A group the two stages share stays open; a group that is not in the new stage takes or holds its close command; a group that is still closing holds its
open command. -/
def Obligations.EndingBeginsTheTransition : Prop :=
  ∀ (s : State) (old t : StageId) (c : EndClass) (y : Yield), s.seq.current = some old →
    let u := endStage c t y s
    let new := s.stageGroups t
    let members := GroupSet.members s.seq.groups
    let saved : ResumeRec :=
      { stage := old
        level := s.seq.level
        dSaved := largest (members.map fun g => (s.grp g).mgRem)
        budget := largest (members.map fun g => (s.grp g).effMaxg - (s.grp g).openElapsed)
        request := if 0 < s.seq.level then s.pri.own else none }
    let pushed : Prop :=
      c ≠ .ready ∧ (s.seq.level = 0 ∨ ∃ q, s.pri.own = some q ∧ s.stillWaits q = true) ∧ s.seq.stack.length < 3
        ∧ ∀ r rest, s.seq.stack = r :: rest → r.level < s.seq.level
    u.seq.current = some t ∧ u.seq.groups = new ∧ u.seq.level = (causeAndLevel y c).2
    ∧ u.seq.starting = GroupSet.minus new s.seq.groups
    ∧ u.seq.status = some (if GroupSet.minus new s.seq.groups = 0 then .running else .transition)
    ∧ u.seq.h = none ∧ u.seq.mark = none ∧ u.seq.holdFreeSeen = false
    ∧ (pushed → u.seq.stack = saved :: s.seq.stack) ∧ (¬ pushed → u.seq.stack = s.seq.stack)
    ∧ u.seq.position = (match y with | .sequence k => k | _ => s.seq.position)
    ∧ u.seq.demand = s.seq.demand ∧ u.pri.standing = none ∧ u.pri.approaches = s.pri.approaches
    ∧ u.dti = s.dti ∧ u.jmc = s.jmc ∧ u.pts = s.pts
    ∧ u.pri.own = (match y with | .priority q _ => some q | .resumed r => r.request | _ => none)
    ∧ (∀ g, GroupSet.has s.seq.groups g = true → GroupSet.has new g = true → (s.grp g).state = .opened →
        (u.grp g).state = .opened ∧ (u.grp g).openElapsed = (s.grp g).openElapsed
          ∧ (u.grp g).mgRem = (s.grp g).mgRem)
    ∧ (∀ g, GroupSet.has s.seq.groups g = true → GroupSet.has new g = false → s.present g = true →
        (s.grp g).state = .opened →
        (0 < (s.grp g).mgRem → (u.grp g).state = .opened ∧ (u.grp g).closePending = true)
        ∧ ((s.grp g).mgRem = 0 → 0 < (s.groupDef g).close →
            (u.grp g).state = .closing ∧ (u.grp g).phaseTimer = (s.groupDef g).close))
    ∧ (∀ g, GroupSet.has s.seq.groups g = false → GroupSet.has new g = true → s.present g = true →
        (s.grp g).state = .closing →
        (u.grp g).state = .closing ∧ (u.grp g).openPending = true
        ∧ (u.grp g).override
          = (match y with
            | .resumed r =>
              let m := max r.dSaved s.sequence.resumeMin
              some { ming := m, maxg := max m r.budget }
            | _ => none))

/-! ## What the notices do -/

/-- SGE's notices reach their blocks. Entry into OPEN: the group's demand is cleared with a button's wait indicator, the group
leaves the starting set, whose last makes the stage RUNNING with its running notice, and a PLANNED approach of the group with a
WAITING head serves it under a hold. Leaving: the group's holders and the caps of its approaches go, and their services end
SERVED, in RECOVERING or in IDLE. Entry into CLOSED: RECALL and a standing fault demand latch, and the waiting groups are
tested for admission. Notices are worked off one after another, oldest first, as far as the bound goes (assumptions 3 and 4). -/
def Obligations.GroupNoticesReachTheirBlocks : Prop :=
  (Config.reactionBound = 4096
    ∧ ∀ (k : Nat) (s : State),
      settle 0 s = s ∧ (s.notices = [] → settle k s = s)
      ∧ ∀ n rest, s.notices = n :: rest → settle (k + 1) s = settle k (handle n { s with notices := rest }))
  ∧ ∀ (s : State) (g : GroupId),
    let mine (a : ApproachId) : Prop := (s.appSet a).present = true ∧ (s.appSet a).tramGroup = g
    (let t := handle (.entered g) s
      let button : Bool := DemandSet.has (s.dem g).sources .button
      let starts : Prop := s.seq.status = some .transition ∧ GroupSet.has s.seq.starting g = true
      let left := GroupSet.minus s.seq.starting (GroupSet.only g)
      t.dem g = { latched := false, sources := 0, wait := 0 } ∧ (∀ h, h ≠ g → t.dem h = s.dem h)
      ∧ (t.grp g).wait = (if s.present g = true ∧ button = true then false else (s.grp g).wait)
      ∧ (∀ h, (t.grp h).state = (s.grp h).state)
      ∧ (starts → t.seq.starting = left
        ∧ (left ≠ 0 → t.seq.status = some .transition)
        ∧ (left = 0 → ∀ c, s.seq.current = some c → t.seq.status = some .running ∧ .running c ∈ t.notices))
      ∧ (¬ starts → t.seq.starting = s.seq.starting ∧ t.seq.status = s.seq.status)
      ∧ (∀ a h rest, mine a → (s.grp g).state = .opened → (s.app a).episode = .planned →
        (s.app a).queue = h :: rest → h.state = .waiting →
        t.app a = { s.app a with queue := { h with state := .serving } :: rest, episode := .serving }
        ∧ .approach a ∈ t.holders g ∧ (s.present g = true → (t.grp g).hold = true)
        ∧ t.cap a = if s.seq.holdFreeSeen = true then .loaded (s.appSet a).ext else .armed)
      ∧ (∀ a, (¬ mine a ∨ (s.grp g).state ≠ .opened ∨ (s.app a).episode ≠ .planned
          ∨ ∀ h, s.head? a = some h → h.state ≠ .waiting) →
        t.app a = s.app a ∧ t.cap a = s.cap a)
      ∧ .retest ∈ t.notices)
    ∧ (let t := handle (.left g) s
      t.holders g = [] ∧ (∀ h, h ≠ g → t.holders h = s.holders h) ∧ t.sge = s.sge ∧ t.seq = s.seq
      ∧ (∀ a, mine a → t.cap a = .absent
        ∧ ((s.app a).episode = .serving →
          t.app a = { s.app a with
            queue := (s.app a).queue.map fun r => if r.state = .serving then { r with state := .served } else r
            episode := if (s.appSet a).recovery = 0 then .idle else .recovering
            recovery := (s.appSet a).recovery })
        ∧ ((s.app a).episode ≠ .serving → t.app a = s.app a))
      ∧ (∀ a, ¬ mine a → t.cap a = s.cap a ∧ t.app a = s.app a)
      ∧ .retest ∈ t.notices ∧ (s.overdue g = true → .choose ∈ t.notices))
    ∧ (let t := handle (.closed g) s
      let recalls : Prop := s.present g = true ∧ (s.times g).recallOn = true
      let faulty : Prop := s.present g = true ∧ GroupSet.has s.dti.fault g = true
      (recalls → (t.dem g).latched = true ∧ DemandSet.has (t.dem g).sources .recalled = true)
      ∧ (faulty → (t.dem g).latched = true ∧ DemandSet.has (t.dem g).sources .fault = true)
      ∧ (recalls ∨ faulty → (t.dem g).wait = if (s.dem g).latched = true then (s.dem g).wait else 0)
      ∧ (¬ recalls → ¬ faulty → t.dem g = s.dem g) ∧ (∀ h, h ≠ g → t.dem h = s.dem h)
      ∧ (∀ h, (t.grp h).state ≠ (s.grp h).state →
        s.present h = true ∧ (s.grp h).state = .closed ∧ (s.grp h).openPending = true
          ∧ (s.grp h).cr ≤ (s.groupDef h).opent)
      ∧ ((∀ h, canAdmit s h = false) → t.sge = s.sge))

/-- SEQ's running notice and JMC's looks. The running notice of the current stage makes the ruling call whose target it is
SERVING, and the call or the tram that a resumed stage's own request names (for the call, the reading of assumption 37), and
passes a PLANNED approach with an open tram group to SERVING; JMC records it in a start-up. JMC ends ALL_RED at the first group
in OPENING or OPEN, enters NORMAL in FIRST_STAGE with the first stage running, and ends CLEARING when every present group is
CLOSED with its clearance run down and no leaving notice is on the way (assumption 3). -/
def Obligations.ModeNoticesReachTheirBlocks : Prop :=
  ∀ (s : State),
    (∀ c : StageId,
      let t := handle (.running c) s
      (s.jmc.mode = .startup → t.jmc = { s.jmc with firstRunning := true } ∧ .watch ∈ t.notices)
      ∧ (s.jmc.mode ≠ .startup → t.jmc = s.jmc)
      ∧ (¬ (s.seq.status = some .running ∧ s.seq.current = some c) → t.pri = s.pri ∧ t.seq = s.seq ∧ t.sge = s.sge)
      ∧ (s.seq.status = some .running → s.seq.current = some c →
        (∀ x, x ∈ s.pri.calls → (s.pri.calls.map Call.id).Nodup → x.state = .waiting →
          (x.target = c ∧ s.ruling = some (.call x.id)) ∨ (s.seq.resumed = true ∧ s.pri.own = some (.call x.id)) →
          ∃ y, t.call? x.id = some y ∧ y.state = .serving ∧ y.servingStage = some c ∧ y.remaining = x.remaining)
        ∧ (∀ a g h rest, (s.appSet a).present = true → (s.appSet a).tramGroup = g → (s.grp g).state = .opened →
          GroupSet.has s.seq.groups g = true → (s.app a).queue = h :: rest →
          (((s.app a).episode = .planned ∧ h.state = .waiting)
            ∨ (s.seq.resumed = true ∧ s.jmc.mode = .normal ∧ s.pri.own = some (.tram a h.tag) ∧ h.state ≠ .serving)) →
          (t.app a).episode = .serving ∧ (t.app a).queue = { h with state := .serving } :: rest
          ∧ .approach a ∈ t.holders g)))
    ∧ (let t := handle .watch s
      let quiet : Prop :=
        (∀ g, s.present g = true → (s.grp g).state = .closed ∧ (s.grp g).cr = 0) ∧ ∀ g, .left g ∉ s.notices
      let moving : Prop := ∃ g, s.present g = true ∧ ((s.grp g).state = .opening ∨ (s.grp g).state = .opened)
      (s.jmc.mode = .startup → s.jmc.phase = some .allRed →
        (moving → t.jmc = { s.jmc with phase := some .firstStage, timer := 0 } ∧ .watch ∈ t.notices
          ∧ t.lnk = (s.report (.modeChanged .startup .startup (some .firstStage) none .phase)).lnk)
        ∧ (¬ moving → t = s))
      ∧ (s.jmc.mode = .startup → s.jmc.phase = some .firstStage →
        (s.jmc.firstRunning = true → t.jmc = { s.jmc with mode := .normal, phase := none, darkCause := none }
          ∧ .redetermine ∈ t.notices ∧ .choose ∈ t.notices)
        ∧ (s.jmc.firstRunning = false → t = s))
      ∧ (s.jmc.mode = .clearing →
        (quiet → t.jmc.mode = .flash ∧ t.seq.current = none ∧ t.seq.pendingPlan = none ∧ t.seq.stack = []
          ∧ t.pri.calls = [] ∧ ∀ g, s.present g = true → (t.grp g).state = .flash)
        ∧ (¬ quiet → t = s))
      ∧ (s.jmc.mode ≠ .startup → s.jmc.mode ≠ .clearing → t = s)
      ∧ (s.jmc.mode = .startup → s.jmc.phase ≠ some .allRed → s.jmc.phase ≠ some .firstStage → t = s))

/-! ## Trams, calls and the ruling request -/

/-- The ruling request: none outside NORMAL; in NORMAL the waiting request of highest level, of largest age between equal
levels, and of lowest number between equal ages; none exactly when none waits. Its priority stage is the approach's, or the
call's target, and outside NORMAL no request is planned. -/
def Obligations.RulingRequestOutranksAllThatWait : Prop :=
  ∀ (s : State),
    let waits (r : ReqRef) (level age num : Nat) : Prop :=
      (∃ a h, r = .tram a h.tag ∧ s.head? a = some h ∧ (s.appSet a).present = true ∧ h.state = .waiting
        ∧ ((s.app a).episode = .idle ∨ (s.app a).episode = .planned) ∧ level = 2 ∧ age = h.age ∧ num = number a)
      ∨ (∃ c, c ∈ s.pri.calls ∧ r = .call c.id ∧ c.state = .waiting ∧ level = c.level.level ∧ age = c.age ∧ num = c.id)
    (s.jmc.mode ≠ .normal → s.ruling = none)
    ∧ (s.jmc.mode = .normal →
      (s.ruling = none → ∀ r l age n, ¬ waits r l age n)
      ∧ ∀ r, s.ruling = some r →
        ∃ l age n, waits r l age n
          ∧ ∀ r' l' age' n', waits r' l' age' n' → l' < l ∨ (l' = l ∧ (age' < age ∨ (age' = age ∧ n ≤ n'))))
    ∧ (∀ a tag, s.prioStage (.tram a tag) = (s.appSet a).priorityStage)
    ∧ (∀ id c, s.call? id = some c → s.prioStage (.call id) = c.target)
    ∧ (∀ r, s.jmc.mode ≠ .normal → plannerRun r s = s)

/-- The planner. It makes no run outside NORMAL or a RUNNING stage. A request whose level is not above the stage's is not
permitted: no plan stands and its approach is not PLANNED. A request whose groups are open in the running stage is served
there: its head or its call is SERVING under a hold, it is PRI's own request, the stage is raised to its level, and a plan for
another request is withdrawn. For any other the plan stands with D the largest MG_rem of the stage's groups, T_trans the time
its own groups need after those that close, L the arrival countdown less T_trans, and H the larger of D and L, which SEQ takes
with the priority stage as its mark. -/
def Obligations.PlannerInsertsOrExtends : Prop :=
  ∀ (s : State) (r : ReqRef),
    let u := plannerRun r s
    let withdrawn : Prop := u.pri.standing = none
      ∧ (s.pri.standing ≠ none → u.seq.h = none ∧ u.seq.mark = none)
      ∧ (s.pri.standing = none → u.seq.h = s.seq.h ∧ u.seq.mark = s.seq.mark)
    (s.jmc.mode ≠ .normal ∨ s.seq.status ≠ some .running → u = s)
    ∧ (s.jmc.mode = .normal → s.seq.status = some .running →
      (s.reqLevel r ≤ s.seq.level →
        withdrawn ∧ u.seq.level = s.seq.level ∧ u.pri.own = s.pri.own ∧ u.pri.calls = s.pri.calls
        ∧ ∀ a tag, r = .tram a tag → (u.app a).episode ≠ .planned ∧ (u.app a).queue = (s.app a).queue)
      ∧ (s.seq.level < s.reqLevel r →
        (∀ a g h rest, r = .tram a h.tag → (s.app a).queue = h :: rest → (s.appSet a).present = true →
          (s.appSet a).tramGroup = g → (s.grp g).state = .opened → GroupSet.has s.seq.groups g = true →
          ((∀ p, s.pri.standing = some p → p.subject ≠ r) → withdrawn)
          ∧ u.app a = { s.app a with
              queue := { h with state := .serving } :: rest, episode := .serving, recovery := 0 }
          ∧ u.pri.own = some r ∧ u.seq.level = 2 ∧ .approach a ∈ u.holders g
          ∧ u.cap a = if s.seq.holdFreeSeen = true then .loaded (s.appSet a).ext else .armed)
        ∧ (∀ id c, r = .call id → s.call? id = some c → (s.pri.calls.map Call.id).Nodup →
          (∀ g, GroupSet.has (s.stageGroups c.target) g = true →
            (s.grp g).state = .opened ∧ GroupSet.has s.seq.groups g = true) →
          ((∀ p, s.pri.standing = some p → p.subject ≠ r) → withdrawn)
          ∧ u.call? id = some { c with state := .serving, servingStage := s.seq.current }
          ∧ u.pri.own = some r ∧ u.seq.level = s.reqLevel r
          ∧ ∀ g, GroupSet.has (s.stageGroups c.target) g = true → .call id ∈ u.holders g)
        ∧ (∀ cur a, s.seq.current = some cur →
          ((∃ k h, r = .tram k h.tag ∧ s.head? k = some h ∧ a = h.eta
              ∧ ¬ ((s.appSet k).present = true ∧ (s.grp (s.appSet k).tramGroup).state = .opened
                ∧ GroupSet.has s.seq.groups (s.appSet k).tramGroup = true))
            ∨ (∃ id c g, r = .call id ∧ s.call? id = some c ∧ a = c.eta ∧ GroupSet.has (s.stageGroups c.target) g = true
              ∧ ¬ ((s.grp g).state = .opened ∧ GroupSet.has s.seq.groups g = true))) →
          let next := s.stageGroups (s.prioStage r)
          let opens (b : GroupId) : Prop := GroupSet.has next b = true ∧ GroupSet.has s.seq.groups b = false
          let closes (e : GroupId) : Prop := GroupSet.has s.seq.groups e = true ∧ GroupSet.has next e = false
          ∃ d t,
            u.pri.standing = some {
              subject := r, level := s.reqLevel r, stage := cur, prio := s.prioStage r, d := d, tTrans := t, l := a - t
              h := max d (a - t) }
            ∧ u.seq.h = some (max d (a - t)) ∧ u.seq.mark = some (s.prioStage r) ∧ u.seq.level = s.seq.level
            ∧ u.pri.own = s.pri.own ∧ u.sge = s.sge
            ∧ (∀ g, GroupSet.has s.seq.groups g = true → (s.grp g).mgRem ≤ d)
            ∧ (d = 0 ∨ ∃ g, GroupSet.has s.seq.groups g = true ∧ (s.grp g).mgRem = d)
            ∧ (∀ b, opens b → (s.groupDef b).opent ≤ t)
            ∧ (∀ b e, opens b → closes e → GroupSet.has (s.conflicts b) e = true → s.ig e b ≤ t)
            ∧ (t = 0 ∨ ∃ b, opens b ∧ ((s.groupDef b).opent = t
                ∨ ∃ e, closes e ∧ GroupSet.has (s.conflicts b) e = true ∧ s.ig e b = t))
            ∧ (d = 0 → a ≤ t → .endExpiry ∈ u.notices))))

/-- TRAM_IN and TRAM_OUT in the order of the rows of their tables: a record with the vehicle number given is updated and
nothing else, unless it is the head that rules, for which the planner then runs; a full queue is refused, and otherwise a
record joins the tail with the approach's next tag; a check-out removes the head whatever its state. That the reply enters
the link before the reports is the model's reading (assumption 18). -/
def Obligations.TramsCheckInAndOut : Prop :=
  ∀ (tag : Byte) (vehicle eta : Option Nat) (s : State),
    (∀ n, n = 0 ∨ 4 < n →
      exec (.tramIn tag n vehicle eta) s = .next (settle Config.reactionBound (s.begun.reply 0x0F tag .range))
      ∧ exec (.tramOut tag n) s = .next (settle Config.reactionBound (s.begun.reply 0x10 tag .range)))
    ∧ ∀ a : ApproachId,
      let queue := (s.app a).queue
      let status : Status := if eta.any (fun e => decide (1200 < e)) then .clamped else .ok
      ((s.appSet a).present = false →
        exec (.tramIn tag (number a) vehicle eta) s
          = .next (settle Config.reactionBound (s.begun.reply 0x0F tag .invalid))
        ∧ exec (.tramOut tag (number a)) s = .next (settle Config.reactionBound (s.begun.reply 0x10 tag .invalid)))
      ∧ ((s.appSet a).present = true →
        (s.jmc.mode ≠ .normal → s.jmc.mode ≠ .manual →
          exec (.tramIn tag (number a) vehicle eta) s
            = .next (settle Config.reactionBound (s.begun.reply 0x0F tag .wrongMode)))
        ∧ (s.jmc.mode = .normal ∨ s.jmc.mode = .manual →
          (∀ v r before after, vehicle = some v → queue = before ++ r :: after → r.vehicle = some v →
            (∀ x ∈ before, x.vehicle ≠ some v) →
            (eta = none →
              exec (.tramIn tag (number a) vehicle eta) s
                = .next (settle Config.reactionBound
                    (s.begun.reply 0x0F tag .ok [BitVec.ofNat 8 r.tag] { updated := true })))
            ∧ ∀ e, eta = some e →
              ∃ u, exec (.tramIn tag (number a) vehicle eta) s = .next (settle Config.reactionBound u)
                ∧ SameOutsidePriority s u ∧ (∀ b, b ≠ a → (u.app b).queue = (s.app b).queue)
                ∧ ((queue.map TramRec.tag).Nodup →
                    (r.state ≠ .waiting ∨ s.ruling ≠ some (.tram a r.tag) →
                      u.app a = { s.app a with queue := before ++ { r with eta := min e 1200 } :: after }
                      ∧ u.lnk
                        = (s.begun.reply 0x0F tag status [BitVec.ofNat 8 r.tag] { updated := true }).lnk)
                    ∧ (r.state = .waiting → s.ruling = some (.tram a r.tag) →
                      before = []
                      ∧ (∃ st, (u.app a).queue = { r with eta := min e 1200, state := st } :: after)
                      ∧ ∃ l : List ReportBody,
                        u.lnk
                          = (l.foldl State.report
                              (s.begun.reply 0x0F tag status [BitVec.ofNat 8 r.tag] { updated := true })).lnk)))
          ∧ ((∀ v, vehicle = some v → ∀ x ∈ queue, x.vehicle ≠ some v) →
            (4 ≤ queue.length →
              exec (.tramIn tag (number a) vehicle eta) s
                = .next (settle Config.reactionBound (s.begun.reply 0x0F tag .full)))
            ∧ (queue.length < 4 →
              ∃ k v, exec (.tramIn tag (number a) vehicle eta) s
                  = .next (settle Config.reactionBound
                      ((if queue = [] then lookAtHead a v else v).push .redetermine))
                ∧ (∀ r ∈ queue, r.tag ≠ k) ∧ ((∀ r ∈ queue, r.tag ≠ (s.app a).nextTag) → k = (s.app a).nextTag)
                ∧ v.app a = { s.app a with
                    queue := queue ++ [{
                      tag := k, source := .link, vehicle := vehicle, checkIn := s.time
                      eta := (eta.map (min · 1200)).getD (s.appSet a).run, age := 0, state := .waiting }]
                    nextTag := if 255 ≤ k then 1 else k + 1 }
                ∧ (∀ b, b ≠ a → v.app b = s.app b)
                ∧ v.lnk
                  = ((s.begun.reply 0x0F tag status [BitVec.ofNat 8 k]).report
                      (.priorityEvent .checkedIn (.tram a) (some k) (some .link) vehicle none)).lnk
                ∧ v.notices = s.notices ∧ SameOutsidePriority s v)))
        ∧ (queue = [] →
          exec (.tramOut tag (number a)) s
            = .next (settle Config.reactionBound
                ((s.begun.reply 0x10 tag .notFound).report
                  (.priorityEvent .checkoutUnexpected (.tram a) none (some .link) none none))))
        ∧ (∀ h rest, queue = h :: rest →
          ∃ u, exec (.tramOut tag (number a)) s = .next (settle Config.reactionBound u) ∧ SameOutsidePriority s u
            ∧ (u.app a).queue.map TramRec.tag = rest.map TramRec.tag
            ∧ (∀ b, b ≠ a → (u.app b).queue = (s.app b).queue) ∧ u.pri.calls = s.pri.calls
            ∧ ∃ l : List ReportBody, (rest = [] → l = [])
              ∧ u.lnk
                = (l.foldl State.report
                    ((s.begun.reply 0x10 tag .ok [BitVec.ofNat 8 h.tag]).report
                      (.priorityEvent .checkedOut (.tram a) (some h.tag) (some .link) h.vehicle (some h.state)))).lnk))

/-- CALL_PLACE and CALL_CANCEL in the order of the rows of their tables: a call taken joins the table WAITING with its ETA and
hold clamped, an EMERGENCY call with ETA 0; a call cancelled leaves the table, reported DROPPED while it was WAITING and
SERVED while it was SERVING. That an EMERGENCY call's ETA above 1200 is not a clamped field is the model's reading
(assumption 28), and so is that the reply enters the link before the report (assumption 18). -/
def Obligations.CallsPlacedAndCancelled : Prop :=
  ∀ (tag : Byte) (id level target eta hold : Nat) (s : State),
    let place := exec (.callPlace tag id level target eta hold) s
    let cancel := exec (.callCancel tag id) s
    let refusePlace (x : Status) : Prop := place = .next (settle Config.reactionBound (s.begun.reply 0x11 tag x))
    let inRange : Prop := 1 ≤ id ∧ id ≤ 255
    (¬ (inRange ∧ level ≤ 1 ∧ 1 ≤ target ∧ target ≤ 16) → refusePlace .range)
    ∧ (∀ t : StageId, inRange → level ≤ 1 → target = number t →
      (s.jmc.mode ≠ .normal → refusePlace .wrongMode)
      ∧ (s.jmc.mode = .normal → s.stageGroups t = 0 → refusePlace .invalid)
      ∧ (s.jmc.mode = .normal → s.stageGroups t ≠ 0 →
        ((∃ c ∈ s.pri.calls, c.id = id) → refusePlace .duplicate)
        ∧ ((∀ c ∈ s.pri.calls, c.id ≠ id) →
          (4 ≤ s.pri.calls.length → refusePlace .full)
          ∧ (s.pri.calls.length < 4 →
            place = .next (settle Config.reactionBound
              { s.begun.reply 0x11 tag
                  (if hold < 50 ∨ 1200 < hold ∨ (level = 0 ∧ 1200 < eta) then .clamped else .ok) with
                pri := { s.pri with
                  calls := s.pri.calls ++ [{
                    id := id, level := if level = 0 then .bus else .emergency, target := t
                    eta := if level = 0 then min eta 1200 else 0
                    hold := min (max hold 50) 1200, remaining := min (max hold 50) 1200, age := 0
                    state := .waiting, servingStage := none, planned := false }] }
                notices := s.notices ++ [.redetermine] })))))
    ∧ (¬ inRange → cancel = .next (settle Config.reactionBound (s.begun.reply 0x12 tag .range)))
    ∧ (inRange → s.call? id = none →
      cancel = .next (settle Config.reactionBound (s.begun.reply 0x12 tag .notFound)))
    ∧ (∀ c, inRange → s.call? id = some c →
      ∃ u, cancel = .next (settle Config.reactionBound u) ∧ SameOutsidePriority s u
        ∧ u.pri.calls = s.pri.calls.filter (fun x => x.id ≠ id) ∧ (∀ a, (u.app a).queue = (s.app a).queue)
        ∧ (c.state = .waiting →
          u.lnk = ((s.begun.reply 0x12 tag .ok).report
            (.priorityEvent .dropped (.call id) none none none none)).lnk)
        ∧ (c.state = .serving →
          u.lnk = ((s.begun.reply 0x12 tag .ok).report
            (.priorityEvent .served (.call id) none none none none)).lnk
          ∧ ∀ g, .call id ∉ u.holders g))

/-- What PRI's timers do when they run out: the head that has reached TMAX leaves LOST, a recovery ends in IDLE, the guard
ends, a cap releases its tram group, a call's hold ends in SERVED, and an age that reverses the order has the ruling request
determined anew. An event that is not due changes nothing (assumptions 7 and 14). -/
def Obligations.PriorityTimersRunOut : Prop :=
  ∀ (s : State) (a : ApproachId),
    let idle : Host.Outcome State Fault Refusal := .next (settle Config.reactionBound s.begun)
    let withApp (x : Approach) : State := { s.begun with pri := { s.pri with approaches := s.pri.approaches.set a x } }
    (∀ h rest, (s.app a).queue = h :: rest → (s.appSet a).present = true → (s.appSet a).tmax ≤ h.age →
      ∃ u, exec (.tramTimeout a) s = .next (settle Config.reactionBound u) ∧ SameOutsidePriority s u
        ∧ (u.app a).queue.map TramRec.tag = rest.map TramRec.tag
        ∧ (∀ b, b ≠ a → (u.app b).queue = (s.app b).queue) ∧ u.pri.calls = s.pri.calls
        ∧ ∃ l : List ReportBody, (rest = [] → l = [])
          ∧ u.lnk = (l.foldl State.report (s.begun.report
            (.priorityEvent .lost (.tram a) (some h.tag) (some h.source) h.vehicle none))).lnk)
    ∧ ((∀ h, s.head? a = some h → (s.appSet a).present = true → h.age < (s.appSet a).tmax) →
      exec (.tramTimeout a) s = idle)
    ∧ ((s.app a).episode = .recovering → (s.app a).recovery = 0 →
      exec (.recoveryExpiry a) s
        = .next (settle Config.reactionBound
            { withApp { s.app a with episode := .idle } with notices := s.notices ++ [.redetermine, .choose] }))
    ∧ (¬ ((s.app a).episode = .recovering ∧ (s.app a).recovery = 0) → exec (.recoveryExpiry a) s = idle)
    ∧ ((s.app a).checkinGuard = 1 →
      exec (.guardExpiry a) s = .next (withApp { s.app a with checkinGuard := 0 }))
    ∧ ((s.app a).checkinGuard ≠ 1 → exec (.guardExpiry a) s = .next s.begun)
    ∧ (s.cap a = .loaded 0 →
      ∃ u, exec (.capExpiry a) s = .next (settle Config.reactionBound u) ∧ SameOutsidePriority s u
        ∧ u.cap a = .absent ∧ (∀ b, b ≠ a → u.cap b = s.cap b) ∧ u.pri.approaches = s.pri.approaches
        ∧ ∀ g, (s.appSet a).present = true → (s.appSet a).tramGroup = g →
          .approach a ∉ u.holders g
          ∧ (∀ h, h ≠ g → u.holders h = s.holders h ∧ u.grp h = s.grp h)
          ∧ (.approach a ∈ s.holders g → (∀ x ∈ s.holders g, x = .approach a) → s.present g = true →
              (u.grp g).hold = false)
          ∧ ((∃ x ∈ s.holders g, x ≠ .approach a) → u.grp g = s.grp g))
    ∧ (s.cap a ≠ .loaded 0 → exec (.capExpiry a) s = idle)
    ∧ (∀ id c, s.call? id = some c → c.state = .serving → c.remaining = 0 →
      ∃ u, exec (.callHoldExpiry id) s = .next (settle Config.reactionBound u) ∧ SameOutsidePriority s u
        ∧ u.pri.calls = s.pri.calls.filter (fun x => x.id ≠ id) ∧ (∀ g, .call id ∉ u.holders g)
        ∧ u.lnk = (s.begun.report (.priorityEvent .served (.call id) none none none none)).lnk)
    ∧ (∀ id, (∀ c, s.call? id = some c → ¬ (c.state = .serving ∧ c.remaining = 0)) →
      exec (.callHoldExpiry id) s = idle)
    ∧ (s.ruling = s.pri.rulingHeld → exec .ageReversesOrder s = idle)
    ∧ (s.ruling ≠ s.pri.rulingHeld →
      ∃ u l, exec .ageReversesOrder s = .next (settle Config.reactionBound u) ∧ u.pri.rulingHeld = s.ruling
        ∧ u.notices = s.notices ++ l ++ [.choose] ∧ SameOutsidePriority s u)

/-! ## Detectors -/

/-- A detector word: discarded for a channel outside 1 to 32; failing parity it moves the parity run or the good run alone;
with the card-fault flag it counts as valid and makes CARD active; a good word clears CARD and SILENT, settles the record,
takes the state with its edge in ring and count, and tests the stuck conditions. No other detector's record changes, the
group inputs are those of the records as they then stand, and an OCCUPIED edge of an effective DEMAND, DEMAND_EXTEND or
BUTTON detector latches a demand for each group it lists that is present and not in OPEN. An OCCUPIED edge of an effective
TRAM_IN detector is a check-in and a VACANT edge of an effective TRAM_OUT detector a check-out of its approach, by the rows of
their tables; no other word changes what PRI holds. -/
def Obligations.DetectorWordsMoveOneRecord : Prop :=
  ∀ (s : State) (occupied : Bool),
    (∀ n card parity, n = 0 ∨ 32 < n →
      exec (.detectorWord n occupied card parity) s = .next (settle Config.reactionBound s.begun))
    ∧ ∀ d : DetId,
      let r := s.det d
      let c := s.detSet d
      let booked : DetRec :=
        if r.parity = false then { r with parityRun := 0 }
        else if 3 ≤ r.goodRun + 1 then { r with parity := false, parityRun := 0, goodRun := 0 }
        else { r with goodRun := r.goodRun + 1 }
      let failed : DetRec :=
        if r.parity = true then { r with goodRun := 0 }
        else if 3 ≤ r.parityRun + 1 then { r with parityRun := 3, parity := true, goodRun := 0 }
        else { r with parityRun := r.parityRun + 1 }
      let edge : Bool := r.settled && (occupied != r.occupied)
      let since := if r.settled = false ∨ edge = true then 0 else r.sinceChange
      let ring := r.ring ++ [{ occupied := occupied, time := s.time }]
      let used : Bool := decide (c.kind ≠ .unused)
      let good : DetRec := { booked with
        card := false, silent := false, silence := 0, occupied := occupied, settled := true, sinceChange := since
        ring := if edge && used then ring.drop (ring.length - c.ringLength) else r.ring
        count := if edge && used && occupied then min (r.count + 1) 65535 else r.count
        stuckOn := occupied && used && decide (c.stuckOn ≠ 0 ∧ c.stuckOn ≤ since)
        stuckOff := !occupied && used && decide (c.stuckOff ≠ 0 ∧ c.stuckOff ≤ since) }
      let wrote (i : Instr) (x : DetRec) (then' : State → Prop) : Prop :=
        ∃ u, exec i s = .next (settle Config.reactionBound u) ∧ u.det d = x ∧ (∀ e, e ≠ d → u.det e = s.det e)
          ∧ u.dti.ext = u.extWanted ∧ u.dti.fault = u.faultWanted ∧ u.jmc = s.jmc ∧ u.pts = s.pts ∧ then' u
      let a := c.approach
      let x := s.appSet a
      let queue := (s.app a).queue
      let guarded : Approach := { s.app a with checkinGuard := x.checkinGuard }
      let withApp (y : Approach) : Pri := { s.pri with approaches := s.pri.approaches.set a y }
      let toldThen (l' : List ReportBody) (u : State) (e : PriorityEvent) (k vehicle : Option Nat) (st : Option TramState) :
          Prop :=
        ∃ l : List ReportBody,
          u.lnk = (l'.foldl State.report
            ((l.foldl State.report s.begun).report (.priorityEvent e (.tram a) k (some .loop) vehicle st))).lnk
      let told := toldThen []
      let delivered : Prop := edge = true ∧ good.conditions = [] ∧ r.mask = false
      let checksIn : Prop := delivered ∧ c.kind = .tramIn ∧ occupied = true
      let checksOut : Prop := delivered ∧ c.kind = .tramOut ∧ occupied = false
      let heard : Prop := x.present = true ∧ (s.jmc.mode = .normal ∨ s.jmc.mode = .manual) ∧ (s.app a).checkinGuard = 0
      (∀ card, wrote (.detectorWord (number d) occupied card false) failed fun u => u.pri = s.pri)
      ∧ wrote (.detectorWord (number d) occupied true true) { booked with card := true } (fun u => u.pri = s.pri)
      ∧ wrote (.detectorWord (number d) occupied false true) good fun u =>
          (delivered → occupied = true → c.kind = .demand ∨ c.kind = .demandExtend ∨ c.kind = .button →
            ∀ g, GroupSet.has c.groups g = true → s.present g = true → (s.grp g).state ≠ .opened →
              (u.dem g).latched = true
              ∧ DemandSet.has (u.dem g).sources (if c.kind = .button then .button else .detector) = true)
          ∧ (¬ checksIn → ¬ checksOut → u.pri = s.pri)
          ∧ (checksIn → ¬ heard → u.pri = s.pri)
          ∧ (checksIn → heard → 4 ≤ queue.length →
            u.pri = withApp guarded ∧ told u .checkinRefused none none none)
          ∧ (checksIn → heard → queue.length < 4 →
            ∃ k v, u = (if queue = [] then lookAtHead a v else v).push .redetermine
              ∧ (∀ y ∈ queue, y.tag ≠ k) ∧ ((∀ y ∈ queue, y.tag ≠ (s.app a).nextTag) → k = (s.app a).nextTag)
              ∧ v.pri = withApp { guarded with
                  queue := queue ++ [{
                    tag := k, source := .loop, vehicle := none, checkIn := s.time, eta := x.run, age := 0
                    state := .waiting }]
                  nextTag := if 255 ≤ k then 1 else k + 1 }
              ∧ told v .checkedIn (some k) none none)
          ∧ (checksOut → x.present = false → u.pri = s.pri)
          ∧ (checksOut → x.present = true → queue = [] →
            u.pri = s.pri ∧ told u .checkoutUnexpected none none none)
          ∧ (∀ h rest, checksOut → x.present = true → queue = h :: rest →
            (u.app a).queue.map TramRec.tag = rest.map TramRec.tag
            ∧ (∀ b, b ≠ a → (u.app b).queue = (s.app b).queue) ∧ u.pri.calls = s.pri.calls
            ∧ ∃ l' : List ReportBody,
              (rest = [] → l' = []) ∧ toldThen l' u .checkedOut (some h.tag) h.vehicle (some h.state))

/-- The silence timer at 30 makes SILENT stand and settles the record; a stuck limit that is reached makes its condition
active; DETECTOR_MASK sets the mask of a detector 1 to 32 in every mode. Each changes one record and leaves the group inputs
those of the records; an event that is not due changes nothing (assumption 7). -/
def Obligations.DetectorTimersAndMask : Prop :=
  ∀ (s : State) (d : DetId) (tag : Byte),
    let r := s.det d
    let c := s.detSet d
    let wrote (i : Instr) (x : DetRec) : Prop :=
      ∃ u, exec i s = .next (settle Config.reactionBound u) ∧ u.det d = x ∧ (∀ e, e ≠ d → u.det e = s.det e)
        ∧ u.dti.ext = u.extWanted ∧ u.dti.fault = u.faultWanted ∧ u.jmc = s.jmc ∧ u.pts = s.pts ∧ u.pri = s.pri
    let on : Prop := r.occupied = true ∧ c.kind ≠ .unused ∧ c.stuckOn ≠ 0 ∧ c.stuckOn ≤ r.sinceChange
    let off : Prop := r.occupied = false ∧ c.kind ≠ .unused ∧ c.stuckOff ≠ 0 ∧ c.stuckOff ≤ r.sinceChange
    (30 ≤ r.silence → r.silent = false ∨ r.settled = false →
      wrote (.silenceConfirmed d) { r with silent := true, settled := true })
    ∧ (¬ (30 ≤ r.silence ∧ (r.silent = false ∨ r.settled = false)) →
      exec (.silenceConfirmed d) s = .next (settle Config.reactionBound s.begun))
    ∧ (on → r.stuckOn = false → wrote (.stuckLimitReached d) { r with stuckOn := true, stuckOff := false })
    ∧ (off → r.stuckOff = false → wrote (.stuckLimitReached d) { r with stuckOn := false, stuckOff := true })
    ∧ (¬ (on ∧ r.stuckOn = false) → ¬ (off ∧ r.stuckOff = false) →
      exec (.stuckLimitReached d) s = .next (settle Config.reactionBound s.begun))
    ∧ (∀ value, wrote (.detectorMask tag (number d) value) { r with mask := value })
    ∧ (∀ n value, n = 0 ∨ 32 < n →
      exec (.detectorMask tag n value) s = .next (settle Config.reactionBound (s.begun.reply 0x0E tag .range)))

/-! ## Modes and start-up -/

/-- MODE_REQUEST by the mode found: a code that names none of the four modes is refused RANGE; while SAFE is dropped every
request is refused FAULT_LATCHED; FLASH is taken in a requested DARK, in the first two phases of a start-up, and by CLEARING
from the third phase, NORMAL and MANUAL; DARK in FLASH, MANUAL in NORMAL, NORMAL in MANUAL, and in FLASH when the start check
passes; every other request is refused WRONG_MODE. A start that is taken goes on in STARTUP unless a fatal source that comes to
be checked there forces FLASH. The reply that names CLEARING is the model's reading (assumption 20), and so is that the idle
transmitter begins the reply before the MODE_CHANGED report (assumption 18). A start in FLASH on a plan that is not yet fit
is decided by the start-plan selection (StartPlanSelectionTakesTheFirstFitSlot). -/
def Obligations.ModeRequestsByMode : Prop :=
  ∀ (tag : Byte) (s : State),
    let m := s.jmc.mode
    let dropped : Prop := m = .dark ∧ s.jmc.darkCause = some .safeDropped
    let refused (code : Nat) (x : Status) : Prop :=
      exec (.modeRequest tag code) s = .next (settle Config.reactionBound (s.begun.reply 0x0A tag x))
    let answered (code : Nat) (result : Mode) (then' : State → Prop) : Prop :=
      ∃ u, exec (.modeRequest tag code) s = .next (settle Config.reactionBound u) ∧ then' u
        ∧ (s.lnk.tx = none → s.lnk.replies = [] →
          u.lnk.tx
            = some (.reply {
                kind := 0x4A, tag := tag, status := .ok, items := [BitVec.ofNat 8 result.code]
                markers := { requestsLost := s.lnk.requestsLost } }))
    let taken (code : Nat) (result : Mode) : Prop := answered code result fun u => u.jmc.mode = result
    let sound : Prop :=
      s.cmon.compareTimer ≠ 0
        ∧ ∀ x ∈ allConds, s.condPresent x = true → SourceSet.has s.monitorStart.fatal x.source = false
    (∀ code, code = 2 ∨ 4 < code → refused code .range)
    ∧ (dropped → refused 0 .faultLatched ∧ refused 1 .faultLatched ∧ refused 3 .faultLatched ∧ refused 4 .faultLatched)
    ∧ (¬ dropped →
      (m = .flash → taken 0 .dark) ∧ (m ≠ .flash → refused 0 .wrongMode)
      ∧ (m = .normal → taken 4 .manual) ∧ (m ≠ .normal → refused 4 .wrongMode)
      ∧ (m = .dark → s.jmc.darkCause = some .verifying → refused 1 .wrongMode)
      ∧ (m = .dark → s.jmc.darkCause = some .noTables → refused 1 .invalid)
      ∧ (m = .dark → s.jmc.darkCause = some .requested → taken 1 .flash)
      ∧ (m = .flash ∨ m = .clearing → refused 1 .wrongMode)
      ∧ (m = .startup → s.jmc.phase = some .startFlashing ∨ s.jmc.phase = some .allRed → taken 1 .flash)
      ∧ (m = .startup → s.jmc.phase = some .firstStage → taken 1 .clearing)
      ∧ (m = .normal ∨ m = .manual → taken 1 .clearing)
      ∧ (m = .manual → taken 3 .normal)
      ∧ (m = .flash → s.cmon.first.isSome = true → refused 3 .faultLatched)
      ∧ (m = .flash → s.cmon.first = none → fitToRun s = true → sound → taken 3 .startup)
      ∧ (m = .flash → s.cmon.first = none → fitToRun s = true →
        answered 3 .startup fun u =>
          u.jmc.mode = .startup ∨ (u.jmc.mode = .flash ∧ u.jmc.phase = none ∧ u.cmon.first.isSome = true))
      ∧ (m ≠ .flash → m ≠ .manual → refused 3 .wrongMode))

/-- The start-plan selection: the start plan, then each VALID slot in number order; the first that is not being written, is
intact and passes the whole-plan check becomes the active plan, on a clamped copy, with PLAN_CHANGED TAKEN. When none passes the
active slot becomes none, with NO_VALID_PLAN, and the detectors and approaches come under no plan if there was one. It changes no
mode. A MODE_REQUEST NORMAL in FLASH on a plan that is not fit to run makes it, and is refused INVALID when it finds none; it
is made at the end of a verification and at a RESTART besides. That the reply of the request enters the link after what the
selection reports is the model's order (assumption 18). -/
def Obligations.StartPlanSelectionTakesTheFirstFitSlot : Prop :=
  ∀ (s : State),
    let fits (n : PlanSlot) (p : Plan) : Prop :=
      s.writingSlot? ≠ some n ∧ (s.slot n).state = .valid ∧ (s.slot n).intact = true ∧ (s.slot n).contents = some p
        ∧ ∃ x, s.pts.tables = some x ∧ wholePlanCheck x p = none
    let chosen (n : PlanSlot) (p : Plan) : Prop :=
      fits n p ∧ (n = s.pts.startPlan
        ∨ ((∀ q, ¬ fits s.pts.startPlan q) ∧ ∀ m q, m < n → ¬ fits m q))
    let nothing : Prop := ∀ n p, ¬ fits n p
    (∀ n p x, s.pts.tables = some x → chosen n p →
      let u := startPlanSelection s
      u.seq.activeSlot = some (slotOf n) ∧ u.pts.activeCopy = some (clampPlan x p).1
      ∧ u.pts.clamped = (clampPlan x p).2 ∧ u.jmc = s.jmc ∧ u.seq.current = s.seq.current
      ∧ u.pts.tables = s.pts.tables ∧ u.pts.trial = s.pts.trial ∧ u.pts.startPlan = s.pts.startPlan
      ∧ (∀ m, (s.slot m).intact = true → u.slot m = s.slot m)
      ∧ ∃ l : List ReportBody,
        u.lnk = ((l.foldl State.report s).report (.planChanged s.seq.activeSlot (slotOf n) .taken)).lnk)
    ∧ (nothing →
      let u := startPlanSelection s
      u.seq.activeSlot = none ∧ u.jmc = s.jmc ∧ u.pts.activeCopy = s.pts.activeCopy
      ∧ (s.seq.activeSlot = none →
        u.lnk = (s.report .noValidPlan).lnk ∧ u.pri = s.pri ∧ u.dti = s.dti ∧ u.notices = s.notices)
      ∧ (s.seq.activeSlot.isSome = true →
        (∀ a, (u.app a).queue = [] ∧ (u.app a).episode = .idle) ∧ (∀ d, (u.det d).ring = [] ∧ (u.det d).count = 0)
        ∧ ∃ l : List ReportBody, u.lnk = (l.foldl State.report (s.report .noValidPlan)).lnk))
    ∧ (s.jmc.mode = .flash → s.cmon.first = none → fitToRun s = false →
      ∀ tag : Byte,
        (nothing →
          ∃ u l, exec (.modeRequest tag 3) s = .next (settle Config.reactionBound u)
            ∧ u.jmc = s.jmc ∧ u.seq.activeSlot = none ∧ (s.seq.activeSlot = none → l = [])
            ∧ u.lnk = ((l.foldl State.report (s.begun.report .noValidPlan)).reply 0x0A tag .invalid).lnk)
        ∧ ∀ n p x, s.pts.tables = some x → chosen n p →
          ∃ u, exec (.modeRequest tag 3) s = .next (settle Config.reactionBound u)
            ∧ u.seq.activeSlot = some (slotOf n) ∧ u.pts.activeCopy = some (clampPlan x p).1
            ∧ u.pts.clamped = (clampPlan x p).2
            ∧ (u.jmc.mode = .startup ∨ (u.jmc.mode = .flash ∧ u.jmc.phase = none ∧ u.cmon.first.isSome = true)))
    ∧ (∀ x, s.pts.verify = some 0 → verifiedTables s.pts = some x → x.monitor.autostart = false →
      ∃ w, exec .verificationEnd s = .next (settle Config.reactionBound (startPlanSelection w))
        ∧ w.jmc.mode = .flash ∧ w.seq.activeSlot = s.seq.activeSlot ∧ w.pts.tables = some x
        ∧ w.pts.startPlan = s.pts.startPlan ∧ w.pts.write = s.pts.write
        ∧ ∀ n, w.slot n =
            if (s.slot n).state = .valid ∧ (s.slot n).intact = false then { s.slot n with state := .invalid }
            else s.slot n)
    ∧ ∀ tag x, s.pts.tables = some x → x.monitor.autostart = false → s.jmc.mode = .flash ∨ s.jmc.mode = .dark →
      s.jmc.darkCause ≠ some .verifying → s.jmc.darkCause ≠ some .safeDropped → s.cmon.first = none →
      ∃ w, exec (.restart tag) s = .next (settle Config.reactionBound (startPlanSelection w))
        ∧ w.jmc.mode = .flash ∧ w.seq.activeSlot = none ∧ w.pts = s.pts

/-- Start-up and RESTART: the expiry of START_FLASHING begins ALL_RED, which takes every present group to its stop aspect with
START_CLEAR to run and begins the transition to START_STAGE; the expiry of ALL_RED begins FIRST_STAGE. RESTART is refused
WRONG_MODE outside FLASH and DARK, BUSY while the store is verified and FAULT_LATCHED with a fault, and otherwise
reinitialises the running blocks, to FLASH with tables in force and to DARK without, keeping CMON's record but for what the
entry into FLASH makes occur. That an expiry not due changes nothing is the model's choice (assumption 7). A RESTART with
AUTOSTART in the tables is stated only in what it keeps and sets before the start. -/
def Obligations.StartUpPhasesAndRestart : Prop :=
  ∀ (s : State),
    (s.jmc.mode = .startup → s.jmc.phase = some .startFlashing → s.jmc.timer = 0 →
      ∃ u, exec .startFlashingExpiry s = .next (settle Config.reactionBound u)
        ∧ u.jmc.mode = .startup ∧ u.jmc.phase = some .allRed ∧ u.jmc.timer = s.monitorStart.startClear
        ∧ u.seq.current = some s.sequence.startStage ∧ u.seq.groups = s.stageGroups s.sequence.startStage
        ∧ u.seq.level = 0 ∧ u.dti = s.dti ∧ u.pri = s.pri ∧ u.pts = s.pts
        ∧ (∀ g, s.present g = true → 30 < s.monitorStart.startClear → (s.groupDef g).opent ≤ 30 →
            (u.grp g).state = .closed ∧ (u.grp g).cr = s.monitorStart.startClear))
    ∧ (¬ (s.jmc.mode = .startup ∧ s.jmc.phase = some .startFlashing ∧ s.jmc.timer = 0) →
      exec .startFlashingExpiry s = .next (settle Config.reactionBound s.begun))
    ∧ (s.jmc.mode = .startup → s.jmc.phase = some .allRed → s.jmc.timer = 0 →
      exec .allRedExpiry s
        = .next (settle Config.reactionBound
            { s.begun.report (.modeChanged .startup .startup (some .firstStage) none .phase) with
              jmc := { s.jmc with phase := some .firstStage, timer := 0 }
              notices := s.notices ++ [.watch] }))
    ∧ (¬ (s.jmc.mode = .startup ∧ s.jmc.phase = some .allRed ∧ s.jmc.timer = 0) →
      exec .allRedExpiry s = .next (settle Config.reactionBound s.begun))
    ∧ ∀ tag : Byte,
      let refused (x : Status) : Prop :=
        exec (.restart tag) s = .next (settle Config.reactionBound (s.begun.reply 0x14 tag x))
      (s.jmc.mode ≠ .flash → s.jmc.mode ≠ .dark → refused .wrongMode)
      ∧ (s.jmc.mode = .flash ∨ s.jmc.mode = .dark →
        (s.jmc.darkCause = some .verifying → refused .busy)
        ∧ (s.jmc.darkCause ≠ some .verifying →
          (s.jmc.darkCause = some .safeDropped ∨ s.cmon.first.isSome = true → refused .faultLatched)
          ∧ (s.jmc.darkCause ≠ some .safeDropped → s.cmon.first = none →
            ∃ u, exec (.restart tag) s = .next (settle Config.reactionBound u)
              ∧ u.seq.stack = [] ∧ u.pri.calls = [] ∧ (∀ a, (u.app a).queue = [])
              ∧ (∀ d, (u.det d).settled = false) ∧ u.time = s.time
              ∧ u.pts.tables = s.pts.tables
              ∧ (∀ f, SourceSet.has s.cmon.latched f = true → SourceSet.has u.cmon.latched f = true)
              ∧ (s.cmon.lockout = true → u.cmon.lockout = true)
              ∧ (s.pts.tables = none → u.cmon.latched = s.cmon.latched ∧ u.cmon.lockout = s.cmon.lockout)
              ∧ ((∀ x, s.pts.tables = some x → x.monitor.autostart = false) →
                (∀ g, s.present g = true → (s.mon g).silence < 10) →
                u.cmon.latched = s.cmon.latched ∧ u.cmon.lockout = s.cmon.lockout ∧ u.cmon.first = none)
              ∧ (s.pts.tables = none →
                u.jmc = { s.jmc with
                  mode := .dark, darkCause := some .noTables, phase := none, timer := 0, firstRunning := false }
                ∧ u.sge = Sge.reset ∧ u.seq.current = none ∧ u.pts.write = s.pts.write)
              ∧ (∀ x, s.pts.tables = some x → x.monitor.autostart = false →
                u.jmc.mode = .flash ∧ u.jmc.darkCause = none ∧ u.jmc.safeRequest = true
                ∧ u.seq.current = none ∧ u.pts.write = s.pts.write
                ∧ ∀ g, (u.grp g).state = if x.groups[g].present then .flash else .dark))))

/-! ## The conflict monitor -/

/-- A lamp sense record replaces the sensed lamps of its group and sets its silence timer to 0, and a go-lamp end raises the
shadow clearance of every conflicting group to at least the intergreen less a pedestrian's CLOSE, with the group as shadow
source where that raises it; a record that fails parity or names no group is discarded. -/
def Obligations.SenseRecordsRaiseTheShadow : Prop :=
  ∀ (s : State) (red amber go current : Bool),
    (∀ n parity, n = 0 ∨ 24 < n →
      exec (.lampSenseRecord n red amber go current parity) s = .next (settle Config.reactionBound s.begun))
    ∧ ∀ e : GroupId,
      exec (.lampSenseRecord (number e) red amber go current false) s = .next (settle Config.reactionBound s.begun)
      ∧ ∃ u, exec (.lampSenseRecord (number e) red amber go current true) s = .next (settle Config.reactionBound u)
        ∧ (u.mon e).red = red ∧ (u.mon e).amber = amber ∧ (u.mon e).go = go ∧ (u.mon e).redCurrent = current
        ∧ (u.mon e).arrival = s.time ∧ (u.mon e).silence = 0
        ∧ (∀ b, b ≠ e →
            let raised := s.ig e b - if s.kind e = .pedestrian then (s.groupDef e).close else 0
            u.mon b
              = if s.present e = true ∧ (s.mon e).go = true ∧ go = false ∧ GroupSet.has (s.conflicts e) b = true
                  ∧ (s.mon b).scr < raised then
                { s.mon b with scr := raised, source := some e }
              else s.mon b)
        ∧ u.notices = s.notices ++ [.evaluate] ∧ u.sge = s.begun.sge ∧ u.jmc = s.jmc ∧ u.dti = s.dti
        ∧ u.seq = s.seq ∧ u.pri = s.pri ∧ u.pts = s.pts ∧ u.lnk = s.lnk
        ∧ u.cmon.latched = s.cmon.latched ∧ u.cmon.first = s.cmon.first

/-- A mismatch timer above MTOL and a silence timer at 10 make their sources occur, once until the condition ends, and what has
become present at the same moment occurs with them; that a comparison due at that moment is ended first is the model's
reading (assumption 30). Each source is added to the
latched set; the first fatal one becomes the first fault if there is none and forces FLASH, and one within the restart window
sets lockout. So it is when CMON's own look finds conditions that count and have not occurred. Conditions that do not count
or have occurred change nothing (assumptions 7 and 32). Which of several fatal ones is the first fault is left open
(assumption 2). Each condition, the difference behind each mismatch timer, and the modes in which a source is checked are
written out. -/
def Obligations.MismatchAndSilenceOccurOnce : Prop :=
  ∀ (s : State) (g : GroupId),
    let counts (x : Cond) : Prop := s.condCounts x = true ∧ x ∉ s.cmon.counted
    let looked (w u : State) : Prop :=
      let found (x : Cond) : Prop :=
        x ∈ allConds ∧ (comparedIfDue w).condCounts x = true ∧ x ∉ (comparedIfDue w).cmon.counted
      let fatal (x : Cond) : Bool := SourceSet.has w.monitorStart.fatal x.source
      (∀ x, found x → SourceSet.has u.cmon.latched x.source = true ∧ (u.condCounts x = true → x ∈ u.cmon.counted))
      ∧ (∀ f, SourceSet.has w.cmon.latched f = true → SourceSet.has u.cmon.latched f = true)
      ∧ ((∃ x, found x ∧ fatal x = true) →
        (w.cmon.first.isSome = true → u.cmon.first = w.cmon.first)
        ∧ (w.cmon.first = none → ∃ x, found x ∧ fatal x = true
            ∧ u.cmon.first = some { source := x.source, groups := condGroups w x, time := w.time })
        ∧ (0 < w.cmon.window → u.cmon.lockout = true) ∧ u.jmc.mode = .flash)
      ∧ ((∀ x, found x → fatal x = false) →
        u.cmon.first = w.cmon.first ∧ u.cmon.lockout = w.cmon.lockout ∧ u.jmc = w.jmc ∧ u.sge = w.sge)
    let occurs (i : Instr) (l : List Cond) : Prop :=
      ((∀ x ∈ l, ¬ counts x) → exec i s = .next (settle Config.reactionBound s.begun))
      ∧ ((∃ x ∈ l, counts x) →
        ∃ u, exec i s = .next (settle Config.reactionBound u) ∧ looked s.begun u
          ∧ ∀ x ∈ l, counts x → SourceSet.has u.cmon.latched x.source = true)
    occurs (.mismatchTimerExceeds g) [.goMismatch g, .aspectMismatch g, .redOut g]
    ∧ occurs (.senseSilence g) [.senseSilent g]
    ∧ ((∀ x ∈ allConds, ¬ counts x) → handle .evaluate s = s)
    ∧ ((∃ x ∈ allConds, counts x) → looked s (handle .evaluate s))
    ∧ (let checked (f : FaultSource) : Prop :=
        (s.jmc.mode ≠ .dark ∧ s.jmc.mode ≠ .flash) ∨ (s.jmc.mode = .flash ∧ (f = .goMismatch ∨ f = .senseSilent))
      let seen : Prop := s.jmc.mode ≠ .dark ∧ s.present g = true
      let m := s.mon g
      let a := s.sge.lamps[g].aspect
      (∀ x, s.condCounts x = true ↔ checked x.source ∧ s.condPresent x = true)
      ∧ (∀ h, s.condPresent (.conflictGo g h) = true ↔
          seen ∧ s.present h = true ∧ GroupSet.has (s.conflicts g) h = true ∧ m.go = true ∧ (s.mon h).go = true)
      ∧ (s.condPresent (.intergreenShort g) = true ↔ seen ∧ m.go = true ∧ s.monitorStart.mtol < m.scr)
      ∧ (s.condPresent (.goMismatch g) = true ↔ seen ∧ s.monitorStart.mtol < m.goTimer)
      ∧ (s.condPresent (.aspectMismatch g) = true ↔ seen ∧ s.monitorStart.mtol < m.aspectTimer)
      ∧ (s.condPresent (.redOut g) = true ↔ seen ∧ s.monitorStart.mtol < m.redTimer)
      ∧ (s.condPresent (.senseSilent g) = true ↔ seen ∧ 10 ≤ m.silence)
      ∧ (s.condPresent .tableIntegrity = true ↔ s.cmon.integrity = true)
      ∧ (s.goDiffers g = true ↔ m.go = true ∧ a.litGo = false)
      ∧ (s.aspectDiffers g = true ↔ (a.litGo = true ∧ m.go = false) ∨ a.litRed ≠ m.red ∨ a.litAmber ≠ m.amber)
      ∧ (s.redOutDiffers g = true ↔
          (s.kind g = .vehicle ∨ s.kind g = .pedestrian) ∧ a.litRed = true ∧ m.redCurrent = false)
      ∧ ∀ x, x ∈ allConds ↔ ∀ k h, x = .conflictGo k h → k < h)

/-- A comparison that completes sets the condition TABLE_INTEGRITY by whether the working copy's CRC differs from the check
value stored with its area, and begins the next; that it does so in DARK too is the model's choice (assumption 43). A comparison
with time left changes nothing (assumption 7). A shadow clearance that falls makes CMON forget, of the conditions it has counted
(the model's own set, assumption 32), those that are no longer present, sets the SAFE drop timer to 0 while no GO_MISMATCH is
present, and changes nothing else. -/
def Obligations.ComparisonAndShadowEnd : Prop :=
  ∀ (s : State),
    (∀ x y, s.pts.tables = some x → s.pts.areas[s.pts.currentArea] = some y → s.cmon.compareTimer = 0 →
      ∃ u, exec .integrityComparison s = .next (settle Config.reactionBound u)
        ∧ u.cmon.compareTimer = 50 ∧ u.cmon.integrity = decide (crc (bytesTables x) ≠ y.check)
        ∧ u.pts.tables = s.pts.tables
        ∧ (crc (bytesTables x) = y.check → u.jmc = s.jmc ∧ u.cmon.latched = s.cmon.latched))
    ∧ (s.pts.tables = none ∨ s.cmon.compareTimer ≠ 0 →
      exec .integrityComparison s = .next (settle Config.reactionBound s.begun))
    ∧ ∀ g, ∃ t, exec (.shadowClearanceFallsToMtol g) s = .next t
      ∧ (∀ c, c ∈ t.cmon.counted ↔ c ∈ s.cmon.counted ∧ s.condPresent c = true)
      ∧ t.cmon.recs = s.cmon.recs ∧ t.cmon.latched = s.cmon.latched ∧ t.cmon.first = s.cmon.first
      ∧ ((∃ h, s.condPresent (.goMismatch h) = true) → t.cmon.dropTimer = s.cmon.dropTimer)
      ∧ ((∀ h, s.condPresent (.goMismatch h) = false) → t.cmon.dropTimer = 0)
      ∧ SameOutsideGroups s t ∧ t.sge = s.begun.sge ∧ t.notices = s.notices

/-- FAULT_CLEAR in the order of its rows; SAFE is dropped when a GO_MISMATCH has stood for 30 tenths in FLASH, which makes the
junction dark for good; the end of the restart window has no other effect. That a SAFE_DROP not due changes nothing, and that
the last tenth of the window is its event's to count, are the model's choices (assumptions 7 and 14). -/
def Obligations.FaultClearAndSafeDrop : Prop :=
  ∀ (tag : Byte) (s : State),
    let clear := exec (.faultClear tag) s
    let persists (f : FaultSource) : Prop :=
      SourceSet.has s.monitorStart.fatal f = true ∧ ∃ c, c.source = f ∧ c ∈ allConds ∧ s.condPresent c = true
    (s.jmc.mode ≠ .flash → clear = .next (s.begun.reply 0x13 tag .wrongMode))
    ∧ (s.jmc.mode = .flash →
      (∀ f, persists f → (∀ f', f'.code < f.code → ¬ persists f') →
        clear = .next (s.begun.reply 0x13 tag .faultPersists [BitVec.ofNat 8 f.code]))
      ∧ ((∀ f, ¬ persists f) →
        (s.cmon.lockout = true → s.pins.commission = false → clear = .next (s.begun.reply 0x13 tag .noStrap))
        ∧ (s.cmon.lockout = false ∨ s.pins.commission = true →
          (s.cmon.first = none → s.cmon.latched = 0 →
            clear = .next (s.begun.reply 0x13 tag .ok [] { nothing := true }))
          ∧ (s.cmon.first.isSome = true ∨ s.cmon.latched ≠ 0 →
            clear = .next ({ s.begun with
              cmon := { s.cmon with
                first := none, latched := 0, lockout := false, window := 6000 } }.reply 0x13 tag .ok)))))
    ∧ (s.jmc.mode = .flash → 30 ≤ s.cmon.dropTimer →
      (∀ g, s.condPresent (.goMismatch g) = true → (∀ h, h < g → s.condPresent (.goMismatch h) = false) →
        ∃ u, exec .safeDrop s = .next (settle Config.reactionBound u)
          ∧ u.cmon.safeDropped = true ∧ u.safeOutput = false ∧ u.jmc.mode = .dark
          ∧ u.jmc.darkCause = some .safeDropped ∧ SourceSet.has u.cmon.latched .goMismatch = true
          ∧ u.cmon.first = (match s.cmon.first with
            | some f => some f
            | none => some { source := .goMismatch, groups := [g], time := s.time })
          ∧ (u.cmon.lockout = true ↔ s.cmon.lockout = true ∨ 0 < s.cmon.window)
          ∧ (∀ h, (u.grp h).state = .dark) ∧ u.dti = s.dti ∧ u.pri = s.pri ∧ u.pts = s.pts))
    ∧ (¬ (s.jmc.mode = .flash ∧ 30 ≤ s.cmon.dropTimer ∧ ∃ g, s.condPresent (.goMismatch g) = true) →
      exec .safeDrop s = .next (settle Config.reactionBound s.begun))
    ∧ exec .restartWindowEnd s
      = .next { s.begun with cmon := { s.cmon with window := if s.cmon.window = 1 then 0 else s.cmon.window } }
end

