-- ==== Sys2Proof/Laws/State.lean ====
section
/-! SUPPORT. What each update of State leaves in each field, true by unfolding, and what reading one record gives after
one record is written. Later proofs cite these and never unfold an update. -/

namespace Sys2Proof.Machine.State

variable (s : State)

/-! ## One block written -/

@[simp] theorem onSge_pending (f : Sge → Sge) : (s.onSge f).pending = s.pending := rfl
@[simp] theorem onSge_notices (f : Sge → Sge) : (s.onSge f).notices = s.notices := rfl
@[simp] theorem onSge_tie (f : Sge → Sge) : (s.onSge f).tie = s.tie := rfl
@[simp] theorem onSge_time (f : Sge → Sge) : (s.onSge f).time = s.time := rfl
@[simp] theorem onSge_pins (f : Sge → Sge) : (s.onSge f).pins = s.pins := rfl
@[simp] theorem onSge_sge (f : Sge → Sge) : (s.onSge f).sge = f s.sge := rfl
@[simp] theorem onSge_dti (f : Sge → Sge) : (s.onSge f).dti = s.dti := rfl
@[simp] theorem onSge_seq (f : Sge → Sge) : (s.onSge f).seq = s.seq := rfl
@[simp] theorem onSge_pri (f : Sge → Sge) : (s.onSge f).pri = s.pri := rfl
@[simp] theorem onSge_cmon (f : Sge → Sge) : (s.onSge f).cmon = s.cmon := rfl
@[simp] theorem onSge_jmc (f : Sge → Sge) : (s.onSge f).jmc = s.jmc := rfl
@[simp] theorem onSge_pts (f : Sge → Sge) : (s.onSge f).pts = s.pts := rfl
@[simp] theorem onSge_lnk (f : Sge → Sge) : (s.onSge f).lnk = s.lnk := rfl
@[simp] theorem onDti_pending (f : Dti → Dti) : (s.onDti f).pending = s.pending := rfl
@[simp] theorem onDti_notices (f : Dti → Dti) : (s.onDti f).notices = s.notices := rfl
@[simp] theorem onDti_tie (f : Dti → Dti) : (s.onDti f).tie = s.tie := rfl
@[simp] theorem onDti_time (f : Dti → Dti) : (s.onDti f).time = s.time := rfl
@[simp] theorem onDti_pins (f : Dti → Dti) : (s.onDti f).pins = s.pins := rfl
@[simp] theorem onDti_sge (f : Dti → Dti) : (s.onDti f).sge = s.sge := rfl
@[simp] theorem onDti_dti (f : Dti → Dti) : (s.onDti f).dti = f s.dti := rfl
@[simp] theorem onDti_seq (f : Dti → Dti) : (s.onDti f).seq = s.seq := rfl
@[simp] theorem onDti_pri (f : Dti → Dti) : (s.onDti f).pri = s.pri := rfl
@[simp] theorem onDti_cmon (f : Dti → Dti) : (s.onDti f).cmon = s.cmon := rfl
@[simp] theorem onDti_jmc (f : Dti → Dti) : (s.onDti f).jmc = s.jmc := rfl
@[simp] theorem onDti_pts (f : Dti → Dti) : (s.onDti f).pts = s.pts := rfl
@[simp] theorem onDti_lnk (f : Dti → Dti) : (s.onDti f).lnk = s.lnk := rfl
@[simp] theorem onSeq_pending (f : Seq → Seq) : (s.onSeq f).pending = s.pending := rfl
@[simp] theorem onSeq_notices (f : Seq → Seq) : (s.onSeq f).notices = s.notices := rfl
@[simp] theorem onSeq_tie (f : Seq → Seq) : (s.onSeq f).tie = s.tie := rfl
@[simp] theorem onSeq_time (f : Seq → Seq) : (s.onSeq f).time = s.time := rfl
@[simp] theorem onSeq_pins (f : Seq → Seq) : (s.onSeq f).pins = s.pins := rfl
@[simp] theorem onSeq_sge (f : Seq → Seq) : (s.onSeq f).sge = s.sge := rfl
@[simp] theorem onSeq_dti (f : Seq → Seq) : (s.onSeq f).dti = s.dti := rfl
@[simp] theorem onSeq_seq (f : Seq → Seq) : (s.onSeq f).seq = f s.seq := rfl
@[simp] theorem onSeq_pri (f : Seq → Seq) : (s.onSeq f).pri = s.pri := rfl
@[simp] theorem onSeq_cmon (f : Seq → Seq) : (s.onSeq f).cmon = s.cmon := rfl
@[simp] theorem onSeq_jmc (f : Seq → Seq) : (s.onSeq f).jmc = s.jmc := rfl
@[simp] theorem onSeq_pts (f : Seq → Seq) : (s.onSeq f).pts = s.pts := rfl
@[simp] theorem onSeq_lnk (f : Seq → Seq) : (s.onSeq f).lnk = s.lnk := rfl
@[simp] theorem onPri_pending (f : Pri → Pri) : (s.onPri f).pending = s.pending := rfl
@[simp] theorem onPri_notices (f : Pri → Pri) : (s.onPri f).notices = s.notices := rfl
@[simp] theorem onPri_tie (f : Pri → Pri) : (s.onPri f).tie = s.tie := rfl
@[simp] theorem onPri_time (f : Pri → Pri) : (s.onPri f).time = s.time := rfl
@[simp] theorem onPri_pins (f : Pri → Pri) : (s.onPri f).pins = s.pins := rfl
@[simp] theorem onPri_sge (f : Pri → Pri) : (s.onPri f).sge = s.sge := rfl
@[simp] theorem onPri_dti (f : Pri → Pri) : (s.onPri f).dti = s.dti := rfl
@[simp] theorem onPri_seq (f : Pri → Pri) : (s.onPri f).seq = s.seq := rfl
@[simp] theorem onPri_pri (f : Pri → Pri) : (s.onPri f).pri = f s.pri := rfl
@[simp] theorem onPri_cmon (f : Pri → Pri) : (s.onPri f).cmon = s.cmon := rfl
@[simp] theorem onPri_jmc (f : Pri → Pri) : (s.onPri f).jmc = s.jmc := rfl
@[simp] theorem onPri_pts (f : Pri → Pri) : (s.onPri f).pts = s.pts := rfl
@[simp] theorem onPri_lnk (f : Pri → Pri) : (s.onPri f).lnk = s.lnk := rfl
@[simp] theorem onCmon_pending (f : Cmon → Cmon) : (s.onCmon f).pending = s.pending := rfl
@[simp] theorem onCmon_notices (f : Cmon → Cmon) : (s.onCmon f).notices = s.notices := rfl
@[simp] theorem onCmon_tie (f : Cmon → Cmon) : (s.onCmon f).tie = s.tie := rfl
@[simp] theorem onCmon_time (f : Cmon → Cmon) : (s.onCmon f).time = s.time := rfl
@[simp] theorem onCmon_pins (f : Cmon → Cmon) : (s.onCmon f).pins = s.pins := rfl
@[simp] theorem onCmon_sge (f : Cmon → Cmon) : (s.onCmon f).sge = s.sge := rfl
@[simp] theorem onCmon_dti (f : Cmon → Cmon) : (s.onCmon f).dti = s.dti := rfl
@[simp] theorem onCmon_seq (f : Cmon → Cmon) : (s.onCmon f).seq = s.seq := rfl
@[simp] theorem onCmon_pri (f : Cmon → Cmon) : (s.onCmon f).pri = s.pri := rfl
@[simp] theorem onCmon_cmon (f : Cmon → Cmon) : (s.onCmon f).cmon = f s.cmon := rfl
@[simp] theorem onCmon_jmc (f : Cmon → Cmon) : (s.onCmon f).jmc = s.jmc := rfl
@[simp] theorem onCmon_pts (f : Cmon → Cmon) : (s.onCmon f).pts = s.pts := rfl
@[simp] theorem onCmon_lnk (f : Cmon → Cmon) : (s.onCmon f).lnk = s.lnk := rfl
@[simp] theorem onJmc_pending (f : Jmc → Jmc) : (s.onJmc f).pending = s.pending := rfl
@[simp] theorem onJmc_notices (f : Jmc → Jmc) : (s.onJmc f).notices = s.notices := rfl
@[simp] theorem onJmc_tie (f : Jmc → Jmc) : (s.onJmc f).tie = s.tie := rfl
@[simp] theorem onJmc_time (f : Jmc → Jmc) : (s.onJmc f).time = s.time := rfl
@[simp] theorem onJmc_pins (f : Jmc → Jmc) : (s.onJmc f).pins = s.pins := rfl
@[simp] theorem onJmc_sge (f : Jmc → Jmc) : (s.onJmc f).sge = s.sge := rfl
@[simp] theorem onJmc_dti (f : Jmc → Jmc) : (s.onJmc f).dti = s.dti := rfl
@[simp] theorem onJmc_seq (f : Jmc → Jmc) : (s.onJmc f).seq = s.seq := rfl
@[simp] theorem onJmc_pri (f : Jmc → Jmc) : (s.onJmc f).pri = s.pri := rfl
@[simp] theorem onJmc_cmon (f : Jmc → Jmc) : (s.onJmc f).cmon = s.cmon := rfl
@[simp] theorem onJmc_jmc (f : Jmc → Jmc) : (s.onJmc f).jmc = f s.jmc := rfl
@[simp] theorem onJmc_pts (f : Jmc → Jmc) : (s.onJmc f).pts = s.pts := rfl
@[simp] theorem onJmc_lnk (f : Jmc → Jmc) : (s.onJmc f).lnk = s.lnk := rfl
@[simp] theorem onPts_pending (f : Pts → Pts) : (s.onPts f).pending = s.pending := rfl
@[simp] theorem onPts_notices (f : Pts → Pts) : (s.onPts f).notices = s.notices := rfl
@[simp] theorem onPts_tie (f : Pts → Pts) : (s.onPts f).tie = s.tie := rfl
@[simp] theorem onPts_time (f : Pts → Pts) : (s.onPts f).time = s.time := rfl
@[simp] theorem onPts_pins (f : Pts → Pts) : (s.onPts f).pins = s.pins := rfl
@[simp] theorem onPts_sge (f : Pts → Pts) : (s.onPts f).sge = s.sge := rfl
@[simp] theorem onPts_dti (f : Pts → Pts) : (s.onPts f).dti = s.dti := rfl
@[simp] theorem onPts_seq (f : Pts → Pts) : (s.onPts f).seq = s.seq := rfl
@[simp] theorem onPts_pri (f : Pts → Pts) : (s.onPts f).pri = s.pri := rfl
@[simp] theorem onPts_cmon (f : Pts → Pts) : (s.onPts f).cmon = s.cmon := rfl
@[simp] theorem onPts_jmc (f : Pts → Pts) : (s.onPts f).jmc = s.jmc := rfl
@[simp] theorem onPts_pts (f : Pts → Pts) : (s.onPts f).pts = f s.pts := rfl
@[simp] theorem onPts_lnk (f : Pts → Pts) : (s.onPts f).lnk = s.lnk := rfl
@[simp] theorem onLnk_pending (f : Lnk → Lnk) : (s.onLnk f).pending = s.pending := rfl
@[simp] theorem onLnk_notices (f : Lnk → Lnk) : (s.onLnk f).notices = s.notices := rfl
@[simp] theorem onLnk_tie (f : Lnk → Lnk) : (s.onLnk f).tie = s.tie := rfl
@[simp] theorem onLnk_time (f : Lnk → Lnk) : (s.onLnk f).time = s.time := rfl
@[simp] theorem onLnk_pins (f : Lnk → Lnk) : (s.onLnk f).pins = s.pins := rfl
@[simp] theorem onLnk_sge (f : Lnk → Lnk) : (s.onLnk f).sge = s.sge := rfl
@[simp] theorem onLnk_dti (f : Lnk → Lnk) : (s.onLnk f).dti = s.dti := rfl
@[simp] theorem onLnk_seq (f : Lnk → Lnk) : (s.onLnk f).seq = s.seq := rfl
@[simp] theorem onLnk_pri (f : Lnk → Lnk) : (s.onLnk f).pri = s.pri := rfl
@[simp] theorem onLnk_cmon (f : Lnk → Lnk) : (s.onLnk f).cmon = s.cmon := rfl
@[simp] theorem onLnk_jmc (f : Lnk → Lnk) : (s.onLnk f).jmc = s.jmc := rfl
@[simp] theorem onLnk_pts (f : Lnk → Lnk) : (s.onLnk f).pts = s.pts := rfl
@[simp] theorem onLnk_lnk (f : Lnk → Lnk) : (s.onLnk f).lnk = f s.lnk := rfl

/-! ## A notice sent -/

@[simp] theorem push_pending (n : Notice) : (s.push n).pending = s.pending := rfl
@[simp] theorem push_notices (n : Notice) : (s.push n).notices = s.notices ++ [n] := rfl
@[simp] theorem push_tie (n : Notice) : (s.push n).tie = s.tie := rfl
@[simp] theorem push_time (n : Notice) : (s.push n).time = s.time := rfl
@[simp] theorem push_pins (n : Notice) : (s.push n).pins = s.pins := rfl
@[simp] theorem push_sge (n : Notice) : (s.push n).sge = s.sge := rfl
@[simp] theorem push_dti (n : Notice) : (s.push n).dti = s.dti := rfl
@[simp] theorem push_seq (n : Notice) : (s.push n).seq = s.seq := rfl
@[simp] theorem push_pri (n : Notice) : (s.push n).pri = s.pri := rfl
@[simp] theorem push_cmon (n : Notice) : (s.push n).cmon = s.cmon := rfl
@[simp] theorem push_jmc (n : Notice) : (s.push n).jmc = s.jmc := rfl
@[simp] theorem push_pts (n : Notice) : (s.push n).pts = s.pts := rfl
@[simp] theorem push_lnk (n : Notice) : (s.push n).lnk = s.lnk := rfl

/-! ## A command begun -/

@[simp] theorem begun_pending : s.begun.pending = s.pending := rfl
@[simp] theorem begun_notices : s.begun.notices = s.notices := rfl
@[simp] theorem begun_tie : s.begun.tie = s.tie := rfl
@[simp] theorem begun_time : s.begun.time = s.time := rfl
@[simp] theorem begun_pins : s.begun.pins = s.pins := rfl
@[simp] theorem begun_sge : s.begun.sge = { s.sge with lampLine := [] } := rfl
@[simp] theorem begun_dti : s.begun.dti = s.dti := rfl
@[simp] theorem begun_seq : s.begun.seq = s.seq := rfl
@[simp] theorem begun_pri : s.begun.pri = s.pri := rfl
@[simp] theorem begun_cmon : s.begun.cmon = s.cmon := rfl
@[simp] theorem begun_jmc : s.begun.jmc = s.jmc := rfl
@[simp] theorem begun_pts : s.begun.pts = s.pts := rfl
@[simp] theorem begun_lnk : s.begun.lnk = s.lnk := rfl

/-! ## A report or a reply sent -/

@[simp] theorem report_pending (b : ReportBody) : (s.report b).pending = s.pending := rfl
@[simp] theorem report_notices (b : ReportBody) : (s.report b).notices = s.notices := rfl
@[simp] theorem report_tie (b : ReportBody) : (s.report b).tie = s.tie := rfl
@[simp] theorem report_time (b : ReportBody) : (s.report b).time = s.time := rfl
@[simp] theorem report_pins (b : ReportBody) : (s.report b).pins = s.pins := rfl
@[simp] theorem report_sge (b : ReportBody) : (s.report b).sge = s.sge := rfl
@[simp] theorem report_dti (b : ReportBody) : (s.report b).dti = s.dti := rfl
@[simp] theorem report_seq (b : ReportBody) : (s.report b).seq = s.seq := rfl
@[simp] theorem report_pri (b : ReportBody) : (s.report b).pri = s.pri := rfl
@[simp] theorem report_cmon (b : ReportBody) : (s.report b).cmon = s.cmon := rfl
@[simp] theorem report_jmc (b : ReportBody) : (s.report b).jmc = s.jmc := rfl
@[simp] theorem report_pts (b : ReportBody) : (s.report b).pts = s.pts := rfl
@[simp] theorem report_lnk (b : ReportBody) : (s.report b).lnk = (s.lnk.accept { time := s.time, body := b }).begin' := rfl
@[simp] theorem reply_pending (code tag : Byte) (st : Status) (items : List Byte) (m : Markers) :
    (s.reply code tag st items m).pending = s.pending := rfl
@[simp] theorem reply_notices (code tag : Byte) (st : Status) (items : List Byte) (m : Markers) :
    (s.reply code tag st items m).notices = s.notices := rfl
@[simp] theorem reply_tie (code tag : Byte) (st : Status) (items : List Byte) (m : Markers) :
    (s.reply code tag st items m).tie = s.tie := rfl
@[simp] theorem reply_time (code tag : Byte) (st : Status) (items : List Byte) (m : Markers) :
    (s.reply code tag st items m).time = s.time := rfl
@[simp] theorem reply_pins (code tag : Byte) (st : Status) (items : List Byte) (m : Markers) :
    (s.reply code tag st items m).pins = s.pins := rfl
@[simp] theorem reply_sge (code tag : Byte) (st : Status) (items : List Byte) (m : Markers) :
    (s.reply code tag st items m).sge = s.sge := rfl
@[simp] theorem reply_dti (code tag : Byte) (st : Status) (items : List Byte) (m : Markers) :
    (s.reply code tag st items m).dti = s.dti := rfl
@[simp] theorem reply_seq (code tag : Byte) (st : Status) (items : List Byte) (m : Markers) :
    (s.reply code tag st items m).seq = s.seq := rfl
@[simp] theorem reply_pri (code tag : Byte) (st : Status) (items : List Byte) (m : Markers) :
    (s.reply code tag st items m).pri = s.pri := rfl
@[simp] theorem reply_cmon (code tag : Byte) (st : Status) (items : List Byte) (m : Markers) :
    (s.reply code tag st items m).cmon = s.cmon := rfl
@[simp] theorem reply_jmc (code tag : Byte) (st : Status) (items : List Byte) (m : Markers) :
    (s.reply code tag st items m).jmc = s.jmc := rfl
@[simp] theorem reply_pts (code tag : Byte) (st : Status) (items : List Byte) (m : Markers) :
    (s.reply code tag st items m).pts = s.pts := rfl

/-! ## One record written -/

@[simp] theorem onGrp_pending (g : GroupId) (f : GroupRec → GroupRec) : (s.onGrp g f).pending = s.pending := rfl
@[simp] theorem onGrp_notices (g : GroupId) (f : GroupRec → GroupRec) : (s.onGrp g f).notices = s.notices := rfl
@[simp] theorem onGrp_tie (g : GroupId) (f : GroupRec → GroupRec) : (s.onGrp g f).tie = s.tie := rfl
@[simp] theorem onGrp_time (g : GroupId) (f : GroupRec → GroupRec) : (s.onGrp g f).time = s.time := rfl
@[simp] theorem onGrp_pins (g : GroupId) (f : GroupRec → GroupRec) : (s.onGrp g f).pins = s.pins := rfl
@[simp] theorem onGrp_dti (g : GroupId) (f : GroupRec → GroupRec) : (s.onGrp g f).dti = s.dti := rfl
@[simp] theorem onGrp_seq (g : GroupId) (f : GroupRec → GroupRec) : (s.onGrp g f).seq = s.seq := rfl
@[simp] theorem onGrp_pri (g : GroupId) (f : GroupRec → GroupRec) : (s.onGrp g f).pri = s.pri := rfl
@[simp] theorem onGrp_cmon (g : GroupId) (f : GroupRec → GroupRec) : (s.onGrp g f).cmon = s.cmon := rfl
@[simp] theorem onGrp_jmc (g : GroupId) (f : GroupRec → GroupRec) : (s.onGrp g f).jmc = s.jmc := rfl
@[simp] theorem onGrp_pts (g : GroupId) (f : GroupRec → GroupRec) : (s.onGrp g f).pts = s.pts := rfl
@[simp] theorem onGrp_lnk (g : GroupId) (f : GroupRec → GroupRec) : (s.onGrp g f).lnk = s.lnk := rfl

@[simp] theorem grp_onGrp_self (g : GroupId) (f : GroupRec → GroupRec) : (s.onGrp g f).grp g = f (s.grp g) := by
  simp [State.onGrp, State.grp]

theorem grp_onGrp_ne {g h : GroupId} (n : g ≠ h) (f : GroupRec → GroupRec) : (s.onGrp g f).grp h = s.grp h := by
  have : (g : Nat) ≠ h := fun e => n (Fin.ext e)
  simp [State.onGrp, State.grp, this]

@[simp] theorem onDet_pending (g : DetId) (f : DetRec → DetRec) : (s.onDet g f).pending = s.pending := rfl
@[simp] theorem onDet_notices (g : DetId) (f : DetRec → DetRec) : (s.onDet g f).notices = s.notices := rfl
@[simp] theorem onDet_tie (g : DetId) (f : DetRec → DetRec) : (s.onDet g f).tie = s.tie := rfl
@[simp] theorem onDet_time (g : DetId) (f : DetRec → DetRec) : (s.onDet g f).time = s.time := rfl
@[simp] theorem onDet_pins (g : DetId) (f : DetRec → DetRec) : (s.onDet g f).pins = s.pins := rfl
@[simp] theorem onDet_sge (g : DetId) (f : DetRec → DetRec) : (s.onDet g f).sge = s.sge := rfl
@[simp] theorem onDet_seq (g : DetId) (f : DetRec → DetRec) : (s.onDet g f).seq = s.seq := rfl
@[simp] theorem onDet_pri (g : DetId) (f : DetRec → DetRec) : (s.onDet g f).pri = s.pri := rfl
@[simp] theorem onDet_cmon (g : DetId) (f : DetRec → DetRec) : (s.onDet g f).cmon = s.cmon := rfl
@[simp] theorem onDet_jmc (g : DetId) (f : DetRec → DetRec) : (s.onDet g f).jmc = s.jmc := rfl
@[simp] theorem onDet_pts (g : DetId) (f : DetRec → DetRec) : (s.onDet g f).pts = s.pts := rfl
@[simp] theorem onDet_lnk (g : DetId) (f : DetRec → DetRec) : (s.onDet g f).lnk = s.lnk := rfl

@[simp] theorem det_onDet_self (g : DetId) (f : DetRec → DetRec) : (s.onDet g f).det g = f (s.det g) := by
  simp [State.onDet, State.det]

theorem det_onDet_ne {g h : DetId} (n : g ≠ h) (f : DetRec → DetRec) : (s.onDet g f).det h = s.det h := by
  have : (g : Nat) ≠ h := fun e => n (Fin.ext e)
  simp [State.onDet, State.det, this]

@[simp] theorem onDem_pending (g : GroupId) (f : Demand → Demand) : (s.onDem g f).pending = s.pending := rfl
@[simp] theorem onDem_notices (g : GroupId) (f : Demand → Demand) : (s.onDem g f).notices = s.notices := rfl
@[simp] theorem onDem_tie (g : GroupId) (f : Demand → Demand) : (s.onDem g f).tie = s.tie := rfl
@[simp] theorem onDem_time (g : GroupId) (f : Demand → Demand) : (s.onDem g f).time = s.time := rfl
@[simp] theorem onDem_pins (g : GroupId) (f : Demand → Demand) : (s.onDem g f).pins = s.pins := rfl
@[simp] theorem onDem_sge (g : GroupId) (f : Demand → Demand) : (s.onDem g f).sge = s.sge := rfl
@[simp] theorem onDem_dti (g : GroupId) (f : Demand → Demand) : (s.onDem g f).dti = s.dti := rfl
@[simp] theorem onDem_pri (g : GroupId) (f : Demand → Demand) : (s.onDem g f).pri = s.pri := rfl
@[simp] theorem onDem_cmon (g : GroupId) (f : Demand → Demand) : (s.onDem g f).cmon = s.cmon := rfl
@[simp] theorem onDem_jmc (g : GroupId) (f : Demand → Demand) : (s.onDem g f).jmc = s.jmc := rfl
@[simp] theorem onDem_pts (g : GroupId) (f : Demand → Demand) : (s.onDem g f).pts = s.pts := rfl
@[simp] theorem onDem_lnk (g : GroupId) (f : Demand → Demand) : (s.onDem g f).lnk = s.lnk := rfl

@[simp] theorem dem_onDem_self (g : GroupId) (f : Demand → Demand) : (s.onDem g f).dem g = f (s.dem g) := by
  simp [State.onDem, State.dem]

theorem dem_onDem_ne {g h : GroupId} (n : g ≠ h) (f : Demand → Demand) : (s.onDem g f).dem h = s.dem h := by
  have : (g : Nat) ≠ h := fun e => n (Fin.ext e)
  simp [State.onDem, State.dem, this]

@[simp] theorem onApp_pending (g : ApproachId) (f : Approach → Approach) : (s.onApp g f).pending = s.pending := rfl
@[simp] theorem onApp_notices (g : ApproachId) (f : Approach → Approach) : (s.onApp g f).notices = s.notices := rfl
@[simp] theorem onApp_tie (g : ApproachId) (f : Approach → Approach) : (s.onApp g f).tie = s.tie := rfl
@[simp] theorem onApp_time (g : ApproachId) (f : Approach → Approach) : (s.onApp g f).time = s.time := rfl
@[simp] theorem onApp_pins (g : ApproachId) (f : Approach → Approach) : (s.onApp g f).pins = s.pins := rfl
@[simp] theorem onApp_sge (g : ApproachId) (f : Approach → Approach) : (s.onApp g f).sge = s.sge := rfl
@[simp] theorem onApp_dti (g : ApproachId) (f : Approach → Approach) : (s.onApp g f).dti = s.dti := rfl
@[simp] theorem onApp_seq (g : ApproachId) (f : Approach → Approach) : (s.onApp g f).seq = s.seq := rfl
@[simp] theorem onApp_cmon (g : ApproachId) (f : Approach → Approach) : (s.onApp g f).cmon = s.cmon := rfl
@[simp] theorem onApp_jmc (g : ApproachId) (f : Approach → Approach) : (s.onApp g f).jmc = s.jmc := rfl
@[simp] theorem onApp_pts (g : ApproachId) (f : Approach → Approach) : (s.onApp g f).pts = s.pts := rfl
@[simp] theorem onApp_lnk (g : ApproachId) (f : Approach → Approach) : (s.onApp g f).lnk = s.lnk := rfl

@[simp] theorem app_onApp_self (g : ApproachId) (f : Approach → Approach) : (s.onApp g f).app g = f (s.app g) := by
  simp [State.onApp, State.app]

theorem app_onApp_ne {g h : ApproachId} (n : g ≠ h) (f : Approach → Approach) : (s.onApp g f).app h = s.app h := by
  have : (g : Nat) ≠ h := fun e => n (Fin.ext e)
  simp [State.onApp, State.app, this]

@[simp] theorem onMon_pending (g : GroupId) (f : MonRec → MonRec) : (s.onMon g f).pending = s.pending := rfl
@[simp] theorem onMon_notices (g : GroupId) (f : MonRec → MonRec) : (s.onMon g f).notices = s.notices := rfl
@[simp] theorem onMon_tie (g : GroupId) (f : MonRec → MonRec) : (s.onMon g f).tie = s.tie := rfl
@[simp] theorem onMon_time (g : GroupId) (f : MonRec → MonRec) : (s.onMon g f).time = s.time := rfl
@[simp] theorem onMon_pins (g : GroupId) (f : MonRec → MonRec) : (s.onMon g f).pins = s.pins := rfl
@[simp] theorem onMon_sge (g : GroupId) (f : MonRec → MonRec) : (s.onMon g f).sge = s.sge := rfl
@[simp] theorem onMon_dti (g : GroupId) (f : MonRec → MonRec) : (s.onMon g f).dti = s.dti := rfl
@[simp] theorem onMon_seq (g : GroupId) (f : MonRec → MonRec) : (s.onMon g f).seq = s.seq := rfl
@[simp] theorem onMon_pri (g : GroupId) (f : MonRec → MonRec) : (s.onMon g f).pri = s.pri := rfl
@[simp] theorem onMon_jmc (g : GroupId) (f : MonRec → MonRec) : (s.onMon g f).jmc = s.jmc := rfl
@[simp] theorem onMon_pts (g : GroupId) (f : MonRec → MonRec) : (s.onMon g f).pts = s.pts := rfl
@[simp] theorem onMon_lnk (g : GroupId) (f : MonRec → MonRec) : (s.onMon g f).lnk = s.lnk := rfl

@[simp] theorem mon_onMon_self (g : GroupId) (f : MonRec → MonRec) : (s.onMon g f).mon g = f (s.mon g) := by
  simp [State.onMon, State.mon]

theorem mon_onMon_ne {g h : GroupId} (n : g ≠ h) (f : MonRec → MonRec) : (s.onMon g f).mon h = s.mon h := by
  have : (g : Nat) ≠ h := fun e => n (Fin.ext e)
  simp [State.onMon, State.mon, this]

@[simp] theorem onSlot_pending (g : PlanSlot) (f : Slot → Slot) : (s.onSlot g f).pending = s.pending := rfl
@[simp] theorem onSlot_notices (g : PlanSlot) (f : Slot → Slot) : (s.onSlot g f).notices = s.notices := rfl
@[simp] theorem onSlot_tie (g : PlanSlot) (f : Slot → Slot) : (s.onSlot g f).tie = s.tie := rfl
@[simp] theorem onSlot_time (g : PlanSlot) (f : Slot → Slot) : (s.onSlot g f).time = s.time := rfl
@[simp] theorem onSlot_pins (g : PlanSlot) (f : Slot → Slot) : (s.onSlot g f).pins = s.pins := rfl
@[simp] theorem onSlot_sge (g : PlanSlot) (f : Slot → Slot) : (s.onSlot g f).sge = s.sge := rfl
@[simp] theorem onSlot_dti (g : PlanSlot) (f : Slot → Slot) : (s.onSlot g f).dti = s.dti := rfl
@[simp] theorem onSlot_seq (g : PlanSlot) (f : Slot → Slot) : (s.onSlot g f).seq = s.seq := rfl
@[simp] theorem onSlot_pri (g : PlanSlot) (f : Slot → Slot) : (s.onSlot g f).pri = s.pri := rfl
@[simp] theorem onSlot_cmon (g : PlanSlot) (f : Slot → Slot) : (s.onSlot g f).cmon = s.cmon := rfl
@[simp] theorem onSlot_jmc (g : PlanSlot) (f : Slot → Slot) : (s.onSlot g f).jmc = s.jmc := rfl
@[simp] theorem onSlot_lnk (g : PlanSlot) (f : Slot → Slot) : (s.onSlot g f).lnk = s.lnk := rfl

@[simp] theorem slot_onSlot_self (g : PlanSlot) (f : Slot → Slot) : (s.onSlot g f).slot g = f (s.slot g) := by
  simp [State.onSlot, State.slot]

theorem slot_onSlot_ne {g h : PlanSlot} (n : g ≠ h) (f : Slot → Slot) : (s.onSlot g f).slot h = s.slot h := by
  have : (g : Nat) ≠ h := fun e => n (Fin.ext e)
  simp [State.onSlot, State.slot, this]

end Sys2Proof.Machine.State
end

