-- ==== Sys2Proof/Laws/Groups.lean ====
section
/-! SUPPORT. What the operations of the Signal Group Engine can do, each said once: the record they write, the lamp command
and the notices they send, and that they leave every other group and every other block alone. -/

namespace Sys2Proof.Machine

/-! ## `SameOutsideGroups` -/

theorem sameOutsideGroups_refl (s : State) : SameOutsideGroups s s := rfl

theorem SameOutsideGroups.trans {s u v : State} (h : SameOutsideGroups s u) (k : SameOutsideGroups u v) :
    SameOutsideGroups s v := by
  unfold SameOutsideGroups at *
  rw [← h, ← k]

theorem sameOutsideGroups_onSge (s : State) (f : Sge → Sge) : SameOutsideGroups s (s.onSge f) := rfl
theorem sameOutsideGroups_onGrp (s : State) (g : GroupId) (f : GroupRec → GroupRec) :
    SameOutsideGroups s (s.onGrp g f) := rfl
theorem sameOutsideGroups_push (s : State) (n : Notice) : SameOutsideGroups s (s.push n) := rfl
theorem sameOutsideGroups_begun (s : State) : SameOutsideGroups s s.begun := rfl
theorem sameOutsideGroups_onMon (s : State) (g : GroupId) (f : MonRec → MonRec) :
    SameOutsideGroups s (s.onMon g f) := rfl
theorem sameOutsideGroups_dropEnded (s : State) : SameOutsideGroups s (dropEnded s) := rfl
theorem sameOutsideGroups_sendLamp (g : GroupId) (s : State) : SameOutsideGroups s (sendLamp g s) := rfl
theorem sameOutsideGroups_changeGroup (g : GroupId) (f : GroupRec → GroupRec) (s : State) :
    SameOutsideGroups s (changeGroup g f s) := rfl

theorem SameOutsideGroups.foldl {α : Type} (f : State → α → State) (h : ∀ s x, SameOutsideGroups s (f s x)) (l : List α)
    (s : State) : SameOutsideGroups s (l.foldl f s) := by
  induction l generalizing s with
  | nil => rfl
  | cons x l ih => exact (h s x).trans (ih _)

/-- What a state that differs only in its groups reads alike. -/
theorem SameOutsideGroups.reads {s u : State} (h : SameOutsideGroups s u) :
    u.pts = s.pts ∧ u.seq = s.seq ∧ u.dti = s.dti ∧ u.pri = s.pri ∧ u.jmc = s.jmc ∧ u.lnk = s.lnk ∧ u.time = s.time
      ∧ u.pending = s.pending ∧ u.pins = s.pins ∧ u.tie = s.tie := by
  unfold SameOutsideGroups at h
  rw [← h]
  simp

/-! ## Lamp commands -/

theorem changeGroup_grp_self (g : GroupId) (f : GroupRec → GroupRec) (s : State) :
    (changeGroup g f s).grp g = f (s.grp g) :=
  State.grp_onGrp_self s g f

theorem changeGroup_grp_ne {g h : GroupId} (hne : h ≠ g) (f : GroupRec → GroupRec) (s : State) :
    (changeGroup g f s).grp h = s.grp h :=
  State.grp_onGrp_ne s (Ne.symm hne) f

theorem changeGroup_notices (g : GroupId) (f : GroupRec → GroupRec) (s : State) :
    (changeGroup g f s).notices = s.notices := rfl

theorem changeGroup_lampLine (g : GroupId) (f : GroupRec → GroupRec) (s : State) :
    (changeGroup g f s).sge.lampLine = s.sge.lampLine ++ [lampFor (s.onGrp g f) g] := rfl

theorem changeGroup_mon_ne {g h : GroupId} (hne : h ≠ g) (f : GroupRec → GroupRec) (s : State) :
    (changeGroup g f s).mon h = s.mon h := by
  have : (g : Nat) ≠ h := fun e => hne (Fin.ext e.symm)
  simp [changeGroup, sendLamp, endDifferences, dropEnded, State.mon, State.onMon, State.onCmon, this]

/-! ## Clearance -/

/-- Raising the clearance of the groups of a list changes only their CR. -/
theorem raise_fold (f : GroupId → Nat) (l : List GroupId) (hl : l.Nodup) (s : State) (b : GroupId) :
    (l.foldl (fun s b => s.onGrp b fun r => { r with cr := max r.cr (f b) }) s).grp b
      = if b ∈ l then { s.grp b with cr := max (s.grp b).cr (f b) } else s.grp b := by
  induction l generalizing s with
  | nil => simp
  | cons x l ih =>
    obtain ⟨hx, hl⟩ := List.nodup_cons.mp hl
    rw [List.foldl_cons, ih hl]
    by_cases hb : b = x
    · subst hb; simp [hx]
    · rw [State.grp_onGrp_ne _ (Ne.symm hb)]; simp [hb]

theorem members_nodup (x : GroupSet) : (GroupSet.members x).Nodup :=
  (List.nodup_finRange 24).filter _

theorem mem_members {x : GroupSet} {g : GroupId} : g ∈ GroupSet.members x ↔ GroupSet.has x g = true := by
  simp [GroupSet.members, groupIds]

end Sys2Proof.Machine
end

