-- ==== Sys2Proof/Laws/Kept.lean ====
section
/-! SUPPORT. What no reaction of a command changes: the queue of commands, the pins, junction time, the settings and the
tables of the store, CMON's second failure and restart window, and what LNK holds beside its queues and its transmitter.
One lemma for each operation that a reaction can reach; `kept_handle` is what later proofs cite. -/

namespace Sys2Proof.Machine

/-- The part of State that no reaction changes. -/
structure Kept where
  pending : List Instr
  pins : Pins
  time : JTime
  locked : Bool
  protect : Nat
  startPlan : PlanSlot
  areas : Vector (Option StoredTables) 2
  currentArea : Fin 2
  tables : Option Tables
  trial : Trial
  draft : Draft
  verify : Option Nat
  safeDropped : Bool
  window : Nat
  af : Nat
  rx : RxState
  rate : LinkRate
  deriving DecidableEq

/-- What a state holds of it. -/
def kept (s : State) : Kept where
  pending := s.pending
  pins := s.pins
  time := s.time
  locked := s.pts.locked
  protect := s.pts.protect
  startPlan := s.pts.startPlan
  areas := s.pts.areas
  currentArea := s.pts.currentArea
  tables := s.pts.tables
  trial := s.pts.trial
  draft := s.pts.draft
  verify := s.pts.verify
  safeDropped := s.cmon.safeDropped
  window := s.cmon.window
  af := s.lnk.af
  rx := s.lnk.rx
  rate := s.lnk.rate

/-! ## Folds and choices -/

theorem kept_foldl {α : Type} (f : State → α → State) (h : ∀ s x, kept (f s x) = kept s) (l : List α) (s : State) :
    kept (l.foldl f s) = kept s := by
  induction l generalizing s with
  | nil => rfl
  | cons x l ih => rw [List.foldl_cons, ih, h]

theorem kept_ite {c : Prop} [Decidable c] {a b s : State} (ha : kept a = kept s) (hb : kept b = kept s) :
    kept (if c then a else b) = kept s := by
  split <;> assumption

/-! ## Primitive updates -/

@[simp] theorem kept_onSge (s : State) (f : Sge → Sge) : kept (s.onSge f) = kept s := rfl
@[simp] theorem kept_onDti (s : State) (f : Dti → Dti) : kept (s.onDti f) = kept s := rfl
@[simp] theorem kept_onSeq (s : State) (f : Seq → Seq) : kept (s.onSeq f) = kept s := rfl
@[simp] theorem kept_onPri (s : State) (f : Pri → Pri) : kept (s.onPri f) = kept s := rfl
@[simp] theorem kept_onJmc (s : State) (f : Jmc → Jmc) : kept (s.onJmc f) = kept s := rfl
@[simp] theorem kept_push (s : State) (n : Notice) : kept (s.push n) = kept s := rfl
@[simp] theorem kept_onGrp (s : State) (g : GroupId) (f : GroupRec → GroupRec) : kept (s.onGrp g f) = kept s := rfl
@[simp] theorem kept_onDet (s : State) (d : DetId) (f : DetRec → DetRec) : kept (s.onDet d f) = kept s := rfl
@[simp] theorem kept_onDem (s : State) (g : GroupId) (f : Demand → Demand) : kept (s.onDem g f) = kept s := rfl
@[simp] theorem kept_onApp (s : State) (a : ApproachId) (f : Approach → Approach) : kept (s.onApp a f) = kept s := rfl
@[simp] theorem kept_setCap (s : State) (a : ApproachId) (c : Cap) : kept (s.setCap a c) = kept s := rfl
@[simp] theorem kept_setHolders (s : State) (g : GroupId) (l : List Holder) : kept (s.setHolders g l) = kept s := rfl
@[simp] theorem kept_onCall (s : State) (id : Nat) (f : Call → Call) : kept (s.onCall id f) = kept s := rfl
@[simp] theorem kept_onMon (s : State) (g : GroupId) (f : MonRec → MonRec) : kept (s.onMon g f) = kept s := rfl

theorem kept_onCmon (s : State) (f : Cmon → Cmon) (h : (f s.cmon).safeDropped = s.cmon.safeDropped)
    (k : (f s.cmon).window = s.cmon.window) : kept (s.onCmon f) = kept s := by
  simp [kept, h, k]

@[simp] theorem kept_onSlot (s : State) (n : PlanSlot) (f : Slot → Slot) : kept (s.onSlot n f) = kept s := rfl
@[simp] theorem kept_begun (s : State) : kept s.begun = kept s := rfl
@[simp] theorem kept_tie (s : State) (n : Nat) : kept { s with tie := n } = kept s := rfl
@[simp] theorem kept_notices (s : State) (l : List Notice) : kept { s with notices := l } = kept s := rfl

/-! ## The link -/

theorem begin'_rest (l : Lnk) : l.begin'.af = l.af ∧ l.begin'.rx = l.rx ∧ l.begin'.rate = l.rate := by
  unfold Lnk.begin'
  repeat' split
  all_goals exact ⟨rfl, rfl, rfl⟩

theorem admit_rest (l : Lnk) (r : Report) : (l.accept r).af = l.af ∧ (l.accept r).rx = l.rx ∧ (l.accept r).rate = l.rate := by
  unfold Lnk.accept
  dsimp only
  repeat' split
  all_goals exact ⟨rfl, rfl, rfl⟩

theorem reply_rest (l : Lnk) (r : Reply) : (l.reply r).af = l.af ∧ (l.reply r).rx = l.rx ∧ (l.reply r).rate = l.rate := by
  unfold Lnk.reply
  split <;> exact ⟨rfl, rfl, rfl⟩

@[simp] theorem kept_report (s : State) (b : ReportBody) : kept (s.report b) = kept s := by
  have h := begin'_rest (s.lnk.accept { time := s.time, body := b })
  have k := admit_rest s.lnk { time := s.time, body := b }
  simp [kept, h, k]

@[simp] theorem kept_reply (s : State) (code tag : Byte) (st : Status) (items : List Byte) (m : Markers) :
    kept (s.reply code tag st items m) = kept s := by
  simp [kept, State.reply, begin'_rest, reply_rest]

@[simp] theorem kept_replyUnknown (s : State) (tag : Byte) : kept (s.replyUnknown tag) = kept s := by
  simp [kept, State.replyUnknown, begin'_rest, reply_rest]

/-! ## Groups -/

@[simp] theorem kept_dropEnded (s : State) : kept (dropEnded s) = kept s := rfl
@[simp] theorem kept_endDifferences (g : GroupId) (s : State) : kept (endDifferences g s) = kept s := rfl
@[simp] theorem kept_sendLamp (g : GroupId) (s : State) : kept (sendLamp g s) = kept s := rfl
@[simp] theorem kept_changeGroup (g : GroupId) (f : GroupRec → GroupRec) (s : State) :
    kept (changeGroup g f s) = kept s := rfl
@[simp] theorem kept_enterClosed (g : GroupId) (s : State) : kept (enterClosed g s) = kept s := rfl

@[simp] theorem kept_raiseClearance (e : GroupId) (s : State) : kept (raiseClearance e s) = kept s := by
  unfold raiseClearance; apply kept_foldl; intro u b; rfl

@[simp] theorem kept_leaveOpen (g : GroupId) (s : State) : kept (leaveOpen g s) = kept s := by
  unfold leaveOpen
  dsimp only
  repeat' split
  all_goals simp

@[simp] theorem kept_minComplete (g : GroupId) (s : State) : kept (minComplete g s) = kept s := by
  unfold minComplete
  dsimp only
  split <;> simp

@[simp] theorem kept_enterOpen (g : GroupId) (s : State) : kept (enterOpen g s) = kept s := by
  unfold enterOpen
  dsimp only
  split <;> simp

@[simp] theorem kept_admit (g : GroupId) (s : State) : kept (admitGroup g s) = kept s := by
  unfold admitGroup
  dsimp only
  split <;> simp

@[simp] theorem kept_admitWaiting (s : State) : kept (admitWaiting s) = kept s :=
  kept_foldl _ (fun _ _ => kept_ite (kept_admit _ _) rfl) _ _

@[simp] theorem kept_openCommand (g : GroupId) (o : Option Override) (s : State) : kept (openCommand g o s) = kept s := by
  unfold openCommand
  repeat' split
  all_goals simp

@[simp] theorem kept_closeCommand (g : GroupId) (s : State) : kept (closeCommand g s) = kept s := by
  unfold closeCommand
  repeat' split
  all_goals simp

@[simp] theorem kept_holdGroup (g : GroupId) (s : State) : kept (holdGroup g s) = kept s := by
  unfold holdGroup; split <;> simp

@[simp] theorem kept_releaseGroup (g : GroupId) (s : State) : kept (releaseGroup g s) = kept s := by
  unfold releaseGroup; split <;> simp

@[simp] theorem kept_setWait (g : GroupId) (on : Bool) (s : State) : kept (setWait g on s) = kept s := by
  unfold setWait
  dsimp only
  repeat' split
  all_goals simp

@[simp] theorem kept_setExtInput (g : GroupId) (on : Bool) (s : State) : kept (setExtInput g on s) = kept s := rfl

@[simp] theorem kept_flashGroup (g : GroupId) (s : State) : kept (flashGroup g s) = kept s := by
  unfold flashGroup
  dsimp only
  split <;> simp

@[simp] theorem kept_groupsToFlash (s : State) : kept (groupsToFlash s) = kept s :=
  kept_foldl _ (fun _ _ => kept_flashGroup _ _) _ _

@[simp] theorem kept_darkGroup (g : GroupId) (s : State) : kept (darkGroup g s) = kept s := by
  unfold darkGroup; split <;> simp

@[simp] theorem kept_groupsToDark (s : State) : kept (groupsToDark s) = kept s :=
  kept_foldl _ (fun _ _ => kept_darkGroup _ _) _ _

@[simp] theorem kept_groupsToAllRed (s : State) : kept (groupsToAllRed s) = kept s := by
  unfold groupsToAllRed; apply kept_foldl; intro u b; rfl

@[simp] theorem kept_repeatLamps (s : State) : kept (repeatLamps s) = kept s :=
  (kept_foldl _ (fun _ _ => kept_sendLamp _ _) _ _).trans rfl

/-! ## Demand -/

@[simp] theorem kept_latch (g : GroupId) (src : DemandSource) (s : State) : kept (latch g src s) = kept s := by
  unfold latch
  dsimp only
  repeat' split
  all_goals simp

@[simp] theorem kept_demandNotice (src : DemandSource) (g : GroupId) (s : State) :
    kept (demandNotice src g s) = kept s := by
  unfold demandNotice; split <;> simp

@[simp] theorem kept_faultDemandOn (g : GroupId) (s : State) : kept (faultDemandOn g s) = kept s := by
  unfold faultDemandOn; split <;> simp

@[simp] theorem kept_latchFromState (g : GroupId) (s : State) : kept (latchFromState g s) = kept s := by
  unfold latchFromState
  dsimp only
  repeat' split
  all_goals simp

@[simp] theorem kept_clearDemand (g : GroupId) (s : State) : kept (clearDemand g s) = kept s := by
  unfold clearDemand
  dsimp only
  split <;> simp

@[simp] theorem kept_clearEnd (s : State) : kept (clearEnd s) = kept s := rfl

@[simp] theorem kept_planningResult (h : Nat) (p : StageId) (s : State) : kept (planningResult h p s) = kept s := by
  unfold planningResult
  dsimp only
  repeat' split
  all_goals simp

@[simp] theorem kept_releaseNotice (s : State) : kept (releaseNotice s) = kept s := rfl

@[simp] theorem kept_levelNotice (l : Nat) (s : State) : kept (levelNotice l s) = kept s := by
  unfold levelNotice; split <;> simp

/-! ## The priority unit -/

@[simp] theorem kept_reportTram (e : PriorityEvent) (a : ApproachId) (r : TramRec) (src : Option TramSource)
    (st : Option TramState) (s : State) : kept (reportTram e a r src st s) = kept s := by simp [reportTram]
@[simp] theorem kept_reportApproach (e : PriorityEvent) (a : ApproachId) (src : Option TramSource) (s : State) :
    kept (reportApproach e a src s) = kept s := by simp [reportApproach]
@[simp] theorem kept_reportCall (e : PriorityEvent) (id : Nat) (s : State) : kept (reportCall e id s) = kept s := by
  simp [reportCall]
@[simp] theorem kept_priChanged (s : State) : kept (priChanged s) = kept s := rfl
@[simp] theorem kept_episodeChanged (s : State) : kept (episodeChanged s) = kept s := rfl

@[simp] theorem kept_addHolder (g : GroupId) (h : Holder) (s : State) : kept (addHolder g h s) = kept s := by
  unfold addHolder
  dsimp only
  repeat' split
  all_goals simp

@[simp] theorem kept_removeHolder (g : GroupId) (h : Holder) (s : State) : kept (removeHolder g h s) = kept s := by
  unfold removeHolder
  dsimp only
  repeat' split
  all_goals simp

@[simp] theorem kept_removeEverywhere (h : Holder) (s : State) : kept (removeEverywhere h s) = kept s :=
  kept_foldl _ (fun _ _ => kept_removeHolder _ _ _) _ _

@[simp] theorem kept_loadCap (a : ApproachId) (s : State) : kept (loadCap a s) = kept s := by
  unfold loadCap
  dsimp only
  split <;> simp

@[simp] theorem kept_startCap (a : ApproachId) (s : State) : kept (startCap a s) = kept s := by
  unfold startCap; split <;> simp

@[simp] theorem kept_capExpired (a : ApproachId) (s : State) : kept (capExpired a s) = kept s := by
  unfold capExpired
  split
  · dsimp only
    split <;> simp
  · rfl

@[simp] theorem kept_readyButForHold (s : State) : kept (readyButForHold s) = kept s := by
  unfold readyButForHold
  apply kept_foldl
  intro u a
  repeat' split
  all_goals simp

@[simp] theorem kept_unplan (a : ApproachId) (s : State) : kept (unplan a s) = kept s := by
  unfold unplan; split <;> simp

@[simp] theorem kept_unplanRef (r : ReqRef) (s : State) : kept (unplanRef r s) = kept s := by
  unfold unplanRef; split <;> simp

@[simp] theorem kept_withdraw (s : State) : kept (withdraw s) = kept s := by
  unfold withdraw; split <;> simp

@[simp] theorem kept_withdrawIf (r : ReqRef) (s : State) : kept (withdrawIf r s) = kept s := by
  unfold withdrawIf
  repeat' split
  all_goals simp

@[simp] theorem kept_serveHead (a : ApproachId) (s : State) : kept (serveHead a s) = kept s := by
  unfold serveHead; split <;> simp

@[simp] theorem kept_passToServing (a : ApproachId) (s : State) : kept (passToServing a s) = kept s := by
  unfold passToServing
  repeat' split
  all_goals simp

@[simp] theorem kept_extendTram (a : ApproachId) (s : State) : kept (extendTram a s) = kept s := by
  unfold extendTram
  dsimp only
  repeat' split
  all_goals simp

@[simp] theorem kept_offer (a : ApproachId) (s : State) : kept (offer a s) = kept s := by
  unfold offer
  repeat' split
  all_goals simp

@[simp] theorem kept_offerAmong (l : List ApproachId) (s : State) : kept (offerAmong l s) = kept s :=
  (kept_foldl _ (fun _ _ => kept_offer _ _) _ _).trans rfl

@[simp] theorem kept_lookAtHead (a : ApproachId) (s : State) : kept (lookAtHead a s) = kept s := by
  unfold lookAtHead; split <;> simp

@[simp] theorem kept_serveCall (id : Nat) (s : State) : kept (serveCall id s) = kept s := by
  unfold serveCall
  split
  · rfl
  · dsimp only
    rw [kept_episodeChanged, kept_foldl _ (fun _ _ => kept_addHolder _ _ _)]
    simp

@[simp] theorem kept_finishCall (id : Nat) (s : State) : kept (finishCall id s) = kept s := by simp [finishCall]

@[simp] theorem kept_suspendCall (id : Nat) (s : State) : kept (suspendCall id s) = kept s := by simp [suspendCall]

@[simp] theorem kept_notePlanned (r : ReqRef) (s : State) : kept (notePlanned r s) = kept s := by
  unfold notePlanned
  repeat' split
  all_goals simp

@[simp] theorem kept_insertPlan (r : ReqRef) (s : State) : kept (insertPlan r s) = kept s := by
  unfold insertPlan; split <;> simp

@[simp] theorem kept_extendFor (r : ReqRef) (s : State) : kept (extendFor r s) = kept s := by
  unfold extendFor
  dsimp only
  repeat' split
  all_goals simp

@[simp] theorem kept_plannerRun (r : ReqRef) (s : State) : kept (plannerRun r s) = kept s := by
  unfold plannerRun
  repeat' split
  all_goals simp

@[simp] theorem kept_determineRuling (force : Bool) (s : State) : kept (determineRuling force s) = kept s := by
  unfold determineRuling
  dsimp only
  have h : ∀ (t : State) (n : Option ReqRef),
      kept (approachIds.foldl (fun s a => if headIs s a n then s else unplan a s) t) = kept t :=
    fun t n => kept_foldl _ (fun _ _ => kept_ite rfl (kept_unplan _ _)) _ _
  repeat' split
  all_goals simp [h]

@[simp] theorem kept_addTram (a : ApproachId) (src : TramSource) (v : Option Nat) (time : JTime) (eta : Nat) (s : State) :
    kept (addTram a src v time eta s) = kept s := by
  unfold addTram
  dsimp only
  split <;> simp

@[simp] theorem kept_removeHead (a : ApproachId) (s : State) : kept (removeHead a s) = kept s := by
  unfold removeHead
  dsimp only
  repeat' split
  all_goals simp

@[simp] theorem kept_loopCheckIn (a : ApproachId) (time : JTime) (s : State) : kept (loopCheckIn a time s) = kept s := by
  unfold loopCheckIn
  dsimp only
  repeat' split
  all_goals simp

@[simp] theorem kept_checkOutHead (a : ApproachId) (src : TramSource) (s : State) :
    kept (checkOutHead a src s) = kept s := by
  unfold checkOutHead; split <;> simp

@[simp] theorem kept_loopCheckOut (a : ApproachId) (s : State) : kept (loopCheckOut a s) = kept s := by
  unfold loopCheckOut
  repeat' split
  all_goals simp

@[simp] theorem kept_loseHead (a : ApproachId) (s : State) : kept (loseHead a s) = kept s := by
  unfold loseHead; split <;> simp

@[simp] theorem kept_priEntered (g : GroupId) (s : State) : kept (priEntered g s) = kept s := by
  unfold priEntered
  split
  · exact kept_foldl _ (fun _ _ => kept_passToServing _ _) _ _
  · rfl

@[simp] theorem kept_endService (a : ApproachId) (s : State) : kept (endService a s) = kept s := by
  unfold endService
  dsimp only
  split
  · rw [kept_episodeChanged, kept_foldl _ (fun _ _ => kept_reportTram _ _ _ _ _ _)]
    simp
  · rfl

@[simp] theorem kept_priLeft (g : GroupId) (s : State) : kept (priLeft g s) = kept s :=
  (kept_foldl _ (fun _ _ => by simp) _ _).trans (kept_setHolders _ _ _)

@[simp] theorem kept_priStageEnded (t : StageId) (own : Option ReqRef) (s : State) :
    kept (priStageEnded t own s) = kept s :=
  (kept_foldl _ (fun _ _ => kept_suspendCall _ _) _ _).trans (kept_onPri _ _)

@[simp] theorem kept_runningPassages (t : StageId) (s : State) : kept (runningPassages t s) = kept s := by
  unfold runningPassages
  dsimp only
  have h (u : State) (l : List Call) : kept (l.foldl (fun s c => serveCall c.id s) u) = kept u :=
    kept_foldl _ (fun _ _ => kept_serveCall _ _) _ _
  have k (u : State) :
      kept (approachIds.foldl (fun s a => if s.tramGroupOpenInStage a then passToServing a s else s) u) = kept u :=
    kept_foldl _ (fun _ _ => kept_ite (kept_passToServing _ _) rfl) _ _
  repeat' split
  all_goals simp [h, k]

@[simp] theorem kept_priRunning (t : StageId) (s : State) : kept (priRunning t s) = kept s := by
  unfold priRunning
  dsimp only
  split
  · simp
  · rfl

@[simp] theorem kept_dropCalls (s : State) : kept (dropCalls s) = kept s :=
  (kept_onPri _ _).trans (kept_foldl _ (fun _ _ => kept_reportCall _ _ _) _ _)

@[simp] theorem kept_stopPlanning (s : State) : kept (stopPlanning s) = kept s := rfl

@[simp] theorem kept_priEndNormal (s : State) : kept (priEndNormal s) = kept s := by
  unfold priEndNormal
  dsimp only
  rw [kept_priChanged, kept_dropCalls, kept_foldl _ (fun _ _ => kept_ite rfl (by simp))]
  simp

@[simp] theorem kept_priFlash (s : State) : kept (priFlash s) = kept s := by simp [priFlash]

@[simp] theorem kept_approachUnderPlan (a : ApproachId) (s : State) : kept (approachUnderPlan a s) = kept s := by
  unfold approachUnderPlan
  dsimp only
  have h (u : State) (l : List TramRec) : kept (l.foldl (fun s r => reportTram .dropped a r none none s) u) = kept u :=
    kept_foldl _ (fun _ _ => kept_reportTram _ _ _ _ _ _) _ _
  have k (u : State) (l : List TramRec) :
      kept (l.foldl (fun s r => reportTram .lost a r (some r.source) none s) u) = kept u :=
    kept_foldl _ (fun _ _ => kept_reportTram _ _ _ _ _ _) _ _
  repeat' split
  all_goals simp [h, k]

@[simp] theorem kept_priUnderPlan (s : State) : kept (priUnderPlan s) = kept s := by
  unfold priUnderPlan
  dsimp only
  rw [kept_determineRuling, kept_offerAmong, kept_onPri, kept_foldl _ (fun _ _ => kept_reportCall _ _ _),
    kept_foldl _ (fun _ _ => kept_approachUnderPlan _ _)]

/-! ## Detectors -/

@[simp] theorem kept_reportHealth (d : DetId) (s : State) : kept (reportHealth d s) = kept s := by simp [reportHealth]

@[simp] theorem kept_recomputeInputs (s : State) : kept (recomputeInputs s) = kept s := by
  refine (kept_foldl _ (fun u g => ?_) _ _).trans (kept_onDti _ _)
  dsimp only
  repeat' split
  all_goals simp

@[simp] theorem kept_sendDemand (d : DetId) (s : State) : kept (sendDemand d s) = kept s :=
  kept_foldl _ (fun _ _ => kept_demandNotice _ _ _) _ _

@[simp] theorem kept_deliverEdge (d : DetId) (o : Bool) (s : State) : kept (deliverEdge d o s) = kept s := by
  unfold deliverEdge
  dsimp only
  repeat' split
  all_goals simp

@[simp] theorem kept_demandOnEffective (d : DetId) (s : State) : kept (demandOnEffective d s) = kept s := by
  unfold demandOnEffective; split <;> simp

@[simp] theorem kept_changeDet (d : DetId) (f : DetRec → DetRec) (s : State) : kept (changeDet d f s) = kept s := by
  unfold changeDet
  dsimp only
  split <;> simp

@[simp] theorem kept_goodWord (d : DetId) (o : Bool) (s : State) : kept (goodWord d o s) = kept s := by
  unfold goodWord
  dsimp only
  repeat' split
  all_goals simp

@[simp] theorem kept_chargeWord (c : Nat) (o f p : Bool) (s : State) : kept (chargeWord c o f p s) = kept s := by
  unfold chargeWord
  repeat' split
  all_goals simp

@[simp] theorem kept_confirmSilence (d : DetId) (s : State) : kept (confirmSilence d s) = kept s := by
  unfold confirmSilence
  dsimp only
  repeat' split
  all_goals simp

@[simp] theorem kept_becomeStuck (d : DetId) (s : State) : kept (becomeStuck d s) = kept s := kept_changeDet _ _ _

@[simp] theorem kept_setMask (d : DetId) (on : Bool) (s : State) : kept (setMask d on s) = kept s := by
  unfold setMask
  dsimp only
  split <;> simp

@[simp] theorem kept_dtiUnderPlan (old : Option Plan) (s : State) : kept (dtiUnderPlan old s) = kept s := by
  unfold dtiUnderPlan
  dsimp only
  rw [kept_foldl _ (fun _ _ => kept_ite (kept_sendDemand _ _) rfl), kept_recomputeInputs]
  exact kept_foldl _ (fun _ _ => kept_ite (by simp) (by simp)) _ _

/-! ## The store -/

@[simp] theorem kept_slotFails (n : PlanSlot) (s : State) : kept (slotFails n s) = kept s := rfl

@[simp] theorem kept_readSlot (n : PlanSlot) (s : State) : kept (readSlot n s).1 = kept s := by
  unfold readSlot
  dsimp only
  repeat' split
  all_goals simp

@[simp] theorem kept_checkContents (n : SlotNo) (s : State) : kept (checkContents n s).1 = kept s := by
  unfold checkContents
  dsimp only
  repeat' split
  all_goals simp

@[simp] theorem kept_activationCheck (n : SlotNo) (s : State) : kept (activationCheck n s).1 = kept s := by
  unfold activationCheck; split <;> simp

@[simp] theorem kept_makeActiveCopy (p : Plan) (s : State) : kept (makeActiveCopy p s) = kept s := by
  unfold makeActiveCopy; split <;> rfl

@[simp] theorem kept_blocksUnderPlan (old : Option Plan) (s : State) : kept (blocksUnderPlan old s) = kept s := by
  simp [blocksUnderPlan]

@[simp] theorem kept_takePlan (n : SlotNo) (p : Plan) (s : State) : kept (takePlan n p s) = kept s := by simp [takePlan]

@[simp] theorem kept_reportPlan (b : Option SlotNo) (n : SlotNo) (o : PlanOutcome) (s : State) :
    kept (reportPlan b n o s) = kept s := by simp [reportPlan]

@[simp] theorem kept_activate (n : SlotNo) (s : State) : kept (activate n s).1 = kept s := by
  have h := kept_activationCheck n s
  unfold activate
  dsimp only
  split <;> rename_i e <;> rw [e] at h <;> simpa using h

@[simp] theorem kept_selectFrom (l : List PlanSlot) (s : State) : kept (selectFrom l s).1 = kept s := by
  induction l generalizing s with
  | nil => rfl
  | cons n l ih =>
    have h := kept_activate (slotOf n) s
    unfold selectFrom
    split <;> rename_i e <;> rw [e] at h
    · exact h
    · exact (ih _).trans h

@[simp] theorem kept_startPlanSelection (s : State) : kept (startPlanSelection s) = kept s := by
  have h := kept_selectFrom (selectionOrder s) s
  unfold startPlanSelection
  dsimp only
  split <;> rename_i e <;> rw [e] at h
  · exact h
  · split <;> simpa using h

@[simp] theorem kept_recheckActive (s : State) : kept (recheckActive s) = kept s := by
  unfold recheckActive
  split
  · rfl
  · rename_i n _
    have h := kept_checkContents n s
    split <;> rename_i e <;> rw [e] at h <;> simpa using h

@[simp] theorem kept_abandonTableWrite (s : State) : kept (abandonTableWrite s) = kept s := by
  unfold abandonTableWrite
  split
  · exact kept_report _ _
  · rfl

/-! ## The sequencer -/

@[simp] theorem kept_becomeRunning (s : State) : kept (becomeRunning s) = kept s := by
  unfold becomeRunning; split <;> simp

@[simp] theorem kept_beginTransition (t : StageId) (l : Nat) (r : Option ResumeRec) (s : State) :
    kept (beginTransition t l r s) = kept s := by
  unfold beginTransition
  dsimp only
  have h (u : State) (o : Option Override) (x : List GroupId) :
      kept (x.foldl (fun s g => openCommand g o s) u) = kept u :=
    kept_foldl _ (fun _ _ => kept_openCommand _ _ _) _ _
  have k (u : State) (x : List GroupId) : kept (x.foldl (fun s g => closeCommand g s) u) = kept u :=
    kept_foldl _ (fun _ _ => kept_closeCommand _ _) _ _
  split <;> simp [h, k]

@[simp] theorem kept_startedGroup (g : GroupId) (s : State) : kept (startedGroup g s) = kept s := by
  unfold startedGroup
  dsimp only
  repeat' split
  all_goals simp

@[simp] theorem kept_startUpNotice (s : State) : kept (startUpNotice s) = kept s := by
  unfold startUpNotice
  dsimp only
  rw [kept_report, kept_beginTransition, kept_onSeq]
  exact kept_foldl _ (fun _ _ => kept_latchFromState _ _) _ _

@[simp] theorem kept_chooseManual (s : State) : kept (chooseManual s).1 = kept s := by
  unfold chooseManual
  dsimp only
  repeat' split
  all_goals simp

@[simp] theorem kept_switchPlan (n : SlotNo) (p : Plan) (s : State) : kept (switchPlan n p s) = kept s := by
  unfold switchPlan
  dsimp only
  rw [kept_reportPlan, kept_foldl _ (fun _ _ => kept_ite (kept_latch _ _ _) rfl)]
  simp

@[simp] theorem kept_chooseOrdinary (s : State) : kept (chooseOrdinary s).1 = kept s := by
  unfold chooseOrdinary
  split
  · rename_i n _ _
    have h := kept_activationCheck n s
    split <;> rename_i e <;> rw [e] at h
    · simpa using h
    · dsimp only
      split <;> simpa using h
  · rfl

@[simp] theorem kept_chooseFrom (l : List ResumeRec) (s : State) : kept (chooseFrom l s).1 = kept s := by
  induction l generalizing s with
  | nil =>
    unfold chooseFrom
    dsimp only
    split <;> simp
  | cons r l ih =>
    unfold chooseFrom
    repeat' split
    all_goals simp [ih]

@[simp] theorem kept_choose (s : State) : kept (choose s).1 = kept s := by
  unfold choose; split <;> simp

@[simp] theorem kept_endStage (c : EndClass) (t : StageId) (y : Yield) (s : State) : kept (endStage c t y s) = kept s := by
  unfold endStage; split <;> simp

@[simp] theorem kept_makeChoice (expired : Bool) (s : State) : kept (makeChoice expired s) = kept s := by
  have h := kept_choose s
  unfold makeChoice
  dsimp only
  split <;> rename_i e <;> rw [e] at h
  · simpa using h
  · split <;> simpa using h

@[simp] theorem kept_chooseIfReady (s : State) : kept (chooseIfReady s) = kept s := by
  unfold chooseIfReady; split <;> simp

@[simp] theorem kept_noteHoldFree (s : State) : kept (noteHoldFree s) = kept s := by
  unfold noteHoldFree; split <;> simp

@[simp] theorem kept_retest (s : State) : kept (retest s) = kept s := by
  unfold retest
  dsimp only
  repeat' split
  all_goals simp

@[simp] theorem kept_endCountdownExpired (s : State) : kept (endCountdownExpired s) = kept s := by
  unfold endCountdownExpired; split <;> simp

@[simp] theorem kept_seqAbandon (s : State) : kept (seqAbandon s) = kept s := rfl
@[simp] theorem kept_seqManual (s : State) : kept (seqManual s) = kept s := rfl
@[simp] theorem kept_seqNormal (s : State) : kept (seqNormal s) = kept s := rfl

/-! ## Modes -/

@[simp] theorem kept_monitorMode (m : Mode) (s : State) : kept (monitorMode m s) = kept s := by
  unfold monitorMode
  refine (kept_onCmon _ _ rfl rfl).trans ?_
  exact kept_ite ((kept_onCmon _ _ rfl rfl).trans (kept_onCmon _ _ rfl rfl)) (kept_onCmon _ _ rfl rfl)

@[simp] theorem kept_setModeFrom (b m : Mode) (p : Option Phase) (d : Option DarkCause) (c : ModeCause) (s : State) :
    kept (setModeFrom b m p d c s) = kept s := by simp [setModeFrom]

@[simp] theorem kept_setMode (m : Mode) (p : Option Phase) (d : Option DarkCause) (c : ModeCause) (s : State) :
    kept (setMode m p d c s) = kept s := by simp [setMode]

@[simp] theorem kept_setPhase (p : Phase) (n : Nat) (s : State) : kept (setPhase p n s) = kept s := by simp [setPhase]

@[simp] theorem kept_endStartUp (s : State) : kept (endStartUp s) = kept s := rfl

@[simp] theorem kept_normalBegins (s : State) : kept (normalBegins s) = kept s := by
  unfold normalBegins
  dsimp only
  rw [kept_push, kept_push, kept_push]
  exact kept_foldl _ (fun _ _ => kept_ite (kept_serveHead _ _) rfl) _ _

@[simp] theorem kept_enterNormal (s : State) : kept (enterNormal s) = kept s := by simp [enterNormal]
@[simp] theorem kept_enterManual (s : State) : kept (enterManual s) = kept s := by simp [enterManual]
@[simp] theorem kept_leaveManual (s : State) : kept (leaveManual s) = kept s := by simp [leaveManual]
@[simp] theorem kept_flashOrders (s : State) : kept (flashOrders s) = kept s := by simp [flashOrders]

@[simp] theorem kept_forceFlash (s : State) : kept (forceFlash s) = kept s := by
  unfold forceFlash; split <;> simp

@[simp] theorem kept_flashFromStartUp (s : State) : kept (flashFromStartUp s) = kept s := by simp [flashFromStartUp]

@[simp] theorem kept_takePending (s : State) : kept (takePending s) = kept s := by
  unfold takePending
  split
  · rfl
  · dsimp only
    split <;> simp

@[simp] theorem kept_endClearing (s : State) : kept (endClearing s) = kept s := by simp [endClearing]

@[simp] theorem kept_enterClearing (s : State) : kept (enterClearing s) = kept s := by
  unfold enterClearing
  dsimp only
  rw [kept_push, kept_foldl _ (fun _ _ => kept_closeCommand _ _)]
  simp

@[simp] theorem kept_enterDark (w : DarkCause) (c : ModeCause) (s : State) : kept (enterDark w c s) = kept s := by
  simp [enterDark]

/-! ## The monitor -/

@[simp] theorem kept_occur (s : State) (x : Cond) : kept (occur s x) = kept s := by
  unfold occur
  dsimp only
  split <;> simp [Cmon.note] <;> rfl

@[simp] theorem kept_finishComparison (s : State) : kept (finishComparison s) = kept s := rfl

@[simp] theorem kept_comparedIfDue (s : State) : kept (comparedIfDue s) = kept s := by
  unfold comparedIfDue; split <;> simp

@[simp] theorem kept_evaluate (s : State) : kept (evaluate s) = kept s := by
  unfold evaluate
  dsimp only
  split
  · rfl
  · rw [kept_onCmon _ _ rfl rfl, kept_foldl _ kept_occur]
    exact kept_comparedIfDue s

@[simp] theorem kept_evaluateIf (l : List Cond) (s : State) : kept (evaluateIf l s) = kept s := by
  unfold evaluateIf; split <;> simp

@[simp] theorem kept_completeComparison (s : State) : kept (completeComparison s) = kept s := by simp [completeComparison]

@[simp] theorem kept_raiseShadow (e : GroupId) (s : State) : kept (raiseShadow e s) = kept s := by
  unfold raiseShadow; apply kept_foldl; intro u b; rfl

@[simp] theorem kept_sense (g : GroupId) (r a o c : Bool) (s : State) : kept (sense g r a o c s) = kept s := by
  unfold sense
  dsimp only
  split <;> simp

@[simp] theorem kept_senseRecord (n : Nat) (r a o c p : Bool) (s : State) : kept (senseRecord n r a o c p s) = kept s := by
  unfold senseRecord
  repeat' split
  all_goals simp

/-! ## Start-up and RESTART -/

@[simp] theorem kept_flashFromDark (s : State) : kept (flashFromDark s) = kept s := by simp [flashFromDark]

@[simp] theorem kept_beginAllRed (s : State) : kept (beginAllRed s) = kept s := by simp [beginAllRed]
@[simp] theorem kept_beginFirstStage (s : State) : kept (beginFirstStage s) = kept s := by simp [beginFirstStage]

@[simp] theorem kept_enterStartUp (c : ModeCause) (s : State) : kept (enterStartUp c s) = kept s := by
  unfold enterStartUp
  dsimp only
  split <;> simp

@[simp] theorem kept_startCheck (s : State) : kept (startCheck s).1 = kept s := by
  unfold startCheck
  dsimp only
  split
  · rfl
  · split
    · split
      · cases ‹_ = true›
      · split <;> simp
    · rename_i n _
      have h := kept_activationCheck n s
      split <;> rename_i e <;> rw [e] at h <;> dsimp only
      · simpa using h
      · rw [if_neg Bool.false_ne_true, apply_ite Prod.fst, ite_self, kept_startPlanSelection]
        exact h

@[simp] theorem kept_autostart (s : State) : kept (autostart s) = kept s := by
  have h := kept_startCheck s
  unfold autostart
  split
  · split <;> rename_i e <;> rw [e] at h <;> simpa using h
  · rfl

@[simp] theorem kept_tablesVerified (m : Mode) (c : ModeCause) (s : State) : kept (tablesVerified m c s) = kept s := by
  simp [tablesVerified]

@[simp] theorem kept_tablesFailed (s : State) : kept (tablesFailed s) = kept s := by simp [tablesFailed]

@[simp] theorem kept_watch (s : State) : kept (watch s) = kept s := by
  unfold watch
  repeat' split
  all_goals simp

@[simp] theorem kept_jmcRunning (s : State) : kept (jmcRunning s) = kept s := by
  unfold jmcRunning; split <;> simp

@[simp] theorem kept_restartPart (s : State) : kept (restartPart s) = kept s := by
  unfold restartPart
  dsimp only
  split <;> simp [reinitialise] <;> rfl

/-! ## Notices -/

/-- No notice changes what is kept. -/
@[simp] theorem kept_handle (n : Notice) (s : State) : kept (handle n s) = kept s := by
  cases n <;> simp [handle, groupEntered, groupClosed]
  · unfold groupLeft
    dsimp only
    split <;> simp
  · split <;> simp

/-- A property that every notice keeps is kept by working off any number of them. -/
theorem settle_induction {P : State → Prop} (h : ∀ n s, P s → P (handle n s))
    (k : ∀ s l, P s → P { s with notices := l }) : ∀ fuel s, P s → P (settle fuel s) := by
  intro fuel
  induction fuel with
  | zero => exact fun s p => p
  | succ fuel ih =>
    intro s p
    unfold settle
    split
    · exact p
    · exact ih _ (h _ _ (k _ _ p))

end Sys2Proof.Machine
end

