-- ==== Sys2Proof/Laws/PerInstr.lean ====
section
/-! SUPPORT. A fact about every command as it is written on the cabinet link, one lemma for each constructor: the body
a well-formed request is sent with has the length its code asks for (R197, sections 10.5 and 10.6). -/

namespace Sys2Proof.Laws

open Sys2Proof.Machine

/-- The body of the request, if the command is one, has the length of its kind. -/
def BodyLength.Statement (i : Instr) : Prop :=
  i.wellFormed = true → ∀ code tag body, requestOf i = some (code, tag, body) →
    bodyLength code body = some (some body.length)

/-! ## Lengths of the parts of a body -/

@[simp] theorem length_byte1 (n : Nat) : (byte1 n).length = 1 := rfl
@[simp] theorem length_byte2 (n : Nat) : (byte2 n).length = 2 := rfl
@[simp] theorem length_byteFlag (b : Bool) : (byteFlag b).length = 1 := rfl
@[simp] theorem length_byteSet (x : GroupSet) : (byteSet x).length = 3 := rfl
@[simp] theorem length_byteOpt2 (o : Option Nat) : (byteOpt2 o).length = 3 := rfl

/-- Things of one length each, one after another. -/
theorem length_bytesOf {α : Type} (f : α → List Byte) (k : Nat) (l : List α) (h : ∀ x ∈ l, (f x).length = k) :
    (bytesOf f l).length = l.length * k := by
  induction l with
  | nil => simp [bytesOf]
  | cons x l ih =>
    have := ih fun y hy => h y (List.mem_cons_of_mem x hy)
    simp only [bytesOf, List.map_cons, List.flatten_cons, List.length_append, List.length_cons] at *
    rw [this, h x List.mem_cons_self]
    ring

theorem length_bytesRawSequence (q : RawSequence) (h : q.entries.length = 16) : (bytesRawSequence q).length = 36 := by
  have := length_bytesOf bytesRawEntry 2 q.entries fun _ _ => rfl
  simp [bytesRawSequence, this, h]

theorem length_bytesIgRow (r : IgRow) : (bytesIgRow r).length = 27 := by
  have := length_bytesOf (fun e : Option Nat => byte1 (e.getD 0)) 1 r.toList fun _ _ => rfl
  simp [bytesIgRow, this]

/-- The contents of a plan section have the length of the section. -/
theorem length_bytesPlanArg (c : PlanSectionArg) (h : c.fits = true) :
    (bytesPlanArg c).length = planSectionLength (planSectionName c) := by
  cases c with
  | stages v => simpa [planSectionName, planSectionLength, bytesPlanArg, bytesStages]
      using length_bytesOf byteSet 3 v.toList fun _ _ => rfl
  | sequence q =>
    have : q.entries.length = 16 := by simp [PlanSectionArg.fits, RawSequence.fits] at h; tauto
    simpa [planSectionName, planSectionLength, bytesPlanArg] using length_bytesRawSequence q this
  | groupTimesA v => simpa [planSectionName, planSectionLength, bytesPlanArg, bytesTimes]
      using length_bytesOf _ 8 v.toList fun _ _ => rfl
  | groupTimesB v => simpa [planSectionName, planSectionLength, bytesPlanArg, bytesTimes]
      using length_bytesOf _ 8 v.toList fun _ _ => rfl
  | detectorsA v => simpa [planSectionName, planSectionLength, bytesPlanArg]
      using length_bytesOf bytesRawDetector 12 v.toList fun _ _ => rfl
  | detectorsB v => simpa [planSectionName, planSectionLength, bytesPlanArg]
      using length_bytesOf bytesRawDetector 12 v.toList fun _ _ => rfl
  | priority v => simpa [planSectionName, planSectionLength, bytesPlanArg]
      using length_bytesOf bytesRawApproach 12 v.toList fun _ _ => rfl

/-- The contents of a table section have the length of the section. -/
theorem length_bytesTableArg (c : TableSectionArg) :
    (bytesTableArg c).length = tableSectionLength (tableSectionName c) := by
  cases c with
  | groups v => simpa [tableSectionName, tableSectionLength, bytesTableArg, bytesGroupDefs]
      using length_bytesOf bytesGroupDef 4 v.toList fun _ _ => rfl
  | conflicts v => simpa [tableSectionName, tableSectionLength, bytesTableArg, bytesConflicts]
      using length_bytesOf byteSet 3 v.toList fun _ _ => rfl
  | ig k v =>
    simpa [tableSectionName, tableSectionLength, bytesTableArg, bytesIg]
      using length_bytesOf bytesIgRow 27 v.toList fun r _ => length_bytesIgRow r
  | monitorStart m => rfl

/-! ## The commands -/

/-- A command that is no request of the link. -/
theorem BodyLength.ofNone {i : Instr} (h : requestOf i = none) : BodyLength.Statement i := by
  intro _ code tag body e
  rw [h] at e
  cases e

/-- A request with its code, its tag and its body. -/
theorem BodyLength.ofSome {i : Instr} {code tag : Byte} {body : List Byte} (h : requestOf i = some (code, tag, body))
    (k : bodyLength code body = some (some body.length)) : BodyLength.Statement i := by
  intro _ code' tag' body' e
  rw [h] at e
  cases e
  exact k

theorem BodyLength.powerOnReset : BodyLength.Statement .powerOnReset := BodyLength.ofNone rfl
theorem BodyLength.verificationEnd : BodyLength.Statement .verificationEnd := BodyLength.ofNone rfl
theorem BodyLength.detectorWord (channel : Nat) (occupied cardFault passesParity : Bool) :
    BodyLength.Statement (.detectorWord channel occupied cardFault passesParity) := BodyLength.ofNone rfl
theorem BodyLength.silenceConfirmed (d : DetId) : BodyLength.Statement (.silenceConfirmed d) := BodyLength.ofNone rfl
theorem BodyLength.stuckLimitReached (d : DetId) :
    BodyLength.Statement (.stuckLimitReached d) := BodyLength.ofNone rfl
theorem BodyLength.clearanceCountdown (g : GroupId) :
    BodyLength.Statement (.clearanceCountdown g) := BodyLength.ofNone rfl
theorem BodyLength.openingExpiry (g : GroupId) : BodyLength.Statement (.openingExpiry g) := BodyLength.ofNone rfl
theorem BodyLength.minCompletion (g : GroupId) : BodyLength.Statement (.minCompletion g) := BodyLength.ofNone rfl
theorem BodyLength.gapTimerExpiry (g : GroupId) : BodyLength.Statement (.gapTimerExpiry g) := BodyLength.ofNone rfl
theorem BodyLength.maxGreenReached (g : GroupId) : BodyLength.Statement (.maxGreenReached g) := BodyLength.ofNone rfl
theorem BodyLength.closingExpiry (g : GroupId) : BodyLength.Statement (.closingExpiry g) := BodyLength.ofNone rfl
theorem BodyLength.lampCommandRepeat : BodyLength.Statement .lampCommandRepeat := BodyLength.ofNone rfl
theorem BodyLength.groupOverdue (g : GroupId) : BodyLength.Statement (.groupOverdue g) := BodyLength.ofNone rfl
theorem BodyLength.endCountdownExpiry : BodyLength.Statement .endCountdownExpiry := BodyLength.ofNone rfl
theorem BodyLength.manualHoldExpiry : BodyLength.Statement .manualHoldExpiry := BodyLength.ofNone rfl
theorem BodyLength.tramTimeout (a : ApproachId) : BodyLength.Statement (.tramTimeout a) := BodyLength.ofNone rfl
theorem BodyLength.recoveryExpiry (a : ApproachId) : BodyLength.Statement (.recoveryExpiry a) := BodyLength.ofNone rfl
theorem BodyLength.guardExpiry (a : ApproachId) : BodyLength.Statement (.guardExpiry a) := BodyLength.ofNone rfl
theorem BodyLength.capExpiry (a : ApproachId) : BodyLength.Statement (.capExpiry a) := BodyLength.ofNone rfl
theorem BodyLength.callHoldExpiry (id : Nat) : BodyLength.Statement (.callHoldExpiry id) := BodyLength.ofNone rfl
theorem BodyLength.startFlashingExpiry : BodyLength.Statement .startFlashingExpiry := BodyLength.ofNone rfl
theorem BodyLength.allRedExpiry : BodyLength.Statement .allRedExpiry := BodyLength.ofNone rfl
theorem BodyLength.lampSenseRecord (group : Nat) (red amber go redCurrent passesParity : Bool) :
    BodyLength.Statement (.lampSenseRecord group red amber go redCurrent passesParity) := BodyLength.ofNone rfl
theorem BodyLength.mismatchTimerExceeds (g : GroupId) :
    BodyLength.Statement (.mismatchTimerExceeds g) := BodyLength.ofNone rfl
theorem BodyLength.senseSilence (g : GroupId) : BodyLength.Statement (.senseSilence g) := BodyLength.ofNone rfl
theorem BodyLength.integrityComparison : BodyLength.Statement .integrityComparison := BodyLength.ofNone rfl
theorem BodyLength.safeDrop : BodyLength.Statement .safeDrop := BodyLength.ofNone rfl
theorem BodyLength.restartWindowEnd : BodyLength.Statement .restartWindowEnd := BodyLength.ofNone rfl
theorem BodyLength.planWriteDone : BodyLength.Statement .planWriteDone := BodyLength.ofNone rfl
theorem BodyLength.tableWriteDone : BodyLength.Statement .tableWriteDone := BodyLength.ofNone rfl
theorem BodyLength.receiveGapTimeout : BodyLength.Statement .receiveGapTimeout := BodyLength.ofNone rfl
theorem BodyLength.linkByte (byte : Byte) (framingError : Bool) :
    BodyLength.Statement (.linkByte byte framingError) := BodyLength.ofNone rfl
theorem BodyLength.transmitComplete : BodyLength.Statement .transmitComplete := BodyLength.ofNone rfl
theorem BodyLength.status (tag : Byte) : BodyLength.Statement (.status tag) := BodyLength.ofSome rfl rfl
theorem BodyLength.groups (tag : Byte) (part : Nat) :
    BodyLength.Statement (.groups tag part) := BodyLength.ofSome rfl rfl
theorem BodyLength.detector (tag : Byte) (detector : Nat) :
    BodyLength.Statement (.detector tag detector) := BodyLength.ofSome rfl rfl
theorem BodyLength.trams (tag : Byte) : BodyLength.Statement (.trams tag) := BodyLength.ofSome rfl rfl
theorem BodyLength.calls (tag : Byte) : BodyLength.Statement (.calls tag) := BodyLength.ofSome rfl rfl
theorem BodyLength.faults (tag : Byte) (part : Nat) :
    BodyLength.Statement (.faults tag part) := BodyLength.ofSome rfl rfl
theorem BodyLength.stack (tag : Byte) : BodyLength.Statement (.stack tag) := BodyLength.ofSome rfl rfl
theorem BodyLength.planRead (tag : Byte) (slot : Nat) (sect : PlanSectionName) :
    BodyLength.Statement (.planRead tag slot sect) := BodyLength.ofSome rfl rfl
theorem BodyLength.tableRead (tag : Byte) (copy : TableCopy) (sect : TableSectionName) :
    BodyLength.Statement (.tableRead tag copy sect) := BodyLength.ofSome rfl rfl
theorem BodyLength.modeRequest (tag : Byte) (mode : Nat) :
    BodyLength.Statement (.modeRequest tag mode) := BodyLength.ofSome rfl rfl
theorem BodyLength.manualPost (tag : Byte) (stage hold : Nat) :
    BodyLength.Statement (.manualPost tag stage hold) := BodyLength.ofSome rfl rfl
theorem BodyLength.planSelect (tag : Byte) (slot : Nat) :
    BodyLength.Statement (.planSelect tag slot) := BodyLength.ofSome rfl rfl
theorem BodyLength.demandPlace (tag : Byte) (group : Nat) :
    BodyLength.Statement (.demandPlace tag group) := BodyLength.ofSome rfl rfl
theorem BodyLength.detectorMask (tag : Byte) (detector : Nat) (set : Bool) :
    BodyLength.Statement (.detectorMask tag detector set) := BodyLength.ofSome rfl rfl
theorem BodyLength.tramIn (tag : Byte) (approach : Nat) (vehicle eta : Option Nat) :
    BodyLength.Statement (.tramIn tag approach vehicle eta) := BodyLength.ofSome rfl rfl
theorem BodyLength.tramOut (tag : Byte) (approach : Nat) :
    BodyLength.Statement (.tramOut tag approach) := BodyLength.ofSome rfl rfl
theorem BodyLength.callPlace (tag : Byte) (id level target eta hold : Nat) :
    BodyLength.Statement (.callPlace tag id level target eta hold) := BodyLength.ofSome rfl rfl
theorem BodyLength.callCancel (tag : Byte) (id : Nat) :
    BodyLength.Statement (.callCancel tag id) := BodyLength.ofSome rfl rfl
theorem BodyLength.faultClear (tag : Byte) : BodyLength.Statement (.faultClear tag) := BodyLength.ofSome rfl rfl
theorem BodyLength.restart (tag : Byte) : BodyLength.Statement (.restart tag) := BodyLength.ofSome rfl rfl
theorem BodyLength.linkSet (tag : Byte) (af : Nat) :
    BodyLength.Statement (.linkSet tag af) := BodyLength.ofSome rfl rfl
theorem BodyLength.planSection (tag : Byte) (contents : PlanSectionArg) :
    BodyLength.Statement (.planSection tag contents) := by
  intro h code t body e
  simp only [requestOf, Option.some.injEq, Prod.mk.injEq] at e
  obtain ⟨rfl, rfl, rfl⟩ := e
  have := length_bytesPlanArg contents h
  rw [List.length_append, this]
  cases contents <;> rfl

theorem BodyLength.planStore (tag : Byte) (slot : Nat) :
    BodyLength.Statement (.planStore tag slot) := BodyLength.ofSome rfl rfl
theorem BodyLength.tableSection (tag : Byte) (contents : TableSectionArg) :
    BodyLength.Statement (.tableSection tag contents) := by
  intro _ code t body e
  simp only [requestOf, Option.some.injEq, Prod.mk.injEq] at e
  obtain ⟨rfl, rfl, rfl⟩ := e
  rw [List.length_append, length_bytesTableArg contents]
  cases contents with
  | ig k v => fin_cases k <;> rfl
  | _ => rfl

theorem BodyLength.tableCommit (tag : Byte) : BodyLength.Statement (.tableCommit tag) := BodyLength.ofSome rfl rfl
theorem BodyLength.tableLock (tag : Byte) : BodyLength.Statement (.tableLock tag) := BodyLength.ofSome rfl rfl
theorem BodyLength.tableUnlock (tag : Byte) : BodyLength.Statement (.tableUnlock tag) := BodyLength.ofSome rfl rfl
theorem BodyLength.protectSet (tag : Byte) (p : Nat) :
    BodyLength.Statement (.protectSet tag p) := BodyLength.ofSome rfl rfl
theorem BodyLength.startPlanSet (tag : Byte) (slot : Nat) :
    BodyLength.Statement (.startPlanSet tag slot) := BodyLength.ofSome rfl rfl
theorem BodyLength.shadowClearanceFallsToMtol (g : GroupId) :
    BodyLength.Statement (.shadowClearanceFallsToMtol g) := BodyLength.ofNone rfl
theorem BodyLength.ageReversesOrder : BodyLength.Statement .ageReversesOrder := BodyLength.ofNone rfl

end Sys2Proof.Laws
end

