-- ==== Sys2Proof/Tests/Slice0.lean ====
section
/-! SUPPORT. Tests of the model: ill-formed commands that the check of WellFormed refuses, values of the manual's tables and worked
examples, frames written out byte by byte, and for each statement with hypotheses a state and operands that meet them. -/

namespace Sys2Proof.Tests

-- One theorem after another: each is evaluated by the kernel on a thread of its own otherwise.
set_option Elab.async false

open Sys2Proof Sys2Proof.Machine

/-! ## A small junction -/

/-- The intergreens of the small junction. -/
def igOf (e b : Nat) : Option Nat :=
  if e = 0 ∧ b = 1 then some 50 else if e = 1 ∧ b = 0 then some 60
  else if e = 0 ∧ b = 2 then some 30 else if e = 2 ∧ b = 0 then some 100 else none

/-- Groups 1 and 2 are VEHICLE, 3 PEDESTRIAN, 4 TRAM, 5 ARROW; group 1 conflicts with 2 and with 3. -/
def tables1 : Tables where
  groups := Vector.ofFn fun g =>
    match g.val with
    | 0 => { present := true, kind := .vehicle, close := 30, opent := 20 }
    | 1 => { present := true, kind := .vehicle, close := 30, opent := 20 }
    | 2 => { present := true, kind := .pedestrian, close := 70, opent := 0 }
    | 3 => { present := true, kind := .tram, close := 20, opent := 10 }
    | 4 => { present := true, kind := .arrow, close := 0, opent := 0 }
    | _ => { present := false, kind := .vehicle, close := 0, opent := 0 }
  conflicts := Vector.ofFn fun g => match g.val with | 0 => 6 | 1 => 1 | 2 => 1 | _ => 0
  ig := Vector.ofFn fun k => Vector.ofFn fun r => Vector.ofFn fun b => igOf (6 * k.val + r.val) b.val
  monitor := { fatal := 7, mtol := 5, startFlash := 30, startClear := 50, autostart := false }

/-- A detector that is not used. -/
def unusedDet : DetSettings where
  kind := .unused
  groups := 0
  approach := 0
  faultMode := .quiet
  stuckOn := 0
  stuckOff := 0
  ringLength := 2
  edgeReporting := false

/-- Stage 1 holds groups 1 and 4, stage 2 groups 2 and 3, stage 3 group 5; detector 1 is a DEMAND_EXTEND loop of group 2,
detector 2 a BUTTON of group 3, detectors 3 and 4 the loops of approach 1. -/
def plan1 : Plan where
  stages := Vector.ofFn fun k => match k.val with | 0 => 9 | 1 => 6 | 2 => 16 | _ => 0
  sequence :=
    { entries := [{ stage := 0, always := true }, { stage := 1, always := true }, { stage := 2, always := false }]
      mode := .cyclic, startStage := 0, resumeMin := 30 }
  timesA := Vector.ofFn fun _ => { ming := 60, maxg := 300, gap := 30, maxwait := 600, recallOn := false }
  timesB := Vector.ofFn fun _ => { ming := 0, maxg := 300, gap := 30, maxwait := 0, recallOn := false }
  detsA := Vector.ofFn fun d =>
    match d.val with
    | 0 => { unusedDet with kind := .demandExtend, groups := 2, stuckOn := 600, stuckOff := 3000 }
    | 1 => { unusedDet with kind := .button, groups := 4 }
    | 2 => { unusedDet with kind := .tramIn }
    | 3 => { unusedDet with kind := .tramOut }
    | _ => unusedDet
  detsB := Vector.ofFn fun _ => unusedDet
  priority := Vector.ofFn fun a =>
    { present := a.val = 0, tramGroup := 3, priorityStage := 0, run := 200, ext := 100, tmax := 1000, recovery := 150
      checkinGuard := 30 }

/-- A group open past its min green. -/
def openRec : GroupRec where
  state := .opened
  openElapsed := 60
  effMing := 60
  effMaxg := 300
  minDone := true
  gapTimer := 10

/-- The junction in NORMAL with stage 1 RUNNING: groups 1 and 4 OPEN. -/
def street : State :=
  { State.reset with
    sge := { Sge.reset with
      lampLine := []
      recs := Vector.ofFn fun g =>
        match g.val with
        | 0 => openRec
        | 3 => openRec
        | 1 => { state := .closed }
        | 2 => { state := .closed }
        | 4 => { state := .closed }
        | _ => {} }
    seq := { activeSlot := some 1, current := some 0, groups := 9, status := some .running }
    cmon := { compareTimer := 50 }
    jmc := { mode := .normal, darkCause := none, safeRequest := true }
    pts := { tables := some tables1, activeCopy := some plan1 } }

/-- The street with one group's record replaced. -/
def withGrp (g : GroupId) (r : GroupRec) : State := street.onGrp g fun _ => r

/-- The street in another mode. -/
def inMode (m : Mode) : State := { street with jmc := { street.jmc with mode := m } }

/-- The street in FLASH, every present group flashing. -/
def flashing : State :=
  { street with
    sge := { street.sge with recs := Vector.ofFn fun g => { state := if g.val < 5 then .flash else .dark } }
    seq := { activeSlot := some 1 }
    jmc := { mode := .flash, darkCause := none, safeRequest := true } }

/-- A trial slot that holds the plan. -/
def trial1 : Trial where
  stages := some plan1.stages
  sequence := some plan1.sequence
  timesA := some plan1.timesA
  timesB := some plan1.timesB
  detsA := some plan1.detsA
  detsB := some plan1.detsB
  priority := some plan1.priority

/-- A draft that holds the tables. -/
def draft1 : Draft where
  groups := some tables1.groups
  conflicts := some tables1.conflicts
  ig := Vector.ofFn fun k => some tables1.ig[k]
  monitor := some tables1.monitor

/-- The street with the trial slot complete. -/
def trialStreet : State := street.onPts fun p => { p with trial := trial1 }

/-- FLASH with the draft complete. -/
def draftFlash : State := flashing.onPts fun p => { p with draft := draft1 }

/-! ## Ill-formed commands -/

/-- The settings of an approach as a request gives them. -/
def rawApp : RawApproach where
  present := true
  tramGroup := 4
  priorityStage := 1
  run := 200
  ext := 100
  tmax := 1000
  recovery := 150
  checkinGuard := 30

/-- The settings of a detector as a request gives them. -/
def rawDet : RawDetector where
  kind := .demand
  groups := 1
  approach := 0
  faultMode := .quiet
  stuckOn := 0
  stuckOff := 0
  ringLength := 2
  edgeReporting := false

/-- The timings of a group as a request gives them. -/
def rawTimes : GroupTimes := { ming := 60, maxg := 300, gap := 30, maxwait := 0, recallOn := false }

/-- A SEQUENCE section as a request gives it. -/
def rawSeq : RawSequence :=
  { count := 1, entries := List.replicate 16 { stage := 1, always := true }, mode := .cyclic, startStage := 1
    resumeMin := 0 }

theorem test_wf_bytes :
    (Instr.groups 0 256).wellFormed = false ∧ (Instr.detector 0 256).wellFormed = false
    ∧ (Instr.faults 0 256).wellFormed = false ∧ (Instr.planRead 0 256 .stages).wellFormed = false
    ∧ (Instr.modeRequest 0 256).wellFormed = false ∧ (Instr.planSelect 0 256).wellFormed = false
    ∧ (Instr.demandPlace 0 256).wellFormed = false ∧ (Instr.detectorMask 0 256 true).wellFormed = false
    ∧ (Instr.tramOut 0 256).wellFormed = false ∧ (Instr.callCancel 0 256).wellFormed = false
    ∧ (Instr.linkSet 0 256).wellFormed = false ∧ (Instr.planStore 0 256).wellFormed = false
    ∧ (Instr.protectSet 0 256).wellFormed = false ∧ (Instr.startPlanSet 0 256).wellFormed = false := by decide

theorem test_wf_several :
    (Instr.manualPost 0 256 0).wellFormed = false ∧ (Instr.manualPost 0 0 65536).wellFormed = false
    ∧ (Instr.tramIn 0 256 none none).wellFormed = false ∧ (Instr.tramIn 0 1 (some 65536) none).wellFormed = false
    ∧ (Instr.tramIn 0 1 none (some 65536)).wellFormed = false
    ∧ (Instr.callPlace 0 256 0 1 0 50).wellFormed = false ∧ (Instr.callPlace 0 1 256 1 0 50).wellFormed = false
    ∧ (Instr.callPlace 0 1 0 256 0 50).wellFormed = false ∧ (Instr.callPlace 0 1 0 1 65536 50).wellFormed = false
    ∧ (Instr.callPlace 0 1 0 1 0 65536).wellFormed = false ∧ (Instr.callHoldExpiry 0).wellFormed = false
    ∧ (Instr.callHoldExpiry 256).wellFormed = false ∧ (Instr.callHoldExpiry 255).wellFormed = true := by decide

theorem test_wf_plan_sections :
    rawSeq.fits = true ∧ ({ rawSeq with count := 256 } : RawSequence).fits = false
    ∧ ({ rawSeq with entries := [] } : RawSequence).fits = false
    ∧ ({ rawSeq with entries := List.replicate 16 { stage := 256, always := true } } : RawSequence).fits = false
    ∧ ({ rawSeq with startStage := 256 } : RawSequence).fits = false
    ∧ ({ rawSeq with resumeMin := 256 } : RawSequence).fits = false
    ∧ ({ rawTimes with ming := 65536 } : GroupTimes).fits = false
    ∧ ({ rawTimes with maxg := 65536 } : GroupTimes).fits = false
    ∧ ({ rawTimes with gap := 256 } : GroupTimes).fits = false
    ∧ ({ rawTimes with maxwait := 65536 } : GroupTimes).fits = false
    ∧ ({ rawDet with approach := 256 } : RawDetector).fits = false
    ∧ ({ rawDet with stuckOn := 65536 } : RawDetector).fits = false
    ∧ ({ rawDet with stuckOff := 65536 } : RawDetector).fits = false
    ∧ ({ rawDet with ringLength := 256 } : RawDetector).fits = false := by decide

theorem test_wf_sections :
    ({ rawApp with tramGroup := 256 } : RawApproach).fits = false
    ∧ ({ rawApp with priorityStage := 256 } : RawApproach).fits = false
    ∧ ({ rawApp with run := 65536 } : RawApproach).fits = false
    ∧ ({ rawApp with ext := 65536 } : RawApproach).fits = false
    ∧ ({ rawApp with tmax := 65536 } : RawApproach).fits = false
    ∧ ({ rawApp with recovery := 65536 } : RawApproach).fits = false
    ∧ ({ rawApp with checkinGuard := 256 } : RawApproach).fits = false
    ∧ ({ present := true, kind := .vehicle, close := 256, opent := 0 } : GroupDef).fits = false
    ∧ ({ present := true, kind := .vehicle, close := 0, opent := 256 } : GroupDef).fits = false
    ∧ IgRow.fits (Vector.replicate 24 (some 256)) = false
    ∧ ({ tables1.monitor with mtol := 256 } : MonitorStart).fits = false
    ∧ ({ tables1.monitor with startFlash := 65536 } : MonitorStart).fits = false
    ∧ ({ tables1.monitor with startClear := 256 } : MonitorStart).fits = false
    ∧ (Instr.planSection 0 (.priority (Vector.replicate 4 { rawApp with run := 65536 }))).wellFormed = false
    ∧ (Instr.planSection 0 (.priority (Vector.replicate 4 rawApp))).wellFormed = true
    ∧ (Instr.tableSection 0 (.monitorStart { tables1.monitor with mtol := 256 })).wellFormed = false := by decide

/-! ## The link, byte by byte (R196, R206; the CRC values are computed by hand from R196's polynomial) -/

theorem test_crc_check_value : crc [0x31, 0x32, 0x33, 0x34, 0x35, 0x36, 0x37, 0x38, 0x39] = 0x29B1 := by decide +kernel

theorem test_frame_table_lock :
    requestFrame (.tableLock 7) = some [0xA5, 0x00, 0x1A, 0x07, 0xC3, 0x50] := by decide +kernel

theorem test_frame_manual_post :
    requestFrame (.manualPost 9 2 300) = some [0xA5, 0x03, 0x0B, 0x09, 0x02, 0x2C, 0x01, 0xB2, 0xE2] := by decide +kernel

theorem test_frame_tram_in :
    requestFrame (.tramIn 1 1 (some 12345) (some 400))
      = some [0xA5, 0x07, 0x0F, 0x01, 0x01, 0x01, 0x39, 0x30, 0x01, 0x90, 0x01, 0x04, 0x68] := by decide +kernel

/-- A frame received byte by byte takes its request: MANUAL_POST of stage 2 with hold 300 in MANUAL. -/
theorem test_frame_received :
    ((receiveBytes [0xA5, 0x03, 0x0B, 0x09, 0x02, 0x2C, 0x01, 0xB2, 0xE2] (inMode .manual)).seq.manualSlot
      = some (1, 300)) := by decide +kernel

/-- What a test reads of the state a command answers. -/
def after {α : Type} (i : Instr) (s : State) (f : State → α) : Option α :=
  match exec i s with
  | .next t => some (f t)
  | _ => none

/-! ## Tables and worked values of the manual -/

/-- R4, row by row of three kinds. -/
theorem test_aspects :
    aspectOf .vehicle .opening = .redAmber ∧ aspectOf .pedestrian .closing = .flashingWalker
    ∧ aspectOf .tram .opened = .proceedBar ∧ aspectOf .arrow .closed = .arrowOff ∧ aspectOf .pedestrian .flash = .allOff
    ∧ Aspect.flashingWalker.litGo = true ∧ Aspect.redAmber.litRed = true ∧ Aspect.arrowOff.litRed = false := by decide

/-- Section 2.2: the tables of the small junction pass, and each of these changes is the failure the table names. -/
theorem test_validation :
    validate tables1 = none
    ∧ (validate { tables1 with monitor := { tables1.monitor with mtol := 21 } }).map Failure.code = some .mtolRange
    ∧ (validate { tables1 with monitor := { tables1.monitor with startClear := 29 } }).map Failure.code
        = some .startRange
    ∧ (validate { tables1 with conflicts := tables1.conflicts.set 1 0 }).map Failure.code = some .asymmetric := by
  decide +kernel

/-- The example of section 1.3: a PEDESTRIAN group with an intergreen of 100 leaves OPEN, and CR becomes 100. -/
theorem test_leaving_open :
    ((leaveOpen 2 (withGrp 2 openRec)).grp 2).phaseTimer = 70 ∧ ((leaveOpen 2 (withGrp 2 openRec)).grp 0).cr = 100 := by
  decide +kernel

/-- The example of section 2.3: the larger of two clearances stands. -/
theorem test_clearances_take_the_larger :
    ((leaveOpen 2 (leaveOpen 1 ((withGrp 2 openRec).onGrp 1 fun _ => openRec))).grp 0).cr = 100
    ∧ ((leaveOpen 1 (leaveOpen 2 ((withGrp 2 openRec).onGrp 1 fun _ => openRec))).grp 0).cr = 100 := by decide +kernel

/-- R125 by hand: from {1, 4} to {2, 3}, group 2 needs the larger of 20 and IG[1][2] = 50, group 3 IG[1][3] = 30. -/
theorem test_transition_time : transitionTime street 9 6 = 50 ∧ transitionTime street 9 9 = 0 := by decide +kernel

/-- R180: a PEDESTRIAN MING of 10 is raised to 40, and MAXG to that; a MAXWAIT of 50 to 100. -/
theorem test_clamp_times :
    clampTimes 40 { ming := 10, maxg := 20, gap := 101, maxwait := 50, recallOn := false }
      = ({ ming := 40, maxg := 40, gap := 100, maxwait := 100, recallOn := false }, 4) := by decide

/-! ## One step of each command -/

theorem test_power_on_reset :
    after .powerOnReset street (fun t => (t.jmc.darkCause, t.pts.verify, t.pts.tables.isNone))
      = some (some .verifying, some 10, true) := by decide +kernel

/-- R178, R141: a store never written leads to NO_TABLES. -/
theorem test_verification_end :
    after .verificationEnd { State.reset with pts := { verify := some 0 } } (fun t => t.jmc.darkCause)
      = some (some .noTables) := by decide +kernel

/-- R44: the third failure in a row makes PARITY active. -/
theorem test_detector_word_parity :
    after (.detectorWord 1 true false false) (street.onDet 0 fun r => { r with parityRun := 2 })
      (fun t => ((t.det 0).parity, (t.det 0).occupied)) = some (true, false) := by decide +kernel

/-- R53: an OCCUPIED edge of a DEMAND_EXTEND detector latches its group. -/
theorem test_detector_word_edge :
    after (.detectorWord 1 true false true) (street.onDet 0 fun r => { r with settled := true, silent := false })
      (fun t => ((t.dem 1).latched, (t.det 0).count, GroupSet.has t.dti.ext 1)) = some (true, 1, true) := by
  decide +kernel

theorem test_silence_confirmed :
    after (.silenceConfirmed 0) (street.onDet 0 fun r => { r with silence := 30 }) (fun t => (t.det 0).settled)
      = some true := by decide +kernel

theorem test_stuck_limit :
    after (.stuckLimitReached 0) (street.onDet 0 fun r => { r with occupied := true, settled := true, sinceChange := 600 })
      (fun t => (t.det 0).stuckOn) = some true := by decide +kernel

/-- R8: CR at OPENT admits the group, with OPENT on its phase timer. -/
theorem test_clearance_countdown :
    after (.clearanceCountdown 1) ((withGrp 0 { state := .closed }).onGrp 1 fun r => { r with openPending := true, cr := 20 })
      (fun t => ((t.grp 1).state, (t.grp 1).phaseTimer)) = some (.opening, 20) := by decide +kernel

/-- R18: an override below the floor of 50 is raised to it. -/
theorem test_opening_expiry :
    after (.openingExpiry 1) (withGrp 1 { state := .opening, override := some { ming := 10, maxg := 20 } })
      (fun t => ((t.grp 1).state, (t.grp 1).effMing, (t.grp 1).effMaxg)) = some (.opened, 50, 50) := by decide +kernel

theorem test_min_completion :
    after (.minCompletion 1) (withGrp 1 { state := .opened, openElapsed := 60, effMaxg := 60 })
      (fun t => (t.grp 1).ext) = some .maxed
    ∧ after (.minCompletion 1) (withGrp 1 { state := .opened, openElapsed := 60, effMaxg := 300 })
      (fun t => ((t.grp 1).ext, (t.grp 1).gapTimer)) = some (.running, 30) := by decide +kernel

theorem test_gap_and_max :
    after (.gapTimerExpiry 1) (withGrp 1 { openRec with gapTimer := 0 }) (fun t => (t.grp 1).ext) = some .gapped
    ∧ after (.maxGreenReached 1) (withGrp 1 { openRec with openElapsed := 300 }) (fun t => (t.grp 1).ext)
        = some .maxed := by decide +kernel

theorem test_closing_expiry :
    after (.closingExpiry 1) (withGrp 1 { state := .closing }) (fun t => (t.grp 1).state) = some .closed := by
  decide +kernel

theorem test_lamp_repeat :
    after .lampCommandRepeat street
      (fun t => (t.sge.lampLine.length, t.sge.lampLine.head?.map LampCommand.aspect, t.sge.lampRepeat))
      = some (24, some .green, 10) := by decide +kernel

/-- R72: the cut makes stage 1 ready, and CYCLIC goes on to the ALWAYS entry of stage 2. -/
theorem test_group_overdue :
    after (.groupOverdue 1)
      ((street.onSeq fun q => { q with position := 1 }).onDem 1 fun _ => { latched := true, sources := 1, wait := 601 })
      (fun t => (t.seq.current, t.seq.position, (t.grp 0).state)) = some (some 1, 2, .closing) := by decide +kernel

/-- R75, R79: the expiry ends a stage that is not ready, and its record is pushed. -/
theorem test_end_countdown_expiry :
    after .endCountdownExpiry (street.onSeq fun q => { q with h := some 0, position := 1 })
      (fun t => (t.seq.current, t.seq.h, t.seq.stack.map ResumeRec.stage)) = some (some 1, none, [0]) := by decide +kernel

/-- The countdown has run out in the tenth in which group 2 has become overdue; `awaited` holds the groups whose event SEQ
has yet to take. -/
def overdueAtExpiry (awaited : GroupSet) : State :=
  (street.onSeq fun q => { q with h := some 0, position := 1, overdueAwaited := awaited }).onDem 1 fun _ =>
    { latched := true, sources := 1, wait := 601 }

/-- The cause of the stage change that the idle transmitter has begun to report. -/
def causeSent (t : State) : Option StageCause :=
  match t.lnk.tx with
  | some (.report { body := .stageChange _ _ c _, .. } _) => some c
  | _ => none

/-- R75: the expiry that SEQ takes before the event ends the stage as not ready, TRUNCATED; the event taken first cuts it. -/
theorem test_expiry_beside_overdue :
    after .endCountdownExpiry (overdueAtExpiry 2) causeSent = some (some .truncated)
    ∧ after (.groupOverdue 1) (overdueAtExpiry 2) causeSent = some (some .ready) := by decide +kernel

/-- R71: in MANUAL a stage at rest takes the posted stage when the manual hold runs out. -/
theorem test_manual_hold_expiry :
    after .manualHoldExpiry
      ((inMode .manual).onSeq fun q => { q with manualHold := some 0, manualSlot := some (2, 100) })
      (fun t => (t.seq.current, t.seq.manualSlot, t.seq.manualHold)) = some (some 2, none, some 100) := by decide +kernel

/-- A tram that waits with two records in its queue. -/
def tram (tag : Nat) (st : TramState) : TramRec where
  tag := tag
  source := .link
  vehicle := some (100 + tag)
  checkIn := 0
  eta := 200
  age := 0
  state := st

/-- R95: the tag after 255 is 1, and a tag a record holds is passed over. -/
theorem test_tags : nextTagOf 255 = 1 ∧ freeTag 2 [tram 1 .waiting] 1 = 2 := by decide

/-- The street with a queue on approach 1. -/
def queued (q : List TramRec) (e : Episode) : State :=
  street.onApp 0 fun x => { x with queue := q, episode := e, nextTag := 3 }

theorem test_tram_timeout :
    after (.tramTimeout 0) (queued [{ tram 1 .served with age := 1000 }, tram 2 .served] .idle)
      (fun t => (t.app 0).queue.map TramRec.tag) = some [2] := by decide +kernel

theorem test_recovery_and_guard :
    after (.recoveryExpiry 0) (queued [] .recovering) (fun t => (t.app 0).episode) = some .idle
    ∧ after (.guardExpiry 0) (street.onApp 0 fun x => { x with checkinGuard := 1 }) (fun t => (t.app 0).checkinGuard)
        = some 0 := by decide +kernel

/-- R123, R129: the cap runs out and the tram group's hold is released. -/
theorem test_cap_expiry :
    after (.capExpiry 0) (((queued [tram 1 .serving] .serving).setHolders 3 [.approach 0]).setCap 0 (.loaded 0)
        |>.onGrp 3 fun r => { r with hold := true })
      (fun t => (t.cap 0, (t.grp 3).hold, t.holders 3)) = some (.absent, false, []) := by decide +kernel

/-- A call for stage 3. -/
def call1 (st : CallState) : Call where
  id := 7
  level := .bus
  target := 2
  eta := 0
  hold := 100
  remaining := 0
  age := 0
  state := st
  servingStage := none
  planned := false

/-- The street with one call. -/
def called (st : CallState) : State := street.onPri fun p => { p with calls := [call1 st] }

theorem test_call_hold_expiry :
    after (.callHoldExpiry 7) (called .serving) (fun t => t.pri.calls.length) = some 0 := by decide +kernel

/-- The street in a phase of start-up. -/
def starting (p : Phase) : State :=
  { flashing with jmc := { mode := .startup, darkCause := none, phase := some p, timer := 0, safeRequest := true } }

/-- R147: the groups are CLOSED with START_CLEAR to run, and ALL_RED gives way to FIRST_STAGE. -/
theorem test_start_up :
    after .startFlashingExpiry (starting .startFlashing)
      (fun t => (t.jmc.phase, t.jmc.timer, (t.grp 0).state, (t.grp 0).cr, t.seq.current))
      = some (some .allRed, 50, .closed, 50, some 0)
    ∧ after .allRedExpiry (starting .allRed) (fun t => t.jmc.phase) = some (some .firstStage) := by decide +kernel

/-- R161: a go-lamp end of group 3 raises the shadow of group 1 to 100 less 70. -/
theorem test_lamp_sense_record :
    after (.lampSenseRecord 3 true false false true true) (flashing.onMon 2 fun m => { m with go := true })
      (fun t => ((t.mon 0).scr, (t.mon 0).source)) = some (30, some 2) := by decide +kernel

/-- R162, R170: two conflicting go lamps force FLASH. -/
theorem test_conflict_forces_flash :
    after (.lampSenseRecord 2 false false true false true) (street.onMon 0 fun m => { m with go := true })
      (fun t => (t.jmc.mode, t.cmon.first.map FirstFault.source, (t.grp 0).state))
      = some (.flash, some .conflictGo, .flash) := by decide +kernel

/-- A group's go lamp sensed lit in FLASH for longer than MTOL. -/
def goStuck : State := flashing.onMon 0 fun m => { m with go := true, goTimer := 6 }

theorem test_mismatch_exceeds :
    after (.mismatchTimerExceeds 0) goStuck (fun t => SourceSet.has t.cmon.latched .goMismatch) = some true := by
  decide +kernel

theorem test_sense_silence :
    after (.senseSilence 0) (flashing.onMon 0 fun m => { m with silence := 10 })
      (fun t => (SourceSet.has t.cmon.latched .senseSilent, t.cmon.first.isNone)) = some (true, true) := by decide +kernel

theorem test_integrity_comparison :
    after .integrityComparison (street.onCmon fun c => { c with compareTimer := 0 }) (fun t => (t.cmon.integrity, t.cmon.compareTimer)) = some (true, 50) := by
  decide +kernel

theorem test_safe_drop :
    after .safeDrop (goStuck.onCmon fun c => { c with dropTimer := 30 })
      (fun t => (t.safeOutput, t.jmc.darkCause, (t.grp 1).state)) = some (false, some .safeDropped, .dark) := by
  decide +kernel

theorem test_window_and_shadow_end :
    after .restartWindowEnd (flashing.onCmon fun c => { c with window := 1 }) (fun t => t.cmon.window) = some 0
    ∧ after (.shadowClearanceFallsToMtol 0) (flashing.onCmon fun c => { c with counted := [.intergreenShort 0] })
        (fun t => t.cmon.counted) = some [] := by decide +kernel

theorem test_plan_write_done :
    after .planWriteDone (street.onPts fun p => { p with write := some { target := .slot 4 plan1, remaining := 0 } })
      (fun t => ((t.slot 4).state, t.pts.write.isNone)) = some (.valid, true) := by decide +kernel

theorem test_table_write_done :
    after .tableWriteDone (flashing.onPts fun p => { p with write := some { target := .tables tables1, remaining := 0 } })
      (fun t => (t.pts.currentArea, t.pts.write.isNone)) = some (1, true) := by decide +kernel

theorem test_link_receiver :
    after (.linkByte 0xA5 false) street (fun t => t.lnk.rx) = some (.assembling [0xA5])
    ∧ after .receiveGapTimeout (street.onLnk fun l => { l with rx := .assembling [0xA5] }) (fun t => t.lnk.rx)
        = some .hunting := by decide +kernel

/-- A reply as the tests use it. -/
def reply1 : Reply := { kind := 0x41, tag := 1, status := .ok }

/-- R199: a reply goes before a report. -/
theorem test_transmit_complete :
    after .transmitComplete
      (street.onLnk fun l =>
        { l with tx := some (.reply reply1), replies := [reply1], reports := [{ time := 0, body := .noTables }] })
      (fun t => (t.lnk.tx, t.lnk.reports.length)) = some (some (.reply reply1), 1) := by decide +kernel

/-- The status of the reply that the idle transmitter has begun. -/
def answered (t : State) : Option Status :=
  match t.lnk.tx with
  | some (.reply r) => some r.status
  | _ => none

/-- Section 5.8, R206: an approach with no record takes 9 bytes, a record 12, and the ruling request 3. -/
theorem test_reply_items :
    (tramsItems street).length = 39 ∧ (tramsItems (queued [tram 1 .served] .idle)).length = 51
    ∧ bytesHolders [.call 9, .approach 1, .call 7] = [2, 2, 7, 9]
    ∧ (groupEntry street 3).take 4 = [4, 1, 2, 3] := by decide +kernel

theorem test_queries :
    after (.status 1) street answered = some (some .ok) ∧ after (.groups 1 4) street answered = some (some .range)
    ∧ after (.detector 1 33) street answered = some (some .range) ∧ after (.trams 1) street answered = some (some .ok)
    ∧ after (.calls 1) street answered = some (some .ok) ∧ after (.faults 1 3) street answered = some (some .ok)
    ∧ after (.stack 1) street answered = some (some .ok)
    ∧ after (.planRead 1 17 .stages) street answered = some (some .range)
    ∧ after (.tableRead 1 .inForce .conflicts) street answered = some (some .ok) := by decide +kernel

/-- R144: three cells of the table. -/
theorem test_mode_request :
    after (.modeRequest 1 4) street (fun t => t.jmc.mode) = some .manual
    ∧ after (.modeRequest 1 1) street (fun t => t.jmc.mode) = some .clearing
    ∧ after (.modeRequest 1 4) flashing answered = some (some .wrongMode) := by decide +kernel

theorem test_manual_post :
    after (.manualPost 1 2 1300) street answered = some (some .wrongMode)
    ∧ after (.manualPost 1 2 1300) (inMode .manual) answered = some (some .clamped) := by decide +kernel

theorem test_plan_select :
    after (.planSelect 1 0) trialStreet (fun t => t.seq.pendingPlan) = some (some 0)
    ∧ after (.planSelect 1 1) street answered = some (some .invalid) := by decide +kernel

theorem test_demand_place : after (.demandPlace 1 2) street (fun t => (t.dem 1).latched) = some true := by decide +kernel

theorem test_detector_mask :
    after (.detectorMask 1 1 true) street (fun t => (t.det 0).mask) = some true
    ∧ after (.detectorMask 1 33 true) street answered = some (some .range) := by decide +kernel

/-- R99: a record with the number is updated, and a new record takes the next tag. -/
theorem test_tram_in :
    after (.tramIn 1 1 (some 101) (some 1300)) (queued [tram 1 .served] .idle)
      (fun t => (answered t, (t.app 0).queue.map TramRec.eta)) = some (some .clamped, [1200])
    ∧ after (.tramIn 1 1 none none) (queued [tram 1 .served] .idle)
      (fun t => (t.app 0).queue.map fun r => (r.tag, r.eta)) = some [(1, 200), (3, 200)] := by decide +kernel

theorem test_tram_out :
    after (.tramOut 1 1) (queued [tram 1 .served, tram 2 .served] .idle) (fun t => (t.app 0).queue.map TramRec.tag)
      = some [2]
    ∧ after (.tramOut 1 1) street answered = some (some .notFound) := by decide +kernel

/-- R109: an EMERGENCY call's ETA is 0, and a hold of 30 is clamped to 50. -/
theorem test_call_place :
    after (.callPlace 1 9 1 3 500 30) street
      (fun t => (answered t, (t.pri.calls.map fun c => (c.eta, c.hold)))) = some (some .clamped, [(0, 50)]) := by
  decide +kernel

theorem test_call_cancel :
    after (.callCancel 1 7) (called .waiting) (fun t => t.pri.calls.length) = some 0
    ∧ after (.callCancel 1 8) (called .waiting) answered = some (some .notFound) := by decide +kernel

theorem test_fault_clear :
    after (.faultClear 1) (flashing.onCmon fun c => { c with latched := 4 })
      (fun t => (t.cmon.latched, t.cmon.window)) = some (0, 6000)
    ∧ after (.faultClear 1) goStuck answered = some (some .faultPersists) := by decide +kernel

theorem test_restart :
    after (.restart 1) flashing (fun t => (t.jmc.mode, t.seq.activeSlot)) = some (.flash, none)
    ∧ after (.restart 1) street answered = some (some .wrongMode) := by decide +kernel

theorem test_link_set :
    after (.linkSet 1 47) street (fun t => t.lnk.af) = some 47
    ∧ after (.linkSet 1 48) street answered = some (some .range) := by decide +kernel

theorem test_plan_section :
    after (.planSection 1 (.stages (Vector.replicate 16 3))) street answered = some (some .conflict)
    ∧ after (.planSection 1 (.stages (Vector.replicate 16 9))) street (fun t => t.pts.trial.stages.isSome)
        = some true := by decide +kernel

theorem test_plan_store :
    after (.planStore 1 5) trialStreet (fun t => ((t.slot 4).state, t.pts.write.map Write.remaining))
      = some (.writing, some 20)
    ∧ after (.planStore 1 5) street answered = some (some .incomplete) := by decide +kernel

theorem test_table_section :
    after (.tableSection 1 (.conflicts tables1.conflicts)) flashing (fun t => t.pts.draft.conflicts.isSome) = some true
    ∧ after (.tableSection 1 (.conflicts tables1.conflicts)) street answered = some (some .wrongMode) := by decide +kernel

theorem test_table_commit :
    after (.tableCommit 1) draftFlash (fun t => t.pts.write.map Write.remaining) = some (some 40)
    ∧ after (.tableCommit 1) flashing answered = some (some .incomplete) := by decide +kernel

theorem test_lock :
    after (.tableLock 1) street (fun t => t.pts.locked) = some true
    ∧ after (.tableUnlock 1) street answered = some (some .noStrap) := by decide +kernel

theorem test_settings :
    after (.protectSet 1 16) street (fun t => t.pts.protect) = some 16
    ∧ after (.protectSet 1 17) street answered = some (some .range)
    ∧ after (.startPlanSet 1 3) street answered = some (some .invalid)
    ∧ after (.startPlanSet 1 3) (street.onSlot 2 fun x => { x with state := .valid }) (fun t => t.pts.startPlan)
        = some 2 := by decide +kernel

/-- A call found to rule is planned with H 0, the stage ends, and the ARROW group of its stage opens at once for it. -/
theorem test_age_reverses_order :
    after .ageReversesOrder (called .waiting) (fun t => (t.pri.rulingHeld, t.pri.calls.map Call.state, t.seq.current))
      = some (none, [.serving], some 2) := by decide +kernel

/-- A step on an empty queue is one tenth (assumption 1). -/
theorem test_step_is_a_tenth :
    (match step street with | .next t => t.time | _ => 0) = 1 ∧ decodeTableWord 16 0 = none := by decide +kernel

/-! ## Witnesses: for each statement with hypotheses, states and operands that meet them, clause by clause -/

theorem witness_StepRunsFrontCommand :
    ({ street with pending := [.tableLock 1, .status 2] } : State).pending = .tableLock 1 :: [.status 2] := rfl

theorem witness_CommandsKeepQueuePinsTimeAndSettings :
    (∃ t, exec (.tableLock 1) street = .next t) ∧ Instr.tableLock 1 ≠ .powerOnReset ∧ ∃ t, settle 1 street = t :=
  ⟨⟨_, rfl⟩, by decide, _, rfl⟩

theorem witness_IdleTenthQueuesEveryDueEvent : street.pending = [] := rfl

theorem witness_TenthMovesEveryTimer :
    ((street.setCap 0 (.loaded 5)).setCap 1 .armed).pending = [] ∧ (street.grp 0).minDone = true
    ∧ (street.grp 0).ext = .running ∧ ((street.setCap 0 (.loaded 5)).setCap 1 .armed).cap 0 = .loaded 5
    ∧ ((street.setCap 0 (.loaded 5)).setCap 1 .armed).cap 1 = .armed
    ∧ ((street.setCap 0 (.loaded 5)).setCap 1 .armed).cap 2 = .absent ∧ goStuck.goMismatchPresent = true := by
  decide +kernel

theorem witness_PowerOnResetSetsEveryBlock :
    ((street.onSlot 4 fun x => { x with state := .writing }).slot 4).state = .writing
    ∧ ((street.onSlot 4 fun x => { x with state := .writing }).slot 3).state ≠ .writing := by decide +kernel

/-- The end of a verification, with the stored tables given. -/
def verified (x : Option StoredTables) : State :=
  { State.reset with pts := { verify := some 0, areas := #v[x, none] } }

/-- Tables that ask for AUTOSTART, SENSE_SILENT fatal. -/
def selfStarting : Tables := { tables1 with monitor := { tables1.monitor with fatal := 39, autostart := true } }

/-- Their verification ends with the board of group 1 silent. -/
def silentAtStart : State :=
  (verified (some { tables := selfStarting, check := tablesCheck selfStarting })).onMon 0 fun m => { m with silence := 10 }

theorem witness_VerificationEndsDarkOrInFlash :
    (verified none).notices = [] ∧ (verified none).pts.verify = some 0 ∧ (verified none).jmc.mode = .dark
    ∧ verifiedTables (verified none).pts = none
    ∧ verifiedTables (verified (some { tables := tables1, check := tablesCheck tables1 })).pts = some tables1
    ∧ tables1.monitor.autostart = false
    ∧ ((verified none).onCmon fun c => { c with first := some { source := .redOut, groups := [1], time := 3 } }).cmon.first.isSome
        = true
    ∧ SourceSet.has selfStarting.monitor.fatal .senseSilent = true
    ∧ (silentAtStart.pts.verify = some 0 ∧ silentAtStart.cmon.counted = [] ∧ selfStarting.groups[(0 : GroupId)].present = true
      ∧ 10 ≤ (silentAtStart.mon 0).silence) :=
  ⟨rfl, rfl, rfl, rfl, by simp [verifiedTables, verified], rfl, rfl, by decide, by decide +kernel⟩

/-- R141, R167: SENSE_SILENT occurs at the entry into FLASH from DARK, and a fatal one stops AUTOSTART. -/
theorem test_silence_stops_autostart :
    (let s := { silentAtStart with
        pts := { tables := some selfStarting }, cmon := { silentAtStart.cmon with compareTimer := 50 } }
      let t := tablesVerified .dark .restart s
      (t.jmc.mode, t.cmon.first.map FirstFault.source)) = (.flash, some .senseSilent) := by decide +kernel

theorem street_safe : Safe street where
  tables :=
    { inForce := fun t h => by
        have : t = tables1 := (Option.some.inj h).symm
        subst this
        unfold Tables.sound
        decide +kernel
      stored := fun k x h => by
        revert h
        fin_cases k <;> intro h <;> cases h
      written := fun t n h => by cases h }
  modes :=
    { absent := by decide +kernel
      flash := fun h => by cases h
      dark := fun h => by cases h
      verifying := fun h => by cases h }
  interlock := by unfold Interlocked; decide +kernel

theorem witness_EveryStepKeepsTheInterlock : Safe street ∧ ∃ t, step street = .next t := ⟨street_safe, _, rfl⟩

/-- FLASH with the strap asserted, the lock LOCKED and a TABLE_UNLOCK in front. -/
def unlocking : State :=
  { flashing with
    pins := { commission := true }, pending := [.tableUnlock 1]
    pts := { flashing.pts with locked := true } }

theorem witness_LockOpensOnlyByUnlockWithStrap :
    ∃ t, step unlocking = .next t ∧ unlocking.pts.locked = true ∧ t.pts.locked = false := ⟨_, rfl, rfl, rfl⟩

theorem witness_SafeDroppedClearedOnlyByPowerOnReset :
    (∃ t, step (street.onCmon fun c => { c with safeDropped := true }) = .next t)
    ∧ (street.onCmon fun c => { c with safeDropped := true }).cmon.safeDropped = true := ⟨⟨_, rfl⟩, rfl⟩

/-- FLASH with a fault recorded within the restart window. -/
def faulted : State :=
  flashing.onCmon fun c =>
    { c with first := some { source := .redOut, groups := [1], time := 3 }, latched := 16, lockout := true }

theorem witness_FaultRecordClearedOnlyByRequestOrReset :
    (∃ t, step faulted = .next t) ∧ (∀ rest, faulted.pending ≠ .powerOnReset :: rest)
    ∧ faulted.cmon.first = some { source := .redOut, groups := [1], time := 3 } ∧ faulted.cmon.lockout = true :=
  ⟨⟨_, rfl⟩, by (intro rest h; have e : ([] : List Instr) = .powerOnReset :: rest := h; cases e), rfl, rfl⟩

theorem witness_EveryStepKeepsLinkQueuesBounded :
    LinkBounded (street.onLnk fun l => { l with replies := List.replicate 4 reply1, af := 47 })
    ∧ ∃ t, step (street.onLnk fun l => { l with replies := List.replicate 4 reply1, af := 47 }) = .next t :=
  ⟨by unfold LinkBounded; decide +kernel, _, rfl⟩

theorem witness_EveryStepKeepsTramQueuesAndCallTable :
    RequestsBounded (queued [tram 255 .waiting, tram 1 .waiting] .idle)
    ∧ ∃ t, step (queued [tram 255 .waiting, tram 1 .waiting] .idle) = .next t :=
  ⟨by unfold RequestsBounded Approach.bounded; decide +kernel, _, rfl⟩

/-- The street while slot 5 is being written. -/
def writingFive (remaining : Nat) : State :=
  street.onPts fun p => { p with write := some { target := .slot 4 plan1, remaining := remaining }, protect := 4 }

theorem witness_EveryStepKeepsWritesAboveProtection :
    WriteAboveProtection (writingFive 3) ∧ ∃ t, step (writingFive 3) = .next t :=
  ⟨by intro n h; have : n = 4 := (Option.some.inj h).symm; subst this; decide +kernel, _, rfl⟩

theorem witness_EveryStepKeepsResumeStackRising :
    StackRising (street.onSeq fun q => { q with stack := [
      { stage := 2, level := 2, dSaved := 5, budget := 9, request := some (.call 7) },
      { stage := 1, level := 0, dSaved := 0, budget := 0, request := none }] })
    ∧ ∃ t, step (street.onSeq fun q => { q with stack := [
      { stage := 2, level := 2, dSaved := 5, budget := 9, request := some (.call 7) },
      { stage := 1, level := 0, dSaved := 0, budget := 0, request := none }] }) = .next t :=
  ⟨by unfold StackRising; decide +kernel, _, rfl⟩

theorem witness_StoreSettingsTakenOrRefused :
    unlocking.pins.commission = true ∧ street.pins.commission = false
    ∧ 3 < (writingFive 3).pts.protect ∧ { (writingFive 3).pts with locked := true }.locked = true
    ∧ (writingFive 3).writingSlot? = some 4 ∧ number (4 : PlanSlot) ≤ 5
    ∧ (writingFive 3).pts.protect < number (4 : PlanSlot) ∧ street.writingSlot? = none
    ∧ (street.slot 2).state ≠ .valid ∧ ((street.onSlot 2 fun x => { x with state := .valid }).slot 2).state = .valid := by
  decide +kernel

/-- A plan whose first stage holds two conflicting groups. -/
def badPlan : Plan := { plan1 with stages := plan1.stages.set 0 3 }

theorem witness_PlanStoreInOrderOfChecks :
    (∃ t, exec (.planSection 1 (.stages plan1.stages)) street = .next t)
    ∧ street.pts.trial.complete? = none ∧ trialStreet.pts.trial.complete? = some plan1
    ∧ number (4 : PlanSlot) ≤ (trialStreet.onPts fun p => { p with protect := 5 }).pts.protect
    ∧ trialStreet.pts.protect < number (0 : PlanSlot) ∧ trialStreet.seq.activeSlot = some (slotOf 0)
    ∧ trialStreet.seq.activeSlot ≠ some (slotOf 4) ∧ (writingFive 3).pts.write.isSome = true
    ∧ trialStreet.pts.write = none ∧ trialStreet.pts.verify = none ∧ trialStreet.pts.tables = some tables1
    ∧ wholePlanCheck tables1 plan1 = none ∧ (wholePlanCheck tables1 badPlan).isSome = true
    ∧ (trialStreet.onPts fun p => { p with tables := none }).pts.tables = none :=
  ⟨⟨_, rfl⟩, by decide +kernel⟩

/-- What the checks of a section answer, without the trial slot. -/
def taken (x : Except Denial (Trial × Nat)) : Option Nat :=
  match x with
  | .ok (_, n) => some n
  | .error _ => none

theorem witness_PlanSectionIsTakenWholeOrRefused :
    ({ street with seq := { street.seq with activeSlot := some 0 } } : State).seq.activeSlot = some 0
    ∧ street.seq.activeSlot ≠ some 0 ∧ street.pts.tables = some tables1
    ∧ taken (takeSection tables1 {} (.stages (Vector.replicate 16 3))) = none
    ∧ taken (takeSection tables1 {} (.stages plan1.stages)) = some 0
    ∧ taken (takeSection tables1 {} (.groupTimesA (Vector.replicate 12 { rawTimes with gap := 101 }))) = some 12
    ∧ ((0 : GroupId) < 1 ∧ GroupSet.has 3 0 = true ∧ GroupSet.has 3 1 = true ∧ Tables.conflict tables1 0 1 = true)
    ∧ (∀ g h : GroupId, g < h → GroupSet.has 32 g = true → GroupSet.has 32 h = true → Tables.conflict tables1 g h = false)
    ∧ (GroupSet.has 32 5 = true ∧ Tables.present tables1 5 = false)
    ∧ (∀ (k : StageId) (g : GroupId), GroupSet.has plan1.stages[k] g = true → Tables.present tables1 g = true)
    ∧ ∀ (k : StageId) (g h : GroupId), g < h → GroupSet.has plan1.stages[k] g = true →
        GroupSet.has plan1.stages[k] h = true → Tables.conflict tables1 g h = false := by decide +kernel

theorem witness_GroupTimesAreClamped :
    (11 : GroupId).val = 0 + (11 : Fin 12).val ∧ (12 : GroupId).val = 12 + (0 : Fin 12).val := ⟨rfl, rfl⟩

/-- What the checks of a section refuse it with. -/
def refusal (x : Except Denial (Trial × Nat)) : Option (Status × List Byte) :=
  match x with
  | .ok _ => none
  | .error d => some (d.status, d.items)

/-- R180, by its table: an entry of stage 17; approach 5; the second detector listing four groups, one absent, or none; an
approach whose tram group is a VEHICLE group. -/
theorem witness_PlanSectionsAreCheckedAndClamped :
    refusal (takeSection tables1 {} (.sequence { rawSeq with count := 17 })) = some (.range, [])
    ∧ refusal (takeSection tables1 {} (.sequence { rawSeq with entries := [{ stage := 17, always := true }] }))
      = some (.range, [])
    ∧ taken (takeSection tables1 {} (.sequence { rawSeq with resumeMin := 201 })) = some 1
    ∧ refusal (takeSection tables1 {} (.detectorsA (Vector.replicate 16 { rawDet with approach := 5 })))
      = some (.range, [])
    ∧ refusal (takeSection tables1 {}
        (.detectorsA ((Vector.replicate 16 { rawDet with approach := 1 }).set 1 { rawDet with approach := 1, groups := 15 })))
      = some (.invalid, [2])
    ∧ refusal (takeSection tables1 {}
        (.detectorsB ((Vector.replicate 16 { rawDet with approach := 1 }).set 1 { rawDet with approach := 1, groups := 32 })))
      = some (.invalid, [18])
    ∧ refusal (takeSection tables1 {}
        (.detectorsB ((Vector.replicate 16 { rawDet with approach := 1 }).set 15 { rawDet with approach := 1, groups := 0 })))
      = some (.invalid, [32])
    ∧ taken (takeSection tables1 {} (.detectorsA (Vector.replicate 16 { rawDet with approach := 1, stuckOn := 1 })))
      = some 16
    ∧ refusal (takeSection tables1 {} (.priority (Vector.replicate 4 { rawApp with priorityStage := 17 })))
      = some (.range, [])
    ∧ refusal (takeSection tables1 {} (.priority ((Vector.replicate 4 rawApp).set 2 { rawApp with tramGroup := 1 })))
      = some (.invalid, [3])
    ∧ taken (takeSection tables1 {} (.priority (Vector.replicate 4 { rawApp with tmax := 99, ext := 301 }))) = some 8 := by
  decide +kernel

/-- What the whole-plan check says of a plan. -/
def denied (p : Plan) : Option (Status × List Byte) := (wholePlanCheck tables1 p).map fun d => (d.status, d.items)

/-- R181, step by step of its table. -/
theorem witness_WholePlanCheckStopsAtTheFirstFailure :
    denied { plan1 with stages := (plan1.stages.set 0 3).set 4 96 } = some (.invalid, [5, 6])
    ∧ denied badPlan = some (.conflict, [1, 1, 2])
    ∧ denied { plan1 with sequence := { plan1.sequence with entries := plan1.sequence.entries ++ [⟨9, true⟩] } }
      = some (.invalid, [4])
    ∧ denied { plan1 with detsB := plan1.detsB.set 0 { unusedDet with kind := .demand, groups := 98 } }
      = some (.invalid, [17, 6])
    ∧ denied { plan1 with priority := plan1.priority.map fun a => { a with tramGroup := 0 } } = some (.invalid, [1])
    ∧ denied { plan1 with priority := plan1.priority.map fun a => { a with priorityStage := 1 } } = some (.invalid, [1])
    ∧ denied plan1 = none := by decide +kernel

/-- A draft whose MTOL is out of range. -/
def badTables : Tables := { tables1 with monitor := { tables1.monitor with mtol := 1 } }

theorem witness_DraftIsWrittenAndCommitted :
    street.jmc.mode ≠ .flash ∧ street.jmc.mode ≠ .dark ∧ flashing.jmc.mode = .flash ∧ unlocking.pts.locked = true
    ∧ flashing.pts.locked = false ∧ (writingFive 3).pts.write.isSome = true ∧ State.reset.pts.verify.isSome = true
    ∧ flashing.pts.write = none ∧ flashing.pts.verify = none ∧ flashing.pts.draft.complete? = none
    ∧ draftFlash.pts.draft.complete? = some tables1 ∧ validate tables1 = none ∧ (validate badTables).isSome = true
    ∧ street.pts.locked = false ∧ State.reset.jmc.mode = .dark := by
  decide +kernel

theorem witness_ValidTablesAreSymmetricWithIntergreens :
    validate tables1 = none ∧ Tables.conflict tables1 0 2 = true ∧ Tables.conflict tables1 0 3 = false := by decide +kernel

/-- FLASH with a table write in flight. -/
def committing (remaining : Nat) : State :=
  flashing.onPts fun p => { p with write := some { target := .tables tables1, remaining := remaining } }

theorem witness_StoreWritesComplete :
    ((writingFive 0).pts.write = some { target := .slot 4 plan1, remaining := 0 }
      ∧ ∀ n p, street.pts.write ≠ some { target := .slot n p, remaining := 0 })
    ∧ (committing 0).pts.write = some { target := .tables tables1, remaining := 0 } ∧ (committing 0).jmc.mode = .flash
    ∧ (committing 3).pts.write = some { target := .tables tables1, remaining := 2 + 1 }
    ∧ ({ committing 0 with jmc := street.jmc } : State).pts.write = some { target := .tables tables1, remaining := 0 }
    ∧ ({ committing 0 with jmc := street.jmc } : State).jmc.mode = .normal :=
  ⟨⟨rfl, fun _ _ h => by cases h⟩, rfl, rfl, rfl, rfl, rfl⟩

theorem witness_QueriesAnswerFromTheState :
    street.pts.tables = some tables1 ∧ State.reset.pts.tables = none
    ∧ street.seq.activeSlot = some 1 ∧ street.seq.activeSlot ≠ some (slotOf 4) ∧ (street.slot 4).state ≠ .valid
    ∧ ((street.onSlot 4 fun _ => { state := .valid, contents := some plan1, intact := false }).slot 4).state = .valid
    ∧ ((street.onSlot 4 fun _ => { state := .valid, contents := some plan1, intact := false }).slot 4).intact = false := by
  decide +kernel

/-- Reports of the three classes. -/
def rep (b : ReportBody) : Report := { time := 0, body := b }

theorem witness_LinkQueuesAdmitByClass :
    ({} : Lnk).replies.length < 4 ∧ 4 ≤ (List.replicate 4 reply1).length
    ∧ ReportBody.cls (.demandLatched 0 .link) = .detail ∧ ReportBody.cls .noTables = .operational
    ∧ ReportBody.cls (.fault .redOut [] false .latched false false) = .safety
    ∧ 39 < ({} : Lnk).af ∧ ({} : Lnk).af ≤ 40
    ∧ 48 ≤ ([rep .noTables] ++ List.replicate 47 (rep (.fault .redOut [] false .latched false false))).length := by
  decide +kernel

theorem witness_LinkSetTakesAf :
    (∃ t, exec .powerOnReset street = .next t) ∧ (∃ t, exec (.restart 1) street = .next t) ∧ 7 < 8 ∧ 47 < 48 ∧ 8 ≤ 47 :=
  ⟨⟨_, rfl⟩, ⟨_, rfl⟩, by decide, by decide, by decide⟩

theorem witness_ReceiverAssemblesAndTransmitterPrefersReplies :
    street.lnk.rx = .hunting ∧ [(0xA5 : Byte)].length = 1 ∧ 240 < (241 : Byte).toNat ∧ (240 : Byte).toNat ≤ 240
    ∧ ([] : List Byte).length + 1 ≠ (0 : Byte).toNat + 4 ∧ street.lnk.tx = none
    ∧ (street.onLnk fun l => { l with tx := some (.reply reply1), replies := [reply1] }).lnk.replies = reply1 :: []
    ∧ (street.onLnk fun l => { l with tx := some (.reply reply1), reports := [rep .noTables] }).lnk.reports
        = rep .noTables :: []
    ∧ (street.onLnk fun l => { l with tx := some (.reply reply1) }).lnk.tx ≠ none := by decide +kernel

theorem witness_FrameDeliversItsRequest :
    (Instr.tramIn 1 1 (some 65535) none).wellFormed = true ∧ (requestFrame (.tramIn 1 1 (some 65535) none)).isSome = true
    ∧ street.lnk.rx = .hunting ∧ requestFrame (.tableLock 7) = some ([0xA5, 0x00, 0x1A, 0x07, 0xC3] ++ [0x50])
    ∧ (street.onLnk fun l => { l with rx := .assembling [0xA5, 0x00, 0x1A, 0x07, 0xC3] }).lnk.rx
      = .assembling [0xA5, 0x00, 0x1A, 0x07, 0xC3] ∧ street.notices = [] := by decide +kernel

theorem witness_BadFramesChangeNothingElse :
    ([] : List Byte).length = (0 : Byte).toNat
    ∧ [(0 : Byte), 0] ≠ [(crc [0, 0x1A, 7]).setWidth 8, (crc [0, 0x1A, 7] >>> 8).setWidth 8]
    ∧ 0x1D < (0x1E : Byte).toNat ∧ bodyLength 0x1A [0] = some (some 0) ∧ (some 0 : Option Nat) ≠ some [(0 : Byte)].length
    ∧ readRequest 0x0E 1 [1, 2] = none := by decide +kernel

theorem witness_OpeningExpiryEntersOpen :
    ((withGrp 1 { state := .opening }).grp 1).state = .opening ∧ ((withGrp 1 { state := .opening }).grp 1).phaseTimer = 0
    ∧ 0 < (street.times 1).ming ∧ (street.times 12).ming = 0 ∧ (street.grp 1).state ≠ .opening := by decide +kernel

theorem witness_MinCompletionAndFinalStatus :
    ((withGrp 1 { state := .opened }).grp 1).state = .opened ∧ ((withGrp 1 { state := .opened }).grp 1).mgRem = 0
    ∧ ((withGrp 1 { state := .opened }).grp 1).minDone = false
    ∧ (street.grp 0).state = .opened ∧ (street.grp 0).minDone = true ∧ (street.grp 0).ext = .running
    ∧ ((withGrp 0 { openRec with gapTimer := 0 }).grp 0).gapTimer = 0 ∧ (street.grp 0).extInput = false
    ∧ ((withGrp 0 { openRec with openElapsed := 300 }).grp 0).effMaxg
        ≤ ((withGrp 0 { openRec with openElapsed := 300 }).grp 0).openElapsed
    ∧ 0 < (street.grp 0).gapTimer ∧ ((withGrp 0 { openRec with gapTimer := 0, extInput := true }).grp 0).extInput = true
    ∧ (street.grp 0).openElapsed < (street.grp 0).effMaxg ∧ (street.grp 1).state ≠ .opened := by decide +kernel

theorem witness_LeavingOpenRaisesClearance :
    GroupSet.has (street.conflicts 0) 0 = false ∧ 0 < (street.groupDef 0).close ∧ (street.groupDef 4).close = 0
    ∧ ((withGrp 1 { state := .closing }).grp 1).state = .closing ∧ ((withGrp 1 { state := .closing }).grp 1).phaseTimer = 0
    ∧ (street.grp 1).state ≠ .closing := by decide +kernel

/-- Group 2 waits with its clearance at OPENT, group 1 closed. -/
def waitingTwo : State := (withGrp 0 { state := .closed }).onGrp 1 fun r => { r with openPending := true, cr := 20 }

/-- Two waiting groups that do not conflict, and the ARROW group of OPENT 0. -/
def waitingThree : State :=
  [1, 2, 4].foldl (fun s g => s.onGrp g fun _ => { state := .closed, openPending := true }) (withGrp 0 { state := .closed })

theorem test_clearance_admits_all :
    after (.clearanceCountdown 1) waitingThree (fun t => ((t.grp 1).state, (t.grp 2).state, (t.grp 4).state))
      = some (.opening, .opened, .opened) := by decide +kernel

theorem witness_ClearanceCountdownAdmitsInOrder :
    waitingTwo.present 1 = true ∧ (waitingTwo.grp 1).state = .closed ∧ (waitingTwo.grp 1).openPending = true
    ∧ (waitingTwo.grp 1).cr ≤ (waitingTwo.groupDef 1).opent ∧ 0 < (waitingTwo.groupDef 1).opent
    ∧ (∀ h, GroupSet.has (waitingTwo.conflicts 1) h = true → (waitingTwo.grp h).state.moving = false)
    ∧ (∀ h : GroupId, h < 1 → (waitingTwo.grp h).openPending = false)
    ∧ (canAdmit waitingThree 2 = true ∧ canAdmit waitingThree 4 = true ∧ (waitingThree.groupDef 4).opent = 0
      ∧ (waitingThree.grp 4).closePending = false ∧ GroupSet.has (waitingThree.conflicts 4) 1 = false
      ∧ GroupSet.has (waitingThree.conflicts 1) 4 = false)
    ∧ (let s := waitingThree.onGrp 0 fun r => { r with openPending := true };
      canAdmit s 0 = true ∧ canAdmit s 1 = true ∧ GroupSet.has (s.conflicts 1) 0 = true
      ∧ ((admitWaiting s).grp 0).state = .opening ∧ ((admitWaiting s).grp 1).state = .closed)
    ∧ ∀ h, (street.grp h).openPending = false := by decide +kernel

theorem witness_OpenAndCloseCommandsByState :
    street.present 5 = false ∧ street.present 1 = true ∧ (street.grp 1).state = .closed
    ∧ ((withGrp 1 { state := .closing, openPending := true }).grp 1).state = .closing
    ∧ ((withGrp 1 { state := .opening }).grp 1).state = .opening ∧ (street.grp 0).state = .opened ∧ (street.grp 0).mgRem = 0
    ∧ (street.grp 0).minDone = true ∧ ((withGrp 0 { openRec with minDone := false }).grp 0).minDone = false
    ∧ 0 < ((withGrp 0 { openRec with mgRem := 1 }).grp 0).mgRem ∧ (flashing.grp 0).state = .flash := by decide +kernel

theorem witness_DemandPlaceLatchesOutsideOpen :
    street.present 5 = false ∧ street.present 0 = true ∧ (street.grp 0).state = .opened ∧ (street.grp 1).state ≠ .opened
    ∧ (street.dem 1).latched = false ∧ ((street.onDem 1 fun e => { e with latched := true }).dem 1).latched = true := by
  decide +kernel

theorem witness_ManualPostFillsTheSlot :
    street.jmc.mode ≠ .manual ∧ (inMode .manual).jmc.mode = .manual ∧ (inMode .manual).seq.manualSlot = none
    ∧ ((inMode .manual).onSeq fun q => { q with manualSlot := some (2, 0), manualHold := some 0 }).seq.manualSlot.isSome
        = true
    ∧ ((inMode .manual).onSeq fun q => { q with manualSlot := some (2, 0), manualHold := some 0 }).seq.manualHold
        = some 0 := by decide +kernel

theorem witness_PlanSelectInOrderOfChecks :
    (inMode .startup).jmc.mode = .startup ∧ street.jmc.mode = .normal ∧ flashing.jmc.mode = .flash
    ∧ (writingFive 3).writingSlot? = some 4 ∧ street.pts.trial.complete? = none ∧ (street.slot 4).state = .empty
    ∧ trialStreet.pts.trial.complete? = some plan1 ∧ trialStreet.writingSlot? = none
    ∧ (flashing.onPts fun p => { p with trial := trial1 }).pts.trial.complete? = some plan1
    ∧ flashing.pts.tables = some tables1 ∧ wholePlanCheck tables1 plan1 = none
    ∧ (wholePlanCheck tables1 badPlan).isSome = true ∧ State.reset.pts.tables = none := by decide +kernel

/-- The street with an end countdown that has run out. -/
def countedDown : State := street.onSeq fun q => { q with h := some 0, position := 1 }

/-- What a choice yields. -/
def yields (c : Choice) : Option StageId := c.2.map Prod.fst

theorem witness_SequencerEventsChoose :
    countedDown.seq.h = some 0 ∧ countedDown.jmc.mode = .normal ∧ countedDown.seq.status = some .running
    ∧ yields (choose countedDown.begun) = some 1
    ∧ yields (choose ((countedDown.onPts fun p => { p with activeCopy := some { plan1 with
        sequence := { plan1.sequence with entries := [] } } }).begun)) = none
    ∧ street.seq.h ≠ some 0
    ∧ (((street.onDem 1 fun _ => { latched := true, sources := 1, wait := 601 }).dem 1).latched = true
      ∧ (street.grp 1).state ≠ .opened ∧ (street.times 1).maxwait ≠ 0 ∧ (street.times 1).maxwait < 601)
    ∧ (overdueAtExpiry 2).overdue 1 = false ∧ (overdueAtExpiry 0).overdue 1 = true
    ∧ ∀ g, street.overdue g = false := by
  decide +kernel

/-- A resume record of a stage at a level. -/
def resume0 (stage : StageId) (level : Nat) : ResumeRec where
  stage := stage
  level := level
  dSaved := 0
  budget := 0
  request := none

/-- The street with a call for another stage. -/
def callFor (t : StageId) : State := street.onPri fun p => { p with calls := [{ call1 .waiting with target := t }] }

/-- The street at level 2 for a call that still waits, over one record. -/
def midway : State :=
  ((called .waiting).onSeq fun q => { q with level := 2, stack := [resume0 1 0] }).onPri fun p =>
    { p with own := some (.call 7) }

/-- The street under a RANKED list. -/
def ranked : State :=
  street.onPts fun p => { p with
    activeCopy := some { plan1 with sequence := { plan1.sequence with mode := .ranked } } }

/-- The street under a plan that recalls the groups 1 to 12. -/
def recalled : State :=
  street.onPts fun p => { p with
    activeCopy := some { plan1 with timesA := plan1.timesA.map fun t => { t with recallOn := true } } }

/-- CLEARING with every group CLOSED. -/
def quietStreet : State :=
  { inMode .clearing with
    sge := { street.sge with recs := Vector.ofFn fun g => { state := if g.val < 5 then .closed else .dark } } }

/-- The street with a plan waiting. -/
def pendingOn (s : State) (n : SlotNo) : State := s.onSeq fun q => { q with pendingPlan := some n }

theorem witness_NextStageChoiceInOrderOfSteps :
    ((inMode .manual).seq.manualSlot = none
      ∧ ((inMode .manual).onSeq fun q => { q with manualSlot := some (2, 100) }).seq.manualSlot = some (2, 100))
    ∧ ((called .waiting).ruling = some (.call 7) ∧ (called .waiting).prioStage (.call 7) = 2
      ∧ (called .waiting).seq.current = some 0 ∧ (resume0 1 0).level < (called .waiting).reqLevel (.call 7)
      ∧ (called .waiting).seq.stack = [])
    ∧ (midway.seq.stack = resume0 1 0 :: [] ∧ some (resume0 1 0).stage ≠ midway.seq.current)
    ∧ (some (resume0 0 0).stage = street.seq.current ∧ 0 < (resume0 1 2).level ∧ (resume0 1 2).request = none)
    ∧ (street.seq.pendingPlan = none ∧ switchPermitted (pendingOn street 0) = true
      ∧ switchPermitted (pendingOn (called .waiting) 0) = false)
    ∧ ((writingFive 3).writingSlot? = some 4 ∧ slotOf 4 = 5 ∧ switchPermitted (pendingOn (writingFive 3) 5) = true)
    ∧ ((match (checkContents 0 (pendingOn street 0)).2 with | .ok _ => none | .error d => some d.status) = some .invalid)
    ∧ ((match (checkContents 0 (pendingOn trialStreet 0)).2 with | .ok p => some p | .error _ => none) = some plan1)
    ∧ yields (choose (pendingOn trialStreet 0)) = some 0
    ∧ (street.sequence.mode = .cyclic ∧ street.sequence.entries[1]? = some { stage := 1, always := true }
      ∧ chooseEntry (some 0) street = some (1, .sequence 2))
    ∧ (ranked.sequence.mode = .ranked ∧ ranked.sequence.entries[0]? = some { stage := 0, always := true }
      ∧ chooseEntry (some 0) ranked = some (1, .sequence 2) ∧ ranked.overdue 2 = false
      ∧ (ranked.onDem 2 fun _ => { latched := true, sources := 1, wait := 700 }).overdue 2 = true
      ∧ GroupSet.has (ranked.stageGroups 1) 2 = true)
    ∧ chooseEntry (some 0) (street.onPts fun p => { p with activeCopy := some { plan1 with
        sequence := { plan1.sequence with entries := [] } } }) = none := by decide +kernel

theorem witness_EndingBeginsTheTransition :
    street.seq.current = some 0 ∧ EndClass.expiry ≠ .ready ∧ street.seq.level = 0 ∧ street.seq.stack.length < 3
    ∧ GroupSet.has street.seq.groups 0 = true ∧ GroupSet.has (street.stageGroups 1) 0 = false ∧ street.present 0 = true
    ∧ (street.grp 0).state = .opened ∧ (street.grp 0).mgRem = 0 ∧ 0 < (street.groupDef 0).close
    ∧ 0 < ((withGrp 0 { openRec with mgRem := 5 }).grp 0).mgRem ∧ GroupSet.has (street.stageGroups 0) 0 = true
    ∧ GroupSet.has street.seq.groups 1 = false ∧ GroupSet.has (street.stageGroups 1) 1 = true ∧ street.present 1 = true
    ∧ ((withGrp 1 { state := .closing }).grp 1).state = .closing
    ∧ (midway.seq.stack = [resume0 1 0] ∧ (resume0 1 0).level < midway.seq.level ∧ midway.pri.own = some (.call 7)
      ∧ midway.stillWaits (.call 7) = true) := by decide +kernel

/-- Group 1 opens for the stage, with its button pressed; group 4 is open with a planned tram at its line. -/
def opening : State :=
  ((queued [tram 1 .waiting] .planned).onSeq fun q => { q with status := some .transition, starting := 1 }).onDem 0
    fun _ => { latched := true, sources := DemandSet.add 0 .button, wait := 5 }

theorem witness_GroupNoticesReachTheirBlocks :
    (opening.seq.status = some .transition ∧ GroupSet.has opening.seq.starting 0 = true
      ∧ GroupSet.minus opening.seq.starting (GroupSet.only 0) = 0 ∧ opening.seq.current = some 0
      ∧ GroupSet.minus (1 ||| 8 : GroupSet) (GroupSet.only 0) ≠ 0 ∧ street.seq.status ≠ some .transition)
    ∧ DemandSet.has (opening.dem 0).sources .button = true
    ∧ ((opening.appSet 0).present = true ∧ (opening.appSet 0).tramGroup = 3 ∧ (opening.grp 3).state = .opened
      ∧ (opening.app 0).episode = .planned ∧ (opening.app 0).queue = tram 1 .waiting :: [])
    ∧ (opening.appSet 1).present = false ∧ (street.grp 1).state ≠ .opened ∧ (street.app 0).episode ≠ .planned
    ∧ ((queued [tram 1 .serving] .serving).app 0).episode = .serving
    ∧ (street.onDem 1 fun _ => { latched := true, sources := 1, wait := 601 }).overdue 1 = true
    ∧ (recalled.times 1).recallOn = true ∧ recalled.present 1 = true ∧ (street.times 1).recallOn = false
    ∧ GroupSet.has (street.onDti fun d => { d with fault := 2 }).dti.fault 1 = true
    ∧ (∀ h, canAdmit street h = false) ∧ canAdmit waitingTwo 1 = true
    ∧ (street.push .watch).notices = .watch :: [] ∧ street.notices = [] := by decide +kernel

/-- The street returned to stage 1 for the request it was interrupted in. -/
def resumedFor (q : ReqRef) (s : State) : State := { s with seq := { s.seq with resumed := true }, pri := { s.pri with own := some q } }

theorem witness_ModeNoticesReachTheirBlocks :
    (starting .firstStage).jmc.mode = .startup ∧ street.jmc.mode ≠ .startup
    ∧ (street.seq.status = some .running ∧ street.seq.current = some 0) ∧ opening.seq.status ≠ some .running
    ∧ (call1 .waiting ∈ (called .waiting).pri.calls ∧ ((called .waiting).pri.calls.map Call.id).Nodup
      ∧ (callFor 0).ruling = some (.call 7) ∧ ((callFor 0).call? 7).map Call.target = some 0
      ∧ (resumedFor (.call 7) (called .waiting)).pri.own = some (.call 7))
    ∧ ((queued [tram 1 .waiting] .planned).app 0).episode = .planned
    ∧ (resumedFor (.tram 0 1) (queued [tram 1 .served] .idle)).pri.own = some (.tram 0 1)
    ∧ GroupSet.has street.seq.groups 3 = true ∧ (street.grp 3).state = .opened
    ∧ (starting .allRed).jmc.phase = some .allRed
    ∧ (((starting .allRed).onGrp 0 fun r => { r with state := .opening }).grp 0).state = .opening
    ∧ (∀ g, (starting .allRed).present g = true → (starting .allRed).grp g = { state := .flash })
    ∧ ((starting .firstStage).onJmc fun j => { j with firstRunning := true }).jmc.firstRunning = true
    ∧ (starting .firstStage).jmc.firstRunning = false
    ∧ (quietStreet.jmc.mode = .clearing ∧ quietStreet.notices = []
      ∧ ∀ g, quietStreet.present g = true → (quietStreet.grp g).state = .closed ∧ (quietStreet.grp g).cr = 0)
    ∧ ((inMode .clearing).grp 0).state ≠ .closed ∧ (starting .startFlashing).jmc.phase = some .startFlashing := by
  decide +kernel

theorem witness_PlannerInsertsOrExtends :
    street.jmc.mode = .normal ∧ street.seq.status = some .running ∧ flashing.jmc.mode ≠ .normal
    ∧ ((called .waiting).onSeq fun q => { q with level := 3 }).reqLevel (.call 7)
        ≤ ((called .waiting).onSeq fun q => { q with level := 3 }).seq.level
    ∧ street.seq.level < street.reqLevel (.tram 0 1) ∧ (called .waiting).seq.level < (called .waiting).reqLevel (.call 7)
    ∧ ((queued [tram 1 .waiting] .idle).app 0).queue = tram 1 .waiting :: []
    ∧ ((street.appSet 0).present = true ∧ (street.appSet 0).tramGroup = 3 ∧ (street.grp 3).state = .opened
      ∧ GroupSet.has street.seq.groups 3 = true)
    ∧ (((callFor 0).call? 7).isSome = true ∧ ∀ g, GroupSet.has ((callFor 0).stageGroups 0) g = true →
        ((callFor 0).grp g).state = .opened ∧ GroupSet.has (callFor 0).seq.groups g = true)
    ∧ street.seq.current = some 0
    ∧ ((queued [tram 1 .waiting] .idle).onGrp 3 fun _ => { state := .closed }).head? 0 = some (tram 1 .waiting)
    ∧ (((queued [tram 1 .waiting] .idle).onGrp 3 fun _ => { state := .closed }).grp 3).state ≠ .opened
    ∧ (GroupSet.has ((called .waiting).stageGroups 2) 4 = true ∧ ((called .waiting).grp 4).state ≠ .opened)
    ∧ largest ((GroupSet.members street.seq.groups).map fun g => (street.grp g).mgRem) = 0
    ∧ (call1 .waiting).eta ≤ transitionTime street 9 16 := by decide +kernel

theorem witness_RulingRequestOutranksAllThatWait :
    (inMode .manual).jmc.mode ≠ .normal ∧ street.jmc.mode = .normal ∧ street.ruling = none
    ∧ (queued [tram 1 .waiting] .idle).ruling = some (.tram 0 1) ∧ (called .waiting).ruling = some (.call 7)
    ∧ (called .waiting).call? 7 = some (call1 .waiting) := by decide +kernel

theorem witness_TramsCheckInAndOut :
    (street.appSet 1).present = false ∧ (street.appSet 0).present = true ∧ (inMode .flash).jmc.mode ≠ .normal
    ∧ (inMode .flash).jmc.mode ≠ .manual ∧ street.jmc.mode = .normal ∧ (street.app 0).queue = []
    ∧ ((queued [tram 1 .served, tram 2 .served] .idle).app 0).queue = [tram 1 .served] ++ tram 2 .served :: []
    ∧ (tram 2 .served).vehicle = some 102 ∧ (tram 1 .served).vehicle ≠ some 102 ∧ (tram 2 .served).state ≠ .waiting
    ∧ (((queued [tram 1 .served, tram 2 .served] .idle).app 0).queue.map TramRec.tag).Nodup
    ∧ 4 ≤ ((queued (List.replicate 4 (tram 1 .served)) .idle).app 0).queue.length
    ∧ (queued [tram 1 .waiting] .idle).ruling = some (.tram 0 1) ∧ (tram 1 .waiting).state = .waiting
    ∧ (queued [tram 1 .waiting, tram 2 .waiting] .idle).ruling ≠ some (.tram 0 2) := by decide +kernel

theorem witness_CallsPlacedAndCancelled :
    (1 ≤ 255 ∧ 255 ≤ 255) ∧ 1 ≤ 1 ∧ 3 = number (2 : StageId) ∧ (inMode .manual).jmc.mode ≠ .normal
    ∧ street.jmc.mode = .normal ∧ street.stageGroups 5 = 0 ∧ street.stageGroups 2 ≠ 0
    ∧ (∃ c ∈ (called .waiting).pri.calls, c.id = 7) ∧ (∀ c ∈ (called .waiting).pri.calls, c.id ≠ 9)
    ∧ 4 ≤ (List.replicate 4 (call1 .waiting)).length ∧ street.pri.calls.length < 4 ∧ street.call? 7 = none
    ∧ (called .waiting).call? 7 = some (call1 .waiting) ∧ (called .serving).call? 7 = some (call1 .serving) := by
  decide +kernel

theorem witness_PriorityTimersRunOut :
    ((queued [{ tram 1 .waiting with age := 1000 }] .idle).app 0).queue = { tram 1 .waiting with age := 1000 } :: []
    ∧ (street.appSet 0).present = true ∧ (street.appSet 0).tmax ≤ 1000
    ∧ ((queued [] .recovering).app 0).episode = .recovering ∧ ((queued [] .recovering).app 0).recovery = 0
    ∧ ((street.onApp 0 fun x => { x with checkinGuard := 1 }).app 0).checkinGuard = 1 ∧ (street.app 0).checkinGuard ≠ 1
    ∧ (street.setCap 0 (.loaded 0)).cap 0 = .loaded 0 ∧ street.cap 0 ≠ .loaded 0 ∧ (street.appSet 0).tramGroup = 3
    ∧ .approach 0 ∈ (street.setHolders 3 [.approach 0]).holders 3 ∧ street.present 3 = true
    ∧ (∃ x ∈ (street.setHolders 3 [.approach 0, .call 7]).holders 3, x ≠ .approach 0)
    ∧ (called .serving).call? 7 = some (call1 .serving) ∧ (call1 .serving).remaining = 0
    ∧ street.ruling = street.pri.rulingHeld ∧ (called .waiting).ruling ≠ (called .waiting).pri.rulingHeld := by
  decide +kernel

/-- The record of a detector settled VACANT with no fault. -/
def soundDet : DetRec := { settled := true, silent := false }

theorem witness_DetectorWordsMoveOneRecord :
    (33 = 0 ∨ 32 < 33) ∧ (soundDet.passedParity.goodWord (street.detSet 0) true street.time).conditions = []
    ∧ (soundDet.settled && (true != soundDet.occupied)) = true ∧ soundDet.mask = false
    ∧ (street.detSet 0).kind = .demandExtend ∧ (street.detSet 1).kind = .button
    ∧ GroupSet.has (street.detSet 0).groups 1 = true ∧ street.present 1 = true ∧ (street.grp 1).state ≠ .opened
    ∧ ((street.detSet 2).kind = .tramIn ∧ (street.detSet 2).approach = 0 ∧ (street.appSet 0).present = true
      ∧ (soundDet.passedParity.goodWord (street.detSet 2) true street.time).conditions = [])
    ∧ ((street.detSet 3).kind = .tramOut ∧ (street.detSet 3).approach = 0
      ∧ (({ soundDet with occupied := true }).passedParity.goodWord (street.detSet 3) false street.time).conditions = [])
    ∧ (street.app 0).checkinGuard = 0 ∧ (street.app 0).queue = []
    ∧ ((queued [tram 1 .served] .idle).app 0).queue = tram 1 .served :: []
    ∧ 4 ≤ ((queued (List.replicate 4 (tram 1 .served)) .idle).app 0).queue.length
    ∧ ((street.onPts fun p => { p with activeCopy := some { plan1 with
        priority := plan1.priority.map fun a => { a with present := false } } }).appSet 0).present = false := by
  decide +kernel

/-- R97, R98, R100: an edge of a loop checks a tram in, loads the guard, is refused on a full queue, and checks one out. -/
theorem test_loop_edges :
    after (.detectorWord 3 true false true) (street.onDet 2 fun _ => soundDet)
      (fun t => ((t.app 0).queue.map fun r => (r.tag, r.eta, r.source), (t.app 0).checkinGuard))
      = some ([(1, 200, .loop)], 30)
    ∧ after (.detectorWord 3 true false true) ((queued (List.replicate 4 (tram 1 .served)) .idle).onDet 2 fun _ => soundDet)
      (fun t => ((t.app 0).queue.length, (t.app 0).checkinGuard)) = some (4, 30)
    ∧ after (.detectorWord 3 true false true)
        ((street.onApp 0 fun x => { x with checkinGuard := 1 }).onDet 2 fun _ => soundDet)
      (fun t => ((t.app 0).queue.length, (t.app 0).checkinGuard)) = some (0, 1)
    ∧ after (.detectorWord 4 false false true)
        ((queued [tram 1 .served] .idle).onDet 3 fun _ => { soundDet with occupied := true })
      (fun t => (t.app 0).queue.length) = some 0 := by decide +kernel

theorem witness_DetectorTimersAndMask :
    30 ≤ ({ silence := 30 } : DetRec).silence ∧ ({ silence := 30 } : DetRec).settled = false
    ∧ (street.detSet 0).kind ≠ .unused ∧ (street.detSet 0).stuckOn ≠ 0 ∧ (street.detSet 0).stuckOn ≤ 600
    ∧ (street.detSet 0).stuckOff ≠ 0 ∧ (street.detSet 0).stuckOff ≤ 3000 ∧ soundDet.stuckOn = false
    ∧ soundDet.occupied = false ∧ ¬ 30 ≤ soundDet.silence ∧ (33 = 0 ∨ 32 < 33) := by decide +kernel

/-- DARK with a cause. -/
def darkBy (c : DarkCause) : State := { State.reset with jmc := { darkCause := some c } }

theorem witness_ModeRequestsByMode :
    (darkBy .safeDropped).jmc.mode = .dark ∧ (darkBy .safeDropped).jmc.darkCause = some .safeDropped
    ∧ (darkBy .verifying).jmc.darkCause = some .verifying ∧ (darkBy .noTables).jmc.darkCause = some .noTables
    ∧ (darkBy .requested).jmc.darkCause = some .requested ∧ flashing.jmc.mode = .flash ∧ street.jmc.mode = .normal
    ∧ (inMode .manual).jmc.mode = .manual ∧ (starting .allRed).jmc.phase = some .allRed
    ∧ (starting .firstStage).jmc.phase = some .firstStage ∧ (inMode .clearing).jmc.mode = .clearing
    ∧ faulted.cmon.first.isSome = true ∧ flashing.cmon.first = none
    ∧ fitToRun (flashing.onSlot 0 fun _ => { state := .valid, contents := some plan1 }) = true
    ∧ (flashing.cmon.compareTimer ≠ 0 ∧ ∀ x ∈ allConds, flashing.condPresent x = false)
    ∧ street.lnk.tx = none ∧ street.lnk.replies = [] := by decide +kernel

/-- FLASH with a source latched and the lockout set, and no first fault. -/
def latchedOnly : State := flashing.onCmon fun c => { c with latched := 16, lockout := true }

/-- R106, R114: the head of a RECOVERING approach is past TMAX at an activation, and the record behind it is served by the green
its group has. -/
theorem test_offer_at_plan_switch :
    (let t := priUnderPlan (queued [{ tram 1 .served with age := 1000 }, tram 2 .waiting] .recovering);
      ((t.app 0).episode, (t.app 0).queue.map fun r => (r.tag, r.state), t.seq.level))
      = (.serving, [(2, .serving)], 2) := by decide +kernel

/-- A slot that holds a plan. -/
def holding (p : Plan) : Slot := { state := .valid, contents := some p }

/-- Stage 2 in NORMAL, its approach IDLE, with the plan of slot 1 pending; the head of the queue is past TMAX. -/
def switching : State :=
  ((queued [{ tram 1 .served with age := 1000 }, tram 2 .waiting] .idle).onSlot 0 fun _ => holding plan1).onSeq fun q =>
    { q with current := some 1, groups := 6, pendingPlan := some 1 }

/-- R84, R114, R119: the record behind the lost head is planned in the stage that is RUNNING at the switch, which step 5 then
ends. -/
theorem test_run_at_plan_switch :
    (choose switching).1.pri.standing.map PlanRec.subject = some (.tram 0 2)
    ∧ (let t := makeChoice false switching;
      ((t.app 0).episode, t.pri.standing, t.seq.status, t.seq.h)) = (.planned, none, some .transition, none) := by
  decide +kernel

/-- FLASH on slot 1, which is EMPTY, with plans in the slots 4 and 5. -/
def choosing : State := (flashing.onSlot 4 fun _ => holding plan1).onSlot 3 fun _ => holding plan1

/-- R142, R145: slot 4 comes before slot 5, and the start plan before both; with no slot that is fit NORMAL is refused. -/
theorem witness_StartPlanSelectionTakesTheFirstFitSlot :
    verifiedTables (verified (some { tables := tables1, check := tablesCheck tables1 })).pts = some tables1
    ∧ (choosing.writingSlot? ≠ some 3 ∧ (choosing.slot 3).state = .valid ∧ (choosing.slot 3).intact = true
      ∧ (choosing.slot 3).contents = some plan1 ∧ choosing.pts.tables = some tables1 ∧ choosing.pts.startPlan = 0
      ∧ (choosing.slot 0).state = .empty ∧ (choosing.slot 1).state = .empty ∧ (choosing.slot 2).state = .empty)
    ∧ (startPlanSelection choosing).seq.activeSlot = some 4
    ∧ (startPlanSelection (choosing.onPts fun p => { p with startPlan := 4 })).seq.activeSlot = some 5
    ∧ (startPlanSelection flashing).seq.activeSlot = none ∧ (∀ n, (flashing.slot n).state = .empty)
    ∧ flashing.jmc.mode = .flash ∧ flashing.cmon.first = none ∧ fitToRun flashing = false ∧ fitToRun choosing = false
    ∧ after (.modeRequest 1 3) choosing (fun t => (t.jmc.mode, t.seq.activeSlot)) = some (.startup, some 4)
    ∧ after (.modeRequest 1 3) flashing (fun t => (t.jmc.mode, t.seq.activeSlot)) = some (.flash, none)
    ∧ (flashing.onSeq fun q => { q with activeSlot := none }).seq.activeSlot = none
    ∧ flashing.jmc.darkCause = none ∧ tables1.monitor.autostart = false
    ∧ (verified (some { tables := tables1, check := tablesCheck tables1 })).pts.verify = some 0 :=
  ⟨by simp [verifiedTables, verified], by decide +kernel⟩

theorem witness_StartUpPhasesAndRestart :
    (starting .startFlashing).jmc.mode = .startup ∧ (starting .startFlashing).jmc.phase = some .startFlashing
    ∧ (starting .startFlashing).jmc.timer = 0 ∧ 30 < (starting .startFlashing).monitorStart.startClear
    ∧ ((starting .startFlashing).groupDef 0).opent ≤ 30 ∧ (starting .startFlashing).present 0 = true
    ∧ (starting .allRed).jmc.phase = some .allRed ∧ street.jmc.mode ≠ .startup
    ∧ (darkBy .verifying).jmc.darkCause = some .verifying ∧ (darkBy .safeDropped).jmc.darkCause = some .safeDropped
    ∧ faulted.cmon.first.isSome = true ∧ flashing.jmc.darkCause ≠ some .verifying
    ∧ flashing.jmc.darkCause ≠ some .safeDropped ∧ flashing.cmon.first = none ∧ flashing.pts.tables = some tables1
    ∧ (darkBy .noTables).pts.tables = none ∧ tables1.monitor.autostart = false
    ∧ (∀ g, flashing.present g = true → (flashing.mon g).silence < 10)
    ∧ (latchedOnly.cmon.first = none ∧ SourceSet.has latchedOnly.cmon.latched .redOut = true
      ∧ latchedOnly.cmon.lockout = true) := by decide +kernel

theorem witness_SenseRecordsRaiseTheShadow : (25 = 0 ∨ 24 < 25) ∧ (1 : GroupId) ≠ 0 := by decide

theorem witness_MismatchAndSilenceOccurOnce :
    goStuck.condCounts (.goMismatch 0) = true ∧ .goMismatch 0 ∉ goStuck.cmon.counted
    ∧ SourceSet.has goStuck.monitorStart.fatal .goMismatch = true ∧ goStuck.jmc.mode ≠ .dark
    ∧ faulted.cmon.first.isSome = true ∧ 0 < (goStuck.onCmon fun c => { c with window := 1 }).cmon.window
    ∧ (flashing.onMon 0 fun m => { m with silence := 10 }).condCounts (.senseSilent 0) = true
    ∧ SourceSet.has flashing.monitorStart.fatal .senseSilent = false
    ∧ (goStuck.cmon.first = none ∧ (comparedIfDue goStuck).condCounts (.goMismatch 0) = true
      ∧ .goMismatch 0 ∉ (comparedIfDue goStuck).cmon.counted ∧ .goMismatch 0 ∈ allConds)
    ∧ (handle .evaluate goStuck).cmon.first = some { source := .goMismatch, groups := [0], time := 0 }
    ∧ (∀ x ∈ allConds, flashing.condCounts x = false) ∧ .conflictGo 0 1 ∈ allConds ∧ .conflictGo 1 0 ∉ allConds
    ∧ ∀ x ∈ mismatchConds 0, flashing.condCounts x = false := by decide +kernel

theorem witness_ComparisonAndShadowEnd :
    (verified (some { tables := tables1, check := 0 })).pts.areas[(0 : Fin 2)]
      = some { tables := tables1, check := 0 }
    ∧ street.pts.tables = some tables1 ∧ (street.onCmon fun c => { c with compareTimer := 0 }).cmon.compareTimer = 0
    ∧ State.reset.pts.tables = none :=
  ⟨rfl, rfl, rfl, rfl⟩

theorem witness_FaultClearAndSafeDrop :
    street.jmc.mode ≠ .flash ∧ flashing.jmc.mode = .flash
    ∧ (SourceSet.has goStuck.monitorStart.fatal .goMismatch = true ∧ goStuck.condPresent (.goMismatch 0) = true
      ∧ Cond.goMismatch 0 ∈ allConds)
    ∧ (∀ c ∈ allConds, flashing.condPresent c = false) ∧ faulted.cmon.lockout = true ∧ faulted.pins.commission = false
    ∧ unlocking.pins.commission = true ∧ flashing.cmon.first = none ∧ flashing.cmon.latched = 0
    ∧ 30 ≤ (goStuck.onCmon fun c => { c with dropTimer := 30 }).cmon.dropTimer
    ∧ (∀ h : GroupId, h < 0 → goStuck.condPresent (.goMismatch h) = false) := by decide +kernel

end Sys2Proof.Tests
end

section
/-! ## The ruling request (R90)

`topWaiter` folds a choice of two over the waiting requests. The relation "does not outrank" is reflexive and transitive, and
of two requests one always does not outrank the other, so the fold ends at a member that no member outranks. -/

namespace Sys2Proof.Machine

namespace Waiter

/-- R90 read from the losing side: by level, then by age, then by the lower number. -/
theorem outranks_eq_false_iff {x y : Waiter} :
    x.outranks y = false ↔
      x.level < y.level ∨ (x.level = y.level ∧ (x.age < y.age ∨ (x.age = y.age ∧ y.num ≤ x.num))) := by
  simp only [outranks, Bool.or_eq_false_iff, Bool.and_eq_false_iff, decide_eq_false_iff_not]
  omega

theorem outranks_self (x : Waiter) : x.outranks x = false := by
  simp [outranks_eq_false_iff]

theorem not_outranks_trans {x y z : Waiter} (hxy : x.outranks y = false) (hyz : y.outranks z = false) :
    x.outranks z = false := by
  rw [outranks_eq_false_iff] at *
  omega

theorem not_outranks_of_outranks {x y : Waiter} (h : x.outranks y = true) : y.outranks x = false := by
  rw [outranks_eq_false_iff]
  simp only [outranks, Bool.or_eq_true, Bool.and_eq_true, decide_eq_true_eq] at h
  omega

/-- The choice that `topWaiter` makes at each request of its list. -/
def higher (x y : Waiter) : Waiter := if y.outranks x then y else x

theorem higher_eq (x y : Waiter) : higher x y = x ∨ higher x y = y := by
  unfold higher
  split
  · exact .inr rfl
  · exact .inl rfl

theorem not_outranks_higher_left (x y : Waiter) : x.outranks (higher x y) = false := by
  unfold higher
  split
  case isTrue h => exact not_outranks_of_outranks h
  case isFalse => exact outranks_self x

theorem not_outranks_higher_right (x y : Waiter) : y.outranks (higher x y) = false := by
  unfold higher
  split
  case isTrue => exact outranks_self y
  case isFalse h => exact Bool.eq_false_iff.mpr h

theorem foldl_higher_mem (l : List Waiter) (v : Waiter) : l.foldl higher v ∈ v :: l := by
  induction l generalizing v with
  | nil => exact List.mem_singleton_self v
  | cons w l ih =>
    rw [List.foldl_cons]
    obtain h | h := List.mem_cons.mp (ih (higher v w))
    · rw [h]
      obtain e | e := higher_eq v w <;> simp [e]
    · simp [h]

theorem not_outranks_foldl_higher (l : List Waiter) (v : Waiter) :
    ∀ w ∈ v :: l, w.outranks (l.foldl higher v) = false := by
  induction l generalizing v with
  | nil => simp [outranks_self]
  | cons x l ih =>
    obtain ⟨hbest, hrest⟩ := List.forall_mem_cons.mp (ih (higher v x))
    rw [List.forall_mem_cons, List.forall_mem_cons]
    exact ⟨not_outranks_trans (not_outranks_higher_left v x) hbest,
      not_outranks_trans (not_outranks_higher_right v x) hbest, hrest⟩

end Waiter

theorem topWaiter_nil : topWaiter [] = none := rfl

/-- One step of the fold: the first two requests of the list may be replaced by the higher of them. -/
theorem topWaiter_cons_cons (v w : Waiter) (l : List Waiter) :
    topWaiter (v :: w :: l) = topWaiter (Waiter.higher v w :: l) := by
  simp only [topWaiter, List.foldl_cons, Waiter.higher, apply_ite some]

theorem topWaiter_cons (v : Waiter) (l : List Waiter) : topWaiter (v :: l) = some (l.foldl Waiter.higher v) := by
  induction l generalizing v with
  | nil => rfl
  | cons w l ih => rw [topWaiter_cons_cons, ih, List.foldl_cons]

theorem topWaiter_eq_none_iff {l : List Waiter} : topWaiter l = none ↔ l = [] := by
  cases l with
  | nil => simp [topWaiter_nil]
  | cons v l => simp [topWaiter_cons]

/-- The top waiter is one of the list that none of the list outranks. -/
theorem topWaiter_spec {l : List Waiter} {m : Waiter} (h : topWaiter l = some m) :
    m ∈ l ∧ ∀ w ∈ l, w.outranks m = false := by
  cases l with
  | nil => simp [topWaiter_nil] at h
  | cons v l =>
    rw [topWaiter_cons, Option.some.injEq] at h
    subst h
    exact ⟨Waiter.foldl_higher_mem l v, Waiter.not_outranks_foldl_higher l v⟩

namespace State

/-- The first clause of "waits" in R90: the WAITING head of a present approach in IDLE or PLANNED. -/
theorem mem_tramWaiters {s : State} {r : ReqRef} {level age num : Nat} :
    (⟨r, level, age, num⟩ : Waiter) ∈ s.tramWaiters ↔
      ∃ a h, r = .tram a h.tag ∧ s.head? a = some h ∧ (s.appSet a).present = true ∧ h.state = .waiting
        ∧ ((s.app a).episode = .idle ∨ (s.app a).episode = .planned) ∧ level = 2 ∧ age = h.age ∧ num = number a := by
  simp only [tramWaiters, approachIds, List.mem_filterMap, List.mem_finRange, true_and]
  refine exists_congr fun a => ?_
  cases s.head? a with
  | none => simp
  | some h =>
    simp only [Option.ite_none_right_eq_some, Bool.and_eq_true, Bool.or_eq_true, decide_eq_true_eq, Option.some.injEq,
      Waiter.mk.injEq]
    constructor
    · rintro ⟨⟨⟨hp, hw⟩, he⟩, rfl, rfl, rfl, rfl⟩
      exact ⟨h, rfl, rfl, hp, hw, he, rfl, rfl, rfl⟩
    · rintro ⟨_, rfl, rfl, hp, hw, he, rfl, rfl, rfl⟩
      exact ⟨⟨⟨hp, hw⟩, he⟩, rfl, rfl, rfl, rfl⟩

/-- The second clause of "waits" in R90: a WAITING call of the table. -/
theorem mem_callWaiters {s : State} {r : ReqRef} {level age num : Nat} :
    (⟨r, level, age, num⟩ : Waiter) ∈ s.callWaiters ↔
      ∃ c, c ∈ s.pri.calls ∧ r = .call c.id ∧ c.state = .waiting ∧ level = c.level.level ∧ age = c.age ∧ num = c.id := by
  simp only [callWaiters, List.mem_filterMap, Option.ite_none_right_eq_some, Option.some.injEq, Waiter.mk.injEq]
  refine exists_congr fun c => and_congr_right fun _ => ?_
  constructor
  · rintro ⟨hw, rfl, rfl, rfl, rfl⟩
    exact ⟨rfl, hw, rfl, rfl, rfl⟩
  · rintro ⟨rfl, hw, rfl, rfl, rfl⟩
    exact ⟨hw, rfl, rfl, rfl, rfl⟩

theorem ruling_of_not_normal {s : State} (h : s.jmc.mode ≠ .normal) : s.ruling = none := if_neg h

theorem ruling_eq_none_iff {s : State} (h : s.jmc.mode = .normal) :
    s.ruling = none ↔ s.tramWaiters ++ s.callWaiters = [] := by
  rw [ruling, if_pos h, Option.map_eq_none_iff, topWaiter_eq_none_iff]

/-- What rules in NORMAL is a waiting request that no waiting request outranks. -/
theorem exists_waiter_of_ruling {s : State} {r : ReqRef} (h : s.jmc.mode = .normal) (hr : s.ruling = some r) :
    ∃ m ∈ s.tramWaiters ++ s.callWaiters, m.ref = r
      ∧ ∀ w ∈ s.tramWaiters ++ s.callWaiters, w.outranks m = false := by
  rw [ruling, if_pos h, Option.map_eq_some_iff] at hr
  obtain ⟨m, hm, hmr⟩ := hr
  obtain ⟨hmem, htop⟩ := topWaiter_spec hm
  exact ⟨m, hmem, hmr, htop⟩

theorem prioStage_call {s : State} {id : Nat} {c : Call} (h : s.call? id = some c) :
    s.prioStage (.call id) = c.target := by
  simp only [prioStage, h]

end State

theorem plannerRun_of_not_normal {s : State} (h : s.jmc.mode ≠ .normal) (r : ReqRef) : plannerRun r s = s := by
  simp [plannerRun, h]

/-- Settles O47. The requests that wait are the members of the list of waiters, and the one that rules is the list's top. -/
theorem rulingRequestOutranksAllThatWait : Obligations.RulingRequestOutranksAllThatWait := by
  intro s waits
  have mem_waiters (r : ReqRef) (level age num : Nat) :
      (⟨r, level, age, num⟩ : Waiter) ∈ s.tramWaiters ++ s.callWaiters ↔ waits r level age num := by
    rw [List.mem_append, State.mem_tramWaiters, State.mem_callWaiters]
  refine ⟨State.ruling_of_not_normal, fun hn => ⟨fun hnone r l age n hw => ?_, fun r hr => ?_⟩,
    fun _ _ => rfl, fun _ _ => State.prioStage_call, fun r h => plannerRun_of_not_normal h r⟩
  · rw [← mem_waiters, (State.ruling_eq_none_iff hn).mp hnone] at hw
    exact List.not_mem_nil hw
  · obtain ⟨m, hmem, rfl, htop⟩ := State.exists_waiter_of_ruling hn hr
    exact ⟨m.level, m.age, m.num, (mem_waiters _ _ _ _).mp hmem, fun r' l' age' n' hw =>
      Waiter.outranks_eq_false_iff.mp (htop ⟨r', l', age', n'⟩ ((mem_waiters _ _ _ _).mpr hw))⟩

end Sys2Proof.Machine
end

section
/-! ## PLAN_STORE and its checks (R182)

One equation for each answer of `takePlanStore`: the equation of a check assumes that the checks before it have passed, and
the last one gives the write begun. -/

namespace Sys2Proof.Machine

theorem numbered_number {n : Nat} (i : Fin n) : numbered n (number i) = some i := by
  have hrange : 1 ≤ number i ∧ number i ≤ n := ⟨Nat.le_add_left 1 i.val, i.isLt⟩
  rw [numbered, dif_pos hrange]
  rfl

theorem numbered_eq_none {n k : Nat} (h : k = 0 ∨ n < k) : numbered n k = none :=
  dif_neg (by omega)

theorem exec_planSection (tag : Byte) (c : PlanSectionArg) (s : State) :
    exec (.planSection tag c) s = .next (takePlanSection tag c s.begun) := rfl

theorem exec_planStore (tag : Byte) (slot : Nat) (s : State) :
    exec (.planStore tag slot) s = .next (takePlanStore tag slot s.begun) := rfl

/-- PLAN_SECTION sends a reply, and writes at most the trial slot. -/
theorem takePlanSection_pts (tag : Byte) (c : PlanSectionArg) (s : State) :
    ∃ trial, (takePlanSection tag c s).pts = { s.pts with trial := trial } := by
  unfold takePlanSection
  split
  · exact ⟨s.pts.trial, rfl⟩
  · split
    · exact ⟨s.pts.trial, rfl⟩
    · split
      · exact ⟨s.pts.trial, rfl⟩
      case h_2 trial n _ =>
        refine ⟨trial, ?_⟩
        rw [State.onPts_pts]
        split <;> rfl

theorem takePlanStore_range {slot : Nat} (tag : Byte) (s : State) (h : slot = 0 ∨ 16 < slot) :
    takePlanStore tag slot s = s.reply 0x17 tag .range := by
  simp only [takePlanStore, numbered_eq_none h]

theorem storeBusy_iff (s : State) :
    (s.pts.write.isSome || s.verifying) = true ↔ s.pts.write.isSome = true ∨ s.pts.verify.isSome = true :=
  Bool.or_eq_true_iff

theorem not_storeBusy {s : State} (hw : s.pts.write = none) (hv : s.pts.verify = none) :
    ¬ (s.pts.write.isSome || s.verifying) = true := by
  rw [storeBusy_iff, hw, hv]
  simp

section Checks

variable (tag : Byte) (s : State) {n : PlanSlot} {p : Plan} {x : Tables}

theorem takePlanStore_incomplete (hc : s.pts.trial.complete? = none) :
    takePlanStore tag (number n) s = s.reply 0x17 tag .incomplete := by
  simp only [takePlanStore, numbered_number, hc]

variable (hc : s.pts.trial.complete? = some p)
include hc

theorem takePlanStore_protected (hp : number n ≤ s.pts.protect) :
    takePlanStore tag (number n) s = s.reply 0x17 tag .protected' := by
  simp only [takePlanStore, numbered_number, hc, if_pos hp]

variable (hp : s.pts.protect < number n)
include hp

theorem takePlanStore_activeSlot (ha : s.seq.activeSlot = some (slotOf n)) :
    takePlanStore tag (number n) s = s.reply 0x17 tag .activeSlot := by
  simp only [takePlanStore, numbered_number, hc, if_neg hp.not_ge, if_pos ha]

variable (ha : s.seq.activeSlot ≠ some (slotOf n))
include ha

theorem takePlanStore_busy (hbusy : (s.pts.write.isSome || s.verifying) = true) :
    takePlanStore tag (number n) s = s.reply 0x17 tag .busy := by
  simp only [takePlanStore, numbered_number, hc, if_neg hp.not_ge, if_neg ha, if_pos hbusy]

variable (hidle : ¬ (s.pts.write.isSome || s.verifying) = true)
include hidle

theorem takePlanStore_noTables (ht : s.pts.tables = none) :
    takePlanStore tag (number n) s = s.reply 0x17 tag .invalid := by
  simp only [takePlanStore, numbered_number, hc, if_neg hp.not_ge, if_neg ha, if_neg hidle, ht]

variable (ht : s.pts.tables = some x)
include ht

theorem takePlanStore_denied {d : Denial} (hd : wholePlanCheck x p = some d) :
    takePlanStore tag (number n) s = s.reply 0x17 tag d.status d.items := by
  simp only [takePlanStore, numbered_number, hc, if_neg hp.not_ge, if_neg ha, if_neg hidle, ht, hd]

theorem takePlanStore_accepted (hd : wholePlanCheck x p = none) :
    takePlanStore tag (number n) s =
      ((s.reply 0x17 tag .accepted).onPts fun y =>
        { y with write := some { target := .slot n p, remaining := Config.planWriteTime } }).onSlot n fun y =>
          { y with state := .writing, contents := none } := by
  simp only [takePlanStore, numbered_number, hc, if_neg hp.not_ge, if_neg ha, if_neg hidle, ht, hd]

end Checks

/-- Settles O18. A command begins with an empty lamp line and the store untouched, so each clause is the equation of its
check at `s.begun`. -/
theorem planStoreInOrderOfChecks : Obligations.PlanStoreInOrderOfChecks := by
  intro tag s
  refine ⟨fun slot hslot => ?range, fun c t ht => ?planSection, fun n =>
    ⟨fun hc => ?incomplete, fun p hc => ?complete⟩⟩
  case range => rw [exec_planStore, takePlanStore_range tag s.begun hslot]
  case planSection =>
    rw [exec_planSection] at ht
    obtain rfl := Host.Outcome.next.inj ht
    obtain ⟨trial, hpts⟩ := takePlanSection_pts tag c s.begun
    rw [hpts]
    exact ⟨rfl, rfl⟩
  case incomplete => rw [exec_planStore, takePlanStore_incomplete tag s.begun hc]
  case complete =>
    simp only [exec_planStore, Host.Outcome.next.injEq]
    refine ⟨takePlanStore_protected tag s.begun hc, takePlanStore_activeSlot tag s.begun hc,
      fun hp ha hb => takePlanStore_busy tag s.begun hc hp ha ((storeBusy_iff s).mpr hb), fun hp ha hw hv => ?_⟩
    have hidle := not_storeBusy (s := s.begun) hw hv
    exact ⟨takePlanStore_noTables tag s.begun hc hp ha hidle, fun _ ht =>
      ⟨fun _ => takePlanStore_denied tag s.begun hc hp ha hidle ht,
        takePlanStore_accepted tag s.begun hc hp ha hidle ht⟩⟩

end Sys2Proof.Machine
end

section
/-! ## The queues of the cabinet link (R198, R201, R202)

One equation for each outcome of `Lnk.reply` and of `Lnk.accept`. What an eviction leaves is said once, about `evictOldest`:
the queue splits at its oldest record that is no SAFETY record, and the two sides close up. -/

namespace Sys2Proof.Machine

theorem evictOldest_cons_of_safety {x : Report} (h : x.body.cls = .safety) (l : List Report) :
    evictOldest (x :: l) = (evictOldest l).map (x :: ·) := if_pos h

theorem evictOldest_cons_of_not_safety {x : Report} (h : x.body.cls ≠ .safety) (l : List Report) :
    evictOldest (x :: l) = some l := if_neg h

/-- The record evicted is the first that is no SAFETY record; the records before and after it keep their order (R202). -/
theorem evictOldest_append_cons {before : List Report} {x : Report} (hb : ∀ y ∈ before, y.body.cls = .safety)
    (hx : x.body.cls ≠ .safety) (after : List Report) :
    evictOldest (before ++ x :: after) = some (before ++ after) := by
  induction before with
  | nil => exact evictOldest_cons_of_not_safety hx after
  | cons y before ih =>
    obtain ⟨hy, hrest⟩ := List.forall_mem_cons.mp hb
    rw [List.cons_append, evictOldest_cons_of_safety hy, ih hrest, Option.map_some, List.cons_append]

theorem evictOldest_of_all_safety {l : List Report} (h : ∀ y ∈ l, y.body.cls = .safety) : evictOldest l = none := by
  induction l with
  | nil => rfl
  | cons x l ih =>
    obtain ⟨hx, hrest⟩ := List.forall_mem_cons.mp h
    rw [evictOldest_cons_of_safety hx, ih hrest, Option.map_none]

namespace Lnk

variable {l : Lnk}

theorem reply_of_lt (r : Reply) (h : l.replies.length < Config.replyCapacity) :
    l.reply r = { l with
      replies := l.replies ++ [{ r with markers := { r.markers with requestsLost := l.requestsLost } }]
      requestsLost := false } := if_pos h

theorem reply_of_full (r : Reply) (h : Config.replyCapacity ≤ l.replies.length) :
    l.reply r = { l with requestsLost := true } := if_neg h.not_gt

variable {r : Report}

theorem accept_detail (hc : r.body.cls = .detail) :
    l.accept r = if l.reports.length < l.af then { l with reports := l.reports ++ [r] } else { l with loss := true } := by
  simp only [accept, hc]

theorem accept_operational (hc : r.body.cls = .operational) :
    l.accept r = if l.reports.length < Config.reportCapacity then { l with reports := l.reports ++ [r] }
      else { l with loss := true } := by
  simp only [accept, hc]

theorem accept_safety_of_lt (hc : r.body.cls = .safety) (h : l.reports.length < Config.reportCapacity) :
    l.accept r = { l with reports := l.reports ++ [r] } := by
  simp only [accept, hc, if_pos h]

theorem accept_safety_evicts {rest : List Report} (hc : r.body.cls = .safety)
    (h : Config.reportCapacity ≤ l.reports.length) (he : evictOldest l.reports = some rest) :
    l.accept r = { l with reports := rest ++ [r], loss := true } := by
  simp only [accept, hc, if_neg h.not_gt, he]

theorem accept_safety_discards (hc : r.body.cls = .safety) (h : Config.reportCapacity ≤ l.reports.length)
    (he : evictOldest l.reports = none) : l.accept r = { l with loss := true } := by
  simp only [accept, hc, if_neg h.not_gt, he]

end Lnk

/-- Settles O28. Each clause is the equation of its outcome; at a full report queue a SAFETY report's outcome is that of
`evictOldest`. -/
theorem linkQueuesAdmitByClass : Obligations.LinkQueuesAdmitByClass := by
  refine ⟨fun l r => ⟨Lnk.reply_of_lt r, Lnk.reply_of_full r⟩, fun l r =>
    ⟨fun hc h => ?detailJoins, fun hc h => ?detailLost, fun hc h => ?operationalJoins, fun hc h => ?operationalLost,
      Lnk.accept_safety_of_lt, fun hc hfull => ⟨fun before x after hq hb hx => ?evicts, fun hall => ?discards⟩⟩⟩
  case detailJoins => exact (Lnk.accept_detail hc).trans (if_pos h)
  case detailLost => exact (Lnk.accept_detail hc).trans (if_neg h.not_gt)
  case operationalJoins => exact (Lnk.accept_operational hc).trans (if_pos h)
  case operationalLost => exact (Lnk.accept_operational hc).trans (if_neg h.not_gt)
  case evicts =>
    have he : evictOldest l.reports = some (before ++ after) := hq ▸ evictOldest_append_cons hb hx after
    exact Lnk.accept_safety_evicts hc hfull he
  case discards => exact Lnk.accept_safety_discards hc hfull (evictOldest_of_all_safety hall)

end Sys2Proof.Machine
end

section
/-! ## LINK_SET, and AF through the resets (R204) -/

namespace Sys2Proof.Machine

theorem takeLinkSet_range {af : Nat} (tag : Byte) (s : State) (h : af < 8 ∨ 47 < af) :
    takeLinkSet tag af s = s.reply 0x15 tag .range :=
  if_pos (by simpa using h)

theorem takeLinkSet_ok {af : Nat} (tag : Byte) (s : State) (hlo : 8 ≤ af) (hhi : af ≤ 47) :
    takeLinkSet tag af s = (s.onLnk fun l => { l with af := af }).reply 0x15 tag .ok (byte1 af) :=
  if_neg (by simp [hlo, hhi])

theorem exec_linkSet (tag : Byte) (af : Nat) (s : State) :
    exec (.linkSet tag af) s = .next (takeLinkSet tag af s.begun) := rfl

theorem exec_powerOnReset (s : State) : exec .powerOnReset s = .next (powerOn s) := rfl

theorem exec_restart (tag : Byte) (s : State) : exec (.restart tag) s = .next (perform (takeRestart tag) s) := rfl

theorem kept_settle (fuel : Nat) (s : State) : kept (settle fuel s) = kept s :=
  settle_induction (P := fun t => kept t = kept s) (fun n t h => (kept_handle n t).trans h)
    (fun t l h => (kept_notices t l).trans h) fuel s rfl

/-- The reactions that follow a command change nothing of what it leaves in `kept`. -/
theorem kept_perform (f : State → State) (s : State) : kept (perform f s) = kept (f s.begun) :=
  kept_settle _ _

/-- Refused or taken, a RESTART changes nothing of `kept`. -/
theorem kept_takeRestart (tag : Byte) (s : State) : kept (takeRestart tag s) = kept s :=
  kept_ite (kept_reply ..) <| kept_ite (kept_reply ..) <| kept_ite (kept_reply ..) <|
    (kept_restartPart _).trans (kept_reply ..)

/-- Settles O29. AF belongs to `kept`, which a RESTART and its reactions leave as it is. -/
theorem linkSetTakesAf : Obligations.LinkSetTakesAf := by
  intro tag af s
  refine ⟨fun h => ?range, fun hlo hhi => ?ok, fun t ht => ?powerOn, fun t ht => ?restart⟩
  case range => rw [exec_linkSet, takeLinkSet_range tag s.begun h]
  case ok =>
    rw [exec_linkSet, takeLinkSet_ok tag s.begun hlo hhi]
    rfl
  case powerOn =>
    rw [exec_powerOnReset] at ht
    obtain rfl := Host.Outcome.next.inj ht
    rfl
  case restart =>
    rw [exec_restart] at ht
    obtain rfl := Host.Outcome.next.inj ht
    have hkept : kept (perform (takeRestart tag) s) = kept s :=
      calc
        _ = kept (takeRestart tag s.begun) := kept_perform _ s
        _ = kept s.begun := kept_takeRestart tag s.begun
        _ = kept s := kept_begun s
    exact congrArg Kept.af hkept

end Sys2Proof.Machine
end

section
/-! ## What every reaction keeps

`Reacts s t` says of a state `t` reached from `s` by operations of the blocks that everything `kept` is as it was, that the
fault record has only grown, that the write in flight is the same or gone, and that the bounds of the link, of the requests and
of the resume stack, and the safety of the street, hold in `t` if they held in `s`. There is one lemma for each operation a
reaction can reach, in the order of the model, and `Reacts.handle` gathers them. -/

namespace Sys2Proof.Machine

/-! ### What the bounds read -/

/-- The bounds of R193 on what LNK holds. -/
def Lnk.bounded (l : Lnk) : Prop := l.replies.length ≤ 4 ∧ l.reports.length ≤ 48 ∧ 8 ≤ l.af ∧ l.af ≤ 47

/-- The bounds of R95 and R108 on what PRI holds. -/
def Pri.bounded (p : Pri) : Prop :=
  (∀ a : ApproachId, p.approaches[a].bounded) ∧ p.calls.length ≤ 4 ∧ (p.calls.map Call.id).Nodup

/-- The stack of R133: at most three records, the levels falling from the top. -/
def rising (l : List ResumeRec) : Prop := l.length ≤ 3 ∧ l.Pairwise fun x y => y.level < x.level

theorem linkBounded_iff (s : State) : LinkBounded s ↔ s.lnk.bounded := Iff.rfl
theorem requestsBounded_iff (s : State) : RequestsBounded s ↔ s.pri.bounded := Iff.rfl
theorem stackRising_iff (s : State) : StackRising s ↔ rising s.seq.stack := Iff.rfl

/-- The fault record keeps its first fault and its lockout (R168, R172). -/
structure FaultsKept (c d : Cmon) : Prop where
  first : ∀ f, c.first = some f → d.first = some f
  lockout : c.lockout = true → d.lockout = true

/-- What the operations of the blocks keep, but for the safety of the street. -/
structure Quiet (s t : State) : Prop where
  kept : kept t = kept s
  faults : FaultsKept s.cmon t.cmon
  link : s.lnk.bounded → t.lnk.bounded
  requests : s.pri.bounded → t.pri.bounded
  write : t.pts.write = s.pts.write ∨ t.pts.write = none
  stack : rising s.seq.stack → rising t.seq.stack

/-- What the operations of the blocks keep. -/
structure Reacts (s t : State) : Prop extends Quiet s t where
  safe : Safe s → Safe t

theorem Quiet.refl (s : State) : Quiet s s :=
  ⟨rfl, ⟨fun _ => id, id⟩, id, id, .inl rfl, id⟩

theorem Reacts.refl (s : State) : Reacts s s := ⟨Quiet.refl s, id⟩

theorem Quiet.trans {s t u : State} (h : Quiet s t) (k : Quiet t u) : Quiet s u where
  kept := k.kept.trans h.kept
  faults := ⟨fun f e => k.faults.first f (h.faults.first f e), fun e => k.faults.lockout (h.faults.lockout e)⟩
  link e := k.link (h.link e)
  requests e := k.requests (h.requests e)
  write := by
    obtain e | e := k.write
    · rw [e]; exact h.write
    · exact .inr e
  stack e := k.stack (h.stack e)

theorem Reacts.trans {s t u : State} (h : Reacts s t) (k : Reacts t u) : Reacts s u :=
  ⟨h.toQuiet.trans k.toQuiet, fun e => k.safe (h.safe e)⟩

/-! ### The parts of a state that count here -/

/-- The parts of a state that `Quiet` reads beside `kept`. -/
structure QuietPart where
  kept : Kept
  first : Option FirstFault
  lockout : Bool
  lnk : Lnk
  approaches : Vector Approach 4
  calls : List Call
  write : Option Write
  stack : List ResumeRec

def quietPart (s : State) : QuietPart where
  kept := Machine.kept s
  first := s.cmon.first
  lockout := s.cmon.lockout
  lnk := s.lnk
  approaches := s.pri.approaches
  calls := s.pri.calls
  write := s.pts.write
  stack := s.seq.stack

theorem Quiet.of_part {t u : State} (e : quietPart u = quietPart t) : Quiet t u := by
  simp only [quietPart, QuietPart.mk.injEq] at e
  obtain ⟨hk, hf, hl, hn, ha, hc, hw, hs⟩ := e
  refine ⟨hk, ⟨by simp [hf], by simp [hl]⟩, by simp [hn], ?_, .inl hw, by simp [hs]⟩
  simp [Pri.bounded, ha, hc]

/-- The parts of a state that the safety of the street reads. -/
structure StreetPart where
  tables : Option Tables
  areas : Vector (Option StoredTables) 2
  write : Option Write
  verify : Option Nat
  mode : Mode
  cause : Option DarkCause
  states : GroupId → GroupState

def streetPart (s : State) : StreetPart where
  tables := s.pts.tables
  areas := s.pts.areas
  write := s.pts.write
  verify := s.pts.verify
  mode := s.jmc.mode
  cause := s.jmc.darkCause
  states g := (s.grp g).state

theorem present_of_tables {t u : State} (h : u.pts.tables = t.pts.tables) (g : GroupId) : u.present g = t.present g := by
  simp [State.present, State.groupDef, h]

theorem conflicts_of_tables {t u : State} (h : u.pts.tables = t.pts.tables) (g : GroupId) :
    u.conflicts g = t.conflicts g := by
  simp [State.conflicts, h]

/-- How the state of a group may change with no regard to the other groups and the mode: not at all, or among the states of a
running junction without beginning to move. -/
def Moves (a b : GroupState) : Prop :=
  b = a ∨ (a ≠ .dark ∧ a ≠ .flash ∧ (b.moving = true → a.moving = true))

theorem Moves.of_eq {a b : GroupState} (h : b = a) : Moves a b := .inl h

theorem Moves.moving {a b : GroupState} (h : Moves a b) (hb : b.moving = true) : a.moving = true := by
  obtain rfl | ⟨_, _, h⟩ := h
  · exact hb
  · exact h hb

theorem Moves.rest {a b : GroupState} (h : Moves a b) (ha : a = .dark ∨ a = .flash) : b = a := by
  obtain h | ⟨hd, hf, _⟩ := h
  · exact h
  · obtain rfl | rfl := ha
    · exact absurd rfl hd
    · exact absurd rfl hf

/-- The same street but for groups that move as they may. -/
theorem Safe.of_moves {t u : State} (hs : Safe t)
    (e : streetPart u = { streetPart t with write := u.pts.write, states := fun g => (u.grp g).state })
    (hw : u.pts.write = t.pts.write ∨ u.pts.write = none) (hm : ∀ g, Moves (t.grp g).state (u.grp g).state) : Safe u := by
  simp only [streetPart, StreetPart.mk.injEq, true_and, and_true] at e
  obtain ⟨ht, ha, hv, hmode, hcause⟩ := e
  have hpresent := present_of_tables ht
  refine ⟨⟨?_, ?_, ?_⟩, ⟨?_, ?_, ?_, ?_⟩, ?_⟩
  · rw [ht]; exact hs.tables.inForce
  · rw [ha]; exact hs.tables.stored
  · intro x n hx
    obtain hw | hw := hw
    · exact hs.tables.written x n (hw ▸ hx)
    · rw [hw] at hx; cases hx
  · intro g hg
    have h := hs.modes.absent g (hpresent g ▸ hg)
    exact ((hm g).rest (.inl h)).trans h
  · intro hf g hg
    have h := hs.modes.flash (hmode ▸ hf) g (hpresent g ▸ hg)
    exact ((hm g).rest (.inr h)).trans h
  · intro hd g
    have h := hs.modes.dark (hmode ▸ hd) g
    exact ((hm g).rest (.inl h)).trans h
  · intro hx
    obtain ⟨h1, h2, h3, h4⟩ := hs.modes.verifying (hv ▸ hx)
    refine ⟨hmode.trans h1, hcause.trans h2, ht.trans h3, ?_⟩
    obtain hw | hw := hw
    · exact hw.trans h4
    · exact hw
  · intro g h hgh hboth
    rw [conflicts_of_tables ht] at hgh
    exact hs.interlock g h hgh ⟨(hm g).moving hboth.1, (hm h).moving hboth.2⟩

section

variable {s t : State} (h : Reacts s t)
include h

theorem Reacts.of_parts {u : State} (e : quietPart u = quietPart t) (k : streetPart u = streetPart t) : Reacts s u := by
  refine ⟨h.toQuiet.trans (Quiet.of_part e), fun hs => (h.safe hs).of_moves (u := u) ?_ ?_ fun g => .inl ?_⟩
  · rw [← k]; rfl
  · exact .inl (congrArg StreetPart.write k)
  · exact congrFun (congrArg StreetPart.states k) g

/-! ### Primitive updates -/

theorem Reacts.push (n : Notice) : Reacts s (t.push n) := h.of_parts rfl rfl
theorem Reacts.notices (l : List Notice) : Reacts s { t with notices := l } := h.of_parts rfl rfl
theorem Reacts.tie (n : Nat) : Reacts s { t with tie := n } := h.of_parts rfl rfl
theorem Reacts.onDti (f : Dti → Dti) : Reacts s (t.onDti f) := h.of_parts rfl rfl
theorem Reacts.onDet (d : DetId) (f : DetRec → DetRec) : Reacts s (t.onDet d f) := h.of_parts rfl rfl
theorem Reacts.onDem (g : GroupId) (f : Demand → Demand) : Reacts s (t.onDem g f) := h.of_parts rfl rfl
theorem Reacts.setCap (a : ApproachId) (c : Cap) : Reacts s (t.setCap a c) := h.of_parts rfl rfl
theorem Reacts.setHolders (g : GroupId) (l : List Holder) : Reacts s (t.setHolders g l) := h.of_parts rfl rfl
theorem Reacts.onMon (g : GroupId) (f : MonRec → MonRec) : Reacts s (t.onMon g f) := h.of_parts rfl rfl
theorem Reacts.onSlot (n : PlanSlot) (f : Slot → Slot) : Reacts s (t.onSlot n f) := h.of_parts rfl rfl
theorem Reacts.begun : Reacts s t.begun := h.of_parts rfl rfl

theorem Reacts.onSeq (f : Seq → Seq) (hf : rising t.seq.stack → rising (f t.seq).stack) : Reacts s (t.onSeq f) where
  kept := h.kept
  faults := h.faults
  link := h.link
  requests := h.requests
  write := h.write
  stack e := hf (h.stack e)
  safe e := (h.safe e).of_moves rfl (.inl rfl) fun _ => .inl rfl

/-- An update of SEQ that leaves the resume stack. -/
theorem Reacts.onSeq_stack (f : Seq → Seq) (hf : (f t.seq).stack = t.seq.stack) : Reacts s (t.onSeq f) :=
  h.onSeq f (by rw [hf]; exact id)

theorem Reacts.onPri (f : Pri → Pri) (hf : t.pri.bounded → (f t.pri).bounded) : Reacts s (t.onPri f) where
  kept := h.kept
  faults := h.faults
  link := h.link
  requests e := hf (h.requests e)
  write := h.write
  stack := h.stack
  safe e := (h.safe e).of_moves rfl (.inl rfl) fun _ => .inl rfl

theorem Reacts.onApp (a : ApproachId) (f : Approach → Approach) (hf : (t.app a).bounded → (f (t.app a)).bounded) :
    Reacts s (t.onApp a f) := by
  refine h.onPri _ fun ⟨ha, hc⟩ => ⟨fun b => ?_, hc⟩
  by_cases hab : a = b
  · subst hab
    simpa [State.app] using hf (ha a)
  · have : (a : Nat) ≠ b := fun e => hab (Fin.ext e)
    simpa [this] using ha b

/-- An update of an approach that leaves the tags of its queue. -/
theorem Reacts.onApp_tags (a : ApproachId) (f : Approach → Approach)
    (hq : (f (t.app a)).queue.map TramRec.tag = (t.app a).queue.map TramRec.tag)
    (hn : (f (t.app a)).nextTag = (t.app a).nextTag) : Reacts s (t.onApp a f) := by
  refine h.onApp a f fun ⟨hlen, hnodup, htags, hnext⟩ => ?_
  have hlen' := congrArg List.length hq
  simp only [List.length_map] at hlen'
  have hall : ∀ n ∈ (f (t.app a)).queue.map TramRec.tag, 1 ≤ n ∧ n ≤ 255 := by
    rw [hq]; simpa using htags
  exact ⟨hlen' ▸ hlen, hq ▸ hnodup, by simpa using hall, hn ▸ hnext⟩

/-- An update of an approach that leaves some of its queue. -/
theorem Reacts.onApp_sublist (a : ApproachId) (f : Approach → Approach)
    (hq : (f (t.app a)).queue.Sublist (t.app a).queue) (hn : (f (t.app a)).nextTag = (t.app a).nextTag) :
    Reacts s (t.onApp a f) := by
  refine h.onApp a f fun ⟨hlen, hnodup, htags, hnext⟩ => ?_
  exact ⟨hq.length_le.trans hlen, hnodup.sublist (hq.map _), fun r hr => htags r (hq.subset hr), hn ▸ hnext⟩

/-- An update of PRI that leaves the queues and some of the calls. -/
theorem Reacts.onPri_calls (f : Pri → Pri) (ha : (f t.pri).approaches = t.pri.approaches)
    (hc : ((f t.pri).calls.map Call.id).Sublist (t.pri.calls.map Call.id)) : Reacts s (t.onPri f) := by
  refine h.onPri f fun ⟨hq, hlen, hnodup⟩ => ⟨fun a => ha ▸ hq a, ?_, hnodup.sublist hc⟩
  have := hc.length_le
  simp only [List.length_map] at this
  exact this.trans hlen

theorem Reacts.onCall (id : Nat) (f : Call → Call) (hf : ∀ c, (f c).id = c.id) : Reacts s (t.onCall id f) := by
  refine h.onPri_calls _ rfl ?_
  have : (fun c : Call => (if c.id = id then f c else c).id) = Call.id := by
    funext c; split <;> simp [hf]
  simp [List.map_map, Function.comp_def, this]

/-- An update of CMON that keeps the fault record, the second failure and the window. -/
theorem Reacts.onCmon (f : Cmon → Cmon) (hf : FaultsKept t.cmon (f t.cmon))
    (hd : (f t.cmon).safeDropped = t.cmon.safeDropped) (hw : (f t.cmon).window = t.cmon.window) :
    Reacts s (t.onCmon f) where
  kept := (kept_onCmon t f hd hw).trans h.kept
  faults := ⟨fun x e => hf.first x (h.faults.first x e), fun e => hf.lockout (h.faults.lockout e)⟩
  link := h.link
  requests := h.requests
  write := h.write
  stack := h.stack
  safe e := (h.safe e).of_moves rfl (.inl rfl) fun _ => .inl rfl

/-- An update of CMON that leaves the fault record. -/
theorem Reacts.onCmon_faults (f : Cmon → Cmon) (h1 : (f t.cmon).first = t.cmon.first)
    (h2 : (f t.cmon).lockout = t.cmon.lockout) (hd : (f t.cmon).safeDropped = t.cmon.safeDropped)
    (hw : (f t.cmon).window = t.cmon.window) : Reacts s (t.onCmon f) :=
  h.onCmon f ⟨fun _ e => h1.trans e, fun e => h2.trans e⟩ hd hw

/-- An update of PTS that leaves what is kept, and the write or ends it. -/
theorem Reacts.onPts (f : Pts → Pts) (hk : Machine.kept (t.onPts f) = Machine.kept t)
    (hw : (f t.pts).write = t.pts.write ∨ (f t.pts).write = none) : Reacts s (t.onPts f) where
  kept := hk.trans h.kept
  faults := h.faults
  link := h.link
  requests := h.requests
  write := by
    obtain e | e := hw
    · rw [State.onPts_pts, e]; exact h.write
    · exact .inr e
  stack := h.stack
  safe e := by
    refine (h.safe e).of_moves ?_ hw fun _ => .inl rfl
    have h1 := congrArg Kept.tables hk
    have h2 := congrArg Kept.areas hk
    have h3 := congrArg Kept.verify hk
    simp only [Machine.kept, State.onPts_pts] at h1 h2 h3
    simp only [streetPart, State.onPts_pts, h1, h2, h3]
    rfl

/-- An update of JMC that leaves the mode and the dark cause. -/
theorem Reacts.onJmc (f : Jmc → Jmc) (hm : (f t.jmc).mode = t.jmc.mode) (hd : (f t.jmc).darkCause = t.jmc.darkCause) :
    Reacts s (t.onJmc f) := by
  refine h.of_parts rfl ?_
  simp [streetPart, hm, hd, State.grp]

end

/-! ### The link -/

theorem Lnk.begin'_bounded {l : Lnk} (h : l.bounded) : l.begin'.bounded := by
  obtain ⟨hrep, hrpt, haf⟩ := h
  unfold Lnk.begin'
  split
  · exact ⟨hrep, hrpt, haf⟩
  · split
    · next e => rw [e] at hrep; exact ⟨(Nat.le_succ _).trans hrep, hrpt, haf⟩
    · split
      · next e => rw [e] at hrpt; exact ⟨hrep, (Nat.le_succ _).trans hrpt, haf⟩
      · exact ⟨hrep, hrpt, haf⟩

theorem evictOldest_length {l l' : List Report} (h : evictOldest l = some l') : l'.length + 1 = l.length := by
  induction l generalizing l' with
  | nil => cases h
  | cons r l ih =>
    by_cases hr : r.body.cls = .safety
    · rw [evictOldest_cons_of_safety hr, Option.map_eq_some_iff] at h
      obtain ⟨m, hm, rfl⟩ := h
      simp [ih hm]
    · rw [evictOldest_cons_of_not_safety hr, Option.some.injEq] at h
      simp [h]

theorem Lnk.accept_bounded {l : Lnk} (h : l.bounded) (r : Report) : (l.accept r).bounded := by
  obtain ⟨hrep, hrpt, hlo, hhi⟩ := h
  have joined (hlt : l.reports.length < 48) : Lnk.bounded { l with reports := l.reports ++ [r] } :=
    ⟨hrep, by simpa using hlt, hlo, hhi⟩
  unfold Lnk.accept
  cases r.body.cls with
  | detail =>
    dsimp only
    split
    · exact joined (by omega)
    · exact ⟨hrep, hrpt, hlo, hhi⟩
  | operational =>
    dsimp only
    split
    · exact joined (by assumption)
    · exact ⟨hrep, hrpt, hlo, hhi⟩
  | safety =>
    dsimp only
    split
    · exact joined (by assumption)
    · split
      · next rest e =>
        have := evictOldest_length e
        exact ⟨hrep, by simp; omega, hlo, hhi⟩
      · exact ⟨hrep, hrpt, hlo, hhi⟩

theorem Lnk.reply_bounded {l : Lnk} (h : l.bounded) (r : Reply) : (l.reply r).bounded := by
  obtain ⟨hrep, hrpt, haf⟩ := h
  unfold Lnk.reply
  split
  · next hlt => exact ⟨by simpa [Config.replyCapacity] using hlt, hrpt, haf⟩
  · exact ⟨hrep, hrpt, haf⟩

section

variable {s t : State}

theorem Quiet.onLnk (h : Quiet s t) (f : Lnk → Lnk) (hk : Machine.kept (t.onLnk f) = Machine.kept t)
    (hf : t.lnk.bounded → (f t.lnk).bounded) : Quiet s (t.onLnk f) where
  kept := hk.trans h.kept
  faults := h.faults
  link e := hf (h.link e)
  requests := h.requests
  write := h.write
  stack := h.stack

theorem Quiet.report (h : Quiet s t) (b : ReportBody) : Quiet s (t.report b) :=
  h.onLnk _ (kept_report t b) fun e => Lnk.begin'_bounded (Lnk.accept_bounded e _)

variable (h : Reacts s t)
include h

theorem Reacts.onLnk (f : Lnk → Lnk) (hk : Machine.kept (t.onLnk f) = Machine.kept t)
    (hf : t.lnk.bounded → (f t.lnk).bounded) : Reacts s (t.onLnk f) :=
  ⟨h.toQuiet.onLnk f hk hf, fun e => (h.safe e).of_moves rfl (.inl rfl) fun _ => .inl rfl⟩

theorem Reacts.report (b : ReportBody) : Reacts s (t.report b) :=
  h.onLnk _ (kept_report t b) fun e => Lnk.begin'_bounded (Lnk.accept_bounded e _)

theorem Reacts.reply (code tag : Byte) (st : Status) (items : List Byte) (m : Markers) :
    Reacts s (t.reply code tag st items m) :=
  h.onLnk _ (kept_reply t code tag st items m) fun e => Lnk.begin'_bounded (Lnk.reply_bounded e _)

theorem Reacts.replyUnknown (tag : Byte) : Reacts s (t.replyUnknown tag) :=
  h.onLnk _ (kept_replyUnknown t tag) fun e => Lnk.begin'_bounded (Lnk.reply_bounded e _)

/-! ### Choices and folds -/

theorem Reacts.foldl {α : Type} (l : List α) (f : State → α → State) (hf : ∀ u x, Reacts s u → Reacts s (f u x)) :
    Reacts s (l.foldl f t) := by
  induction l generalizing t with
  | nil => exact h
  | cons x l ih => exact ih (hf t x h)

end

theorem Reacts.ite {s a b : State} {c : Prop} [Decidable c] (ha : c → Reacts s a) (hb : ¬ c → Reacts s b) :
    Reacts s (if c then a else b) := by
  split
  · exact ha ‹_›
  · exact hb ‹_›

/-- A further operation that takes place or not. -/
theorem Reacts.when {s t u : State} {c : Prop} [Decidable c] (h : Reacts s t) (hu : Reacts s t → Reacts s u) :
    Reacts s (if c then u else t) :=
  Reacts.ite (fun _ => hu h) fun _ => h

end Sys2Proof.Machine
end

section
namespace Sys2Proof.Machine

/-! ### Groups -/

/-- What reads alike in states that differ in their groups alone. -/
theorem SameOutsideGroups.quietPart {t u : State} (h : SameOutsideGroups t u) : quietPart u = quietPart t := by
  unfold SameOutsideGroups at h
  rw [← h]
  rfl

theorem SameOutsideGroups.cmonFaults {t u : State} (h : SameOutsideGroups t u) :
    u.cmon.first = t.cmon.first ∧ u.cmon.lockout = t.cmon.lockout := by
  unfold SameOutsideGroups at h
  rw [← h]
  exact ⟨rfl, rfl⟩

section

variable {s t : State}

theorem grp_state_onGrp {g : GroupId} {f : GroupRec → GroupRec} (hf : (f (t.grp g)).state = (t.grp g).state)
    (b : GroupId) : ((t.onGrp g f).grp b).state = (t.grp b).state := by
  by_cases hb : g = b
  · subst hb; rw [State.grp_onGrp_self, hf]
  · rw [State.grp_onGrp_ne _ hb]

theorem raiseClearance_state (e b : GroupId) (t : State) : ((raiseClearance e t).grp b).state = (t.grp b).state := by
  unfold raiseClearance
  generalize GroupSet.members (t.conflicts e) = l
  suffices h : ∀ u : State, ((l.foldl (fun s b => s.onGrp b fun r => { r with cr := max r.cr (s.ig e b) }) u).grp b).state
      = (u.grp b).state from h t
  induction l with
  | nil => exact fun _ => rfl
  | cons x l ih => exact fun u => (ih _).trans (grp_state_onGrp (by rfl) b)

variable (h : Reacts s t)
include h

theorem Reacts.groups {u : State} (ho : SameOutsideGroups t u)
    (hm : Safe t → ∀ g, Moves (t.grp g).state (u.grp g).state) : Reacts s u := by
  obtain ⟨hpts, -, -, -, hjmc, -⟩ := ho.reads
  refine ⟨h.toQuiet.trans (Quiet.of_part ho.quietPart), fun hs => (h.safe hs).of_moves ?_ ?_ (hm (h.safe hs))⟩
  · simp [streetPart, hpts, hjmc]
  · exact .inl (by rw [hpts])

theorem Reacts.onGrp (g : GroupId) (f : GroupRec → GroupRec) (hf : Moves (t.grp g).state (f (t.grp g)).state) :
    Reacts s (t.onGrp g f) := by
  refine h.groups (sameOutsideGroups_onGrp t g f) fun _ b => ?_
  by_cases hb : g = b
  · subst hb; rw [State.grp_onGrp_self]; exact hf
  · rw [State.grp_onGrp_ne _ hb]; exact .inl rfl

theorem Reacts.changeGroup (g : GroupId) (f : GroupRec → GroupRec) (hf : Moves (t.grp g).state (f (t.grp g)).state) :
    Reacts s (changeGroup g f t) :=
  (h.onGrp g f hf).of_parts rfl rfl

theorem Reacts.sendLamp (g : GroupId) : Reacts s (sendLamp g t) := h.of_parts rfl rfl
theorem Reacts.endDifferences (g : GroupId) : Reacts s (endDifferences g t) := h.of_parts rfl rfl
theorem Reacts.dropEnded : Reacts s (dropEnded t) := h.of_parts rfl rfl

theorem Reacts.enterClosed (g : GroupId) (hg : (t.grp g).state ≠ .dark ∧ (t.grp g).state ≠ .flash) :
    Reacts s (enterClosed g t) :=
  ((h.changeGroup g _ (.inr ⟨hg.1, hg.2, fun e => by cases e⟩)).push _).push _

theorem Reacts.raiseClearance (e : GroupId) : Reacts s (raiseClearance e t) :=
  h.foldl _ _ fun _ b hu => hu.onGrp b _ (.inl rfl)

theorem Reacts.leaveOpen (g : GroupId) (hg : (t.grp g).state = .opened) : Reacts s (leaveOpen g t) := by
  unfold Machine.leaveOpen
  let f (r : GroupRec) : GroupRec := { r with closePending := false, hold := false, mgRem := 0, gapTimer := 0 }
  have h1 : Reacts s ((t.onGrp g f).push (.left g)) := (h.onGrp g f (.inl rfl)).push _
  have hstate : (((t.onGrp g f).push (.left g)).grp g).state = .opened := (grp_state_onGrp (f := f) rfl g).trans hg
  change Reacts s (if _ then Machine.enterClosed g (Machine.raiseClearance g (if _ then
    ((t.onGrp g f).push (.left g)).push .retest else (t.onGrp g f).push (.left g))) else Machine.changeGroup g _
      (Machine.raiseClearance g _))
  generalize (t.onGrp g f).push (.left g) = u at *
  have h2 : Reacts s (Machine.raiseClearance g (if (t.grp g).hold then u.push .retest else u)) :=
    (Reacts.ite (fun _ => h1.push _) fun _ => h1).raiseClearance g
  have hstate2 : ((Machine.raiseClearance g (if (t.grp g).hold then u.push .retest else u)).grp g).state = .opened := by
    rw [raiseClearance_state]
    split <;> exact hstate
  refine Reacts.ite (fun _ => h2.enterClosed g ?_) fun _ => h2.changeGroup g _ (.inr ?_)
  · rw [hstate2]; decide
  · rw [hstate2]; exact ⟨by decide, by decide, fun _ => rfl⟩

theorem Reacts.minComplete (g : GroupId) (hg : (t.grp g).state = .opened) : Reacts s (minComplete g t) := by
  unfold Machine.minComplete
  dsimp only
  generalize hfun : (fun r : GroupRec => if r.openElapsed ≥ r.effMaxg then _ else _) = f
  have same : (f (t.grp g)).state = (t.grp g).state := by
    subst hfun
    dsimp only
    split
    · rfl
    · split <;> rfl
  have h1 := (h.onGrp g f (.inl same)).push .retest
  exact Reacts.ite (fun _ => h1.leaveOpen g ((grp_state_onGrp same g).trans hg)) fun _ => h1

end

/-! ### Admission -/

theorem mem_groupIds (g : GroupId) : g ∈ groupIds := List.mem_finRange g

/-- The four parts of the validation of R29. -/
theorem validate_eq_none_iff {t : Tables} : validate t = none ↔
    (∀ g, checkGroup t g = none) ∧ checkMonitor t.monitor = none
      ∧ (∀ g h, t.conflict g h = true → checkListing t g h = none) ∧ ∀ e b, checkPair t e b = none := by
  simp [validate, List.findSome?_eq_none_iff, mem_groupIds, mem_members, Tables.conflict]

theorem checkListing_eq_none_iff {t : Tables} {g h : GroupId} : checkListing t g h = none ↔
    h ≠ g ∧ t.present g = true ∧ t.present h = true ∧ t.conflict h g = true := by
  unfold checkListing
  by_cases h1 : h = g
  · simp [h1]
  · by_cases h2 : t.present g <;> by_cases h3 : t.present h <;> by_cases h4 : t.conflict h g <;> simp [h1, h2, h3, h4]

/-- In tables that have passed the validation a listed conflict is between two present groups and listed from both sides. -/
theorem Tables.sound.conflict {t : Tables} (hs : t.sound) {g h : GroupId} (hc : t.conflict g h = true) :
    h ≠ g ∧ t.present g = true ∧ t.present h = true ∧ t.conflict h g = true :=
  checkListing_eq_none_iff.mp ((validate_eq_none_iff.mp hs).2.2.1 g h hc)

theorem conflicts_symm {s : State} (hs : Safe s) {g h : GroupId} (hc : GroupSet.has (s.conflicts g) h = true) :
    h ≠ g ∧ GroupSet.has (s.conflicts h) g = true := by
  unfold State.conflicts at *
  cases ht : s.pts.tables with
  | none => simp [ht, GroupSet.has] at hc
  | some t =>
    rw [ht] at hc
    obtain ⟨hne, -, -, hsym⟩ := (hs.tables.inForce t ht).conflict hc
    exact ⟨hne, hsym⟩

/-- What the conditions of admission say (R8). -/
theorem canAdmit_iff {s : State} {g : GroupId} : canAdmit s g = true ↔
    s.present g = true ∧ (s.grp g).state = .closed ∧ (s.grp g).openPending = true
      ∧ (s.grp g).cr ≤ (s.groupDef g).opent
      ∧ ∀ h, GroupSet.has (s.conflicts g) h = true → (s.grp h).state.moving = false := by
  simp [canAdmit, and_assoc, mem_members]

/-- A group that may be admitted may begin to move: no group it conflicts with does. -/
theorem Safe.admitted {t : State} (hs : Safe t) {g : GroupId} (hc : canAdmit t g = true) (f : GroupRec → GroupRec) :
    Safe (changeGroup g f t) := by
  obtain ⟨hp, hstate, -, -, hfree⟩ := canAdmit_iff.mp hc
  have hother {b : GroupId} (hb : b ≠ g) : (changeGroup g f t).grp b = t.grp b := changeGroup_grp_ne hb f t
  refine ⟨⟨hs.tables.inForce, hs.tables.stored, hs.tables.written⟩, ⟨?_, ?_, ?_, hs.modes.verifying⟩, ?_⟩
  · intro b hb
    have hbg : b ≠ g := by
      rintro rfl
      change t.present b = false at hb
      simp [hp] at hb
    rw [hother hbg]
    exact hs.modes.absent b hb
  · intro hf
    have := hs.modes.flash hf g hp
    simp [hstate] at this
  · intro hd
    have := hs.modes.dark hd g
    simp [hstate] at this
  · intro a b hab ⟨ha, hb⟩
    change GroupSet.has (t.conflicts a) b = true at hab
    obtain ⟨hne, hba⟩ := conflicts_symm hs hab
    by_cases hag : a = g
    · subst hag
      rw [hother hne, hfree b hab] at hb
      cases hb
    · rw [hother hag] at ha
      by_cases hbg : b = g
      · subst hbg
        rw [hfree a hba] at ha
        cases ha
      · rw [hother hbg] at hb
        exact hs.interlock a b hab ⟨ha, hb⟩

section

variable {s t : State} (h : Reacts s t)
include h

theorem Reacts.admitted (g : GroupId) (f : GroupRec → GroupRec) (hc : canAdmit t g = true) : Reacts s (Machine.changeGroup g f t) :=
  ⟨h.toQuiet.trans (Quiet.of_part rfl), fun e => (h.safe e).admitted hc f⟩

/-- A group enters OPEN from OPENING, or at its admission. -/
theorem Reacts.enterOpen (g : GroupId) (hg : (t.grp g).state = .opening ∨ canAdmit t g = true) :
    Reacts s (enterOpen g t) := by
  unfold Machine.enterOpen
  dsimp only
  have h1 (f : GroupRec → GroupRec) (hf : (f (t.grp g)).state.moving = true) : Reacts s (Machine.changeGroup g f t) := by
    obtain hg | hg := hg
    · exact h.changeGroup g f (.inr (by simp [hg, GroupState.moving]))
    · exact h.admitted g f hg
  refine Reacts.ite (fun _ => (((h1 _ ?_).push _).push _).minComplete g ?_) fun _ => ((h1 _ ?_).push _).push _
  · rfl
  · exact congrArg GroupRec.state (changeGroup_grp_self g _ t)
  · rfl

theorem Reacts.admitGroup (g : GroupId) (hc : canAdmit t g = true) : Reacts s (admitGroup g t) :=
  Reacts.ite (fun _ => h.enterOpen g (.inr hc)) fun _ => (h.admitted g _ hc).push _

theorem Reacts.admitWaiting : Reacts s (admitWaiting t) :=
  h.foldl _ _ fun _ g hu => Reacts.ite (fun hc => hu.admitGroup g hc) fun _ => hu

/-! ### Commands of SEQ and JMC, and the flags of groups -/

theorem Reacts.openCommand (g : GroupId) (o : Option Override) : Reacts s (openCommand g o t) := by
  unfold Machine.openCommand
  refine Reacts.ite (fun _ => h) fun _ => ?_
  split
  · exact h
  · exact h
  · exact (h.onGrp g _ (.inl rfl)).admitWaiting
  · exact h.onGrp g _ (.inl rfl)
  · exact h.onGrp g _ (.inl rfl)
  · exact h.onGrp g _ (.inl rfl)

theorem Reacts.closeCommand (g : GroupId) : Reacts s (closeCommand g t) := by
  have withdrawn : Reacts s (t.onGrp g fun r =>
      if r.openPending then { r with openPending := false, override := none } else r) :=
    h.onGrp g _ (.inl (by split <;> rfl))
  unfold Machine.closeCommand
  refine Reacts.ite (fun _ => h) fun _ => ?_
  split
  · exact h
  · exact h
  · next hg =>
    have hwaiting := h.onGrp g (fun r => { r with closePending := true }) (.inl rfl)
    refine Reacts.ite (fun _ => hwaiting) fun _ => Reacts.ite (fun _ => h.leaveOpen g hg) fun _ => hwaiting.minComplete g ?_
    rw [State.grp_onGrp_self]
    exact hg
  · exact h.onGrp g _ (.inl rfl)
  · exact withdrawn
  · exact withdrawn

theorem Reacts.holdGroup (g : GroupId) : Reacts s (holdGroup g t) :=
  Reacts.ite (fun _ => (h.onGrp g _ (.inl rfl)).push _) fun _ => h

theorem Reacts.releaseGroup (g : GroupId) : Reacts s (releaseGroup g t) :=
  Reacts.ite (fun _ => (h.onGrp g _ (.inl rfl)).push _) fun _ => h

theorem Reacts.setWait (g : GroupId) (on : Bool) : Reacts s (setWait g on t) := by
  have h1 := h.onGrp g (fun r => { r with wait := on }) (.inl rfl)
  exact Reacts.ite (fun _ => h) fun _ => Reacts.ite (fun _ => h1) fun _ => h1.sendLamp g

theorem Reacts.setExtInput (g : GroupId) (on : Bool) : Reacts s (setExtInput g on t) :=
  h.onGrp g (fun r => if on && r.state = .opened && r.minDone && r.ext = .running then
    { r with extInput := on, gapTimer := (t.times g).gap } else { r with extInput := on }) (.inl (by split <;> rfl))

theorem Reacts.repeatLamps : Reacts s (repeatLamps t) :=
  Reacts.foldl (t := t.onSge fun e => { e with lampRepeat := Config.lampRepeatPeriod }) (h.of_parts rfl rfl) _ _
    fun _ g hu => hu.sendLamp g

/-! ### Demand -/

theorem Reacts.latch (g : GroupId) (src : DemandSource) : Reacts s (latch g src t) := by
  unfold Machine.latch
  have h1 := Reacts.ite (c := (t.dem g).latched = true)
    (fun _ => h.onDem g fun e => { e with sources := DemandSet.add e.sources src })
    fun _ => (h.onDem g fun _ => { latched := true, sources := DemandSet.add 0 src, wait := 0 }).report (.demandLatched g src)
  exact (Reacts.ite (fun _ => h1.setWait g true) fun _ => h1).push _

theorem Reacts.demandNotice (src : DemandSource) (g : GroupId) : Reacts s (demandNotice src g t) :=
  Reacts.ite (fun _ => h.latch g src) fun _ => h

theorem Reacts.faultDemandOn (g : GroupId) : Reacts s (faultDemandOn g t) :=
  Reacts.ite (fun _ => h.latch g .fault) fun _ => h

theorem Reacts.latchFromState (g : GroupId) : Reacts s (latchFromState g t) := by
  refine Reacts.ite (fun _ => h) fun _ => ?_
  have h1 := Reacts.ite (c := (t.times g).recallOn = true) (fun _ => h.latch g .recalled) fun _ => h
  exact Reacts.ite (fun _ => h1.latch g .fault) fun _ => h1

theorem Reacts.clearDemand (g : GroupId) : Reacts s (clearDemand g t) :=
  Reacts.ite (fun _ => (h.onDem g _).setWait g false) fun _ => h.onDem g _

theorem Reacts.clearEnd : Reacts s (clearEnd t) := h.onSeq_stack _ rfl

theorem Reacts.planningResult (n : Nat) (p : StageId) : Reacts s (planningResult n p t) := by
  have h1 := (h.onSeq_stack (fun q => { q with h := some n, mark := some p }) rfl).push .choose
  exact Reacts.ite (fun _ => Reacts.ite (fun _ => h1.push _) fun _ => h1) fun _ => h

theorem Reacts.releaseNotice : Reacts s (releaseNotice t) := h.clearEnd.push _

theorem Reacts.levelNotice (l : Nat) : Reacts s (levelNotice l t) :=
  Reacts.ite (fun _ => (h.onSeq_stack (fun q => { q with level := max q.level l }) rfl).push _) fun _ => h

end

end Sys2Proof.Machine
end

section
namespace Sys2Proof.Machine

/-! ### The priority unit -/

/-- A request reaches the queue's end: the tag given is one that no record holds (R95). -/
theorem freeTag_range (n : Nat) (q : List TramRec) (t : Nat) (h1 : 1 ≤ t) (h2 : t ≤ 255) :
    1 ≤ freeTag n q t ∧ freeTag n q t ≤ 255 := by
  induction n generalizing t with
  | zero => exact ⟨h1, h2⟩
  | succ n ih =>
    unfold freeTag
    have hnext : 1 ≤ nextTagOf t ∧ nextTagOf t ≤ 255 := by unfold nextTagOf; split <;> omega
    split
    · exact ih _ hnext.1 hnext.2
    · exact ⟨h1, h2⟩

/-- The `k`-th tag after `t`. -/
def tagAfter : Nat → Nat → Nat
  | 0, t => t
  | k + 1, t => tagAfter k (nextTagOf t)

theorem tagAfter_eq (k t : Nat) (h1 : 1 ≤ t) (h2 : t ≤ 255) : tagAfter k t = (t + k - 1) % 255 + 1 := by
  induction k generalizing t with
  | zero => simp only [tagAfter]; omega
  | succ k ih =>
    have hnext : 1 ≤ nextTagOf t ∧ nextTagOf t ≤ 255 := by unfold nextTagOf; split <;> omega
    rw [tagAfter, ih _ hnext.1 hnext.2]
    unfold nextTagOf
    split <;> omega

/-- When the search ends on a tag that a record holds, every tag it tried is held. -/
theorem held_of_freeTag_held (n : Nat) (q : List TramRec) (t : Nat) (h : freeTag n q t ∈ q.map TramRec.tag) :
    ∀ k ≤ n, tagAfter k t ∈ q.map TramRec.tag := by
  induction n generalizing t with
  | zero =>
    intro k hk
    obtain rfl : k = 0 := by omega
    exact h
  | succ n ih =>
    unfold freeTag at h
    split at h
    · next hany =>
      rintro (_ | k) hk
      · simp only [List.any_eq_true, decide_eq_true_eq] at hany
        exact List.mem_map.mpr hany
      · exact ih _ h k (by omega)
    · next hany =>
      refine absurd ?_ hany
      simpa using h

/-- With more tags tried than records in the queue, the tag found is one that no record holds: of distinct tags, not all
can be held. -/
theorem freeTag_not_held (q : List TramRec) (t : Nat) (h1 : 1 ≤ t) (h2 : t ≤ 255) (hq : q.length ≤ 4) :
    freeTag (q.length + 1) q t ∉ q.map TramRec.tag := by
  intro h
  have hheld := held_of_freeTag_held _ q t h
  have hnodup : ((List.range (q.length + 1)).map fun k => tagAfter k t).Nodup := by
    rw [List.nodup_map_iff_inj_on List.nodup_range]
    intro i hi j hj e
    rw [List.mem_range] at hi hj
    rw [tagAfter_eq _ _ h1 h2, tagAfter_eq _ _ h1 h2] at e
    omega
  have hsub : ((List.range (q.length + 1)).map fun k => tagAfter k t) ⊆ q.map TramRec.tag := by
    intro x hx
    obtain ⟨k, hk, rfl⟩ := List.mem_map.mp hx
    exact hheld k (by rw [List.mem_range] at hk; omega)
  have := (hnodup.subperm hsub).length_le
  simp only [List.length_map, List.length_range] at this
  omega

theorem nextTagOf_range {t : Nat} (h1 : 1 ≤ t) (h2 : t ≤ 255) : 1 ≤ nextTagOf t ∧ nextTagOf t ≤ 255 := by
  unfold nextTagOf
  split <;> omega

/-- A record that joins a queue of fewer than four takes a tag of its own. -/
theorem Approach.bounded_add {x : Approach} (hx : x.bounded) (hlen : x.queue.length < 4) (r : TramRec)
    (hr : r.tag = freeTag (x.queue.length + 1) x.queue x.nextTag) :
    Approach.bounded { x with queue := x.queue ++ [r], nextTag := nextTagOf r.tag } := by
  obtain ⟨hle, hnodup, htags, hn1, hn2⟩ := hx
  have hrange := freeTag_range (x.queue.length + 1) x.queue x.nextTag hn1 hn2
  have hfree := freeTag_not_held x.queue x.nextTag hn1 hn2 hle
  rw [← hr] at hrange hfree
  refine ⟨by simpa using hlen, ?_, ?_, nextTagOf_range hrange.1 hrange.2⟩
  · rw [List.map_append, List.nodup_append]
    refine ⟨hnodup, List.nodup_singleton _, ?_⟩
    rintro a ha b hb rfl
    rw [List.map_singleton, List.mem_singleton] at hb
    exact hfree (hb ▸ ha)
  · intro y hy
    rw [List.mem_append, List.mem_singleton] at hy
    obtain hy | rfl := hy
    · exact htags y hy
    · exact hrange

section

variable {s t : State} (h : Reacts s t)
include h

theorem Reacts.reportTram (e : PriorityEvent) (a : ApproachId) (r : TramRec) (src : Option TramSource) (st : Option TramState) :
    Reacts s (reportTram e a r src st t) := h.report _

theorem Reacts.reportApproach (e : PriorityEvent) (a : ApproachId) (src : Option TramSource) :
    Reacts s (reportApproach e a src t) := h.report _

theorem Reacts.reportCall (e : PriorityEvent) (id : Nat) : Reacts s (reportCall e id t) := h.report _

theorem Reacts.priChanged : Reacts s (priChanged t) := h.push _

theorem Reacts.episodeChanged : Reacts s (episodeChanged t) := (h.push _).push _

theorem Reacts.addHolder (g : GroupId) (x : Holder) : Reacts s (addHolder g x t) :=
  Reacts.ite (fun _ => (Reacts.ite (fun _ => h) fun _ => h.setHolders g _).holdGroup g) fun _ => h

theorem Reacts.removeHolder (g : GroupId) (x : Holder) : Reacts s (removeHolder g x t) := by
  have h1 := h.setHolders g ((t.holders g).filter (· ≠ x))
  exact Reacts.ite (fun _ => Reacts.ite (fun _ => h1.releaseGroup g) fun _ => h1) fun _ => h

theorem Reacts.removeEverywhere (x : Holder) : Reacts s (removeEverywhere x t) :=
  h.foldl _ _ fun _ g hu => hu.removeHolder g x

theorem Reacts.loadCap (a : ApproachId) : Reacts s (loadCap a t) :=
  Reacts.ite (fun _ => (h.setCap a _).push _) fun _ => h.setCap a _

theorem Reacts.startCap (a : ApproachId) : Reacts s (startCap a t) :=
  Reacts.ite (fun _ => h.loadCap a) fun _ => h.setCap a _

theorem Reacts.capExpired (a : ApproachId) : Reacts s (capExpired a t) := by
  unfold Machine.capExpired
  refine Reacts.ite (fun _ => ?_) fun _ => h
  dsimp only
  split
  · exact (h.setCap a _).removeHolder _ _
  · exact h.setCap a _

theorem Reacts.readyButForHold : Reacts s (readyButForHold t) := by
  refine h.foldl _ _ fun u a hu => ?_
  split
  · exact Reacts.ite (fun _ => hu.loadCap a) fun _ => hu
  · exact hu

theorem Reacts.unplan (a : ApproachId) : Reacts s (unplan a t) :=
  Reacts.ite (fun _ => (h.onApp_tags a _ rfl rfl).push _) fun _ => h

theorem Reacts.unplanRef (r : ReqRef) : Reacts s (unplanRef r t) := by
  cases r with
  | tram a n => exact h.unplan a
  | call id => exact h

theorem Reacts.withdraw : Reacts s (withdraw t) := by
  unfold Machine.withdraw
  split
  · exact h
  · exact ((h.onPri_calls (fun x => { x with standing := none }) rfl (List.Sublist.refl _)).releaseNotice).unplanRef _

theorem Reacts.withdrawIf (r : ReqRef) : Reacts s (withdrawIf r t) := by
  unfold Machine.withdrawIf
  split
  · exact h
  · exact Reacts.ite (fun _ => h.withdraw) fun _ => h

theorem Reacts.serveHead (a : ApproachId) : Reacts s (serveHead a t) := by
  unfold Machine.serveHead
  split
  · next x rest g hq hg =>
    exact (((h.onApp_tags a (fun r => { r with queue := { x with state := .serving } :: rest, episode := .serving })
      (by rw [hq]; rfl) rfl).reportTram _ _ _ _ _).addHolder g _).startCap a |>.episodeChanged
  · exact h

theorem Reacts.passToServing (a : ApproachId) : Reacts s (passToServing a t) := by
  unfold Machine.passToServing
  split
  · exact Reacts.ite (fun _ => h.serveHead a) fun _ => h
  · exact h

theorem Reacts.onOwn (own : Option ReqRef) : Reacts s (t.onPri fun p => { p with own := own }) :=
  h.onPri_calls _ rfl (List.Sublist.refl _)

/-- A standing plan of another request is withdrawn. -/
theorem Reacts.withdrawOther (ref : ReqRef) : Reacts s (match t.pri.standing with
    | some p => if p.subject = ref then t else Machine.withdraw t
    | none => t) := by
  split
  · exact Reacts.ite (fun _ => h) fun _ => h.withdraw
  · exact h

theorem Reacts.extendTram (a : ApproachId) : Reacts s (extendTram a t) := by
  unfold Machine.extendTram
  split
  · exact h
  · next x hx =>
    exact (((((h.withdrawOther (.tram a x.tag)).onApp_tags a (fun r => { r with episode := .planned, recovery := 0 })
      rfl rfl).reportTram _ _ _ _ _).serveHead a).onOwn _).levelNotice 2

theorem Reacts.offer (a : ApproachId) : Reacts s (offer a t) := Reacts.ite (fun _ => h.extendTram a) fun _ => h

theorem Reacts.offerAmong (l : List ApproachId) : Reacts s (offerAmong l t) :=
  Reacts.foldl (h.tie _) _ _ fun _ a hu => hu.offer a

theorem Reacts.lookAtHead (a : ApproachId) : Reacts s (lookAtHead a t) :=
  Reacts.ite (fun _ => h.serveHead a) fun _ => h.offer a

theorem Reacts.serveCall (id : Nat) : Reacts s (serveCall id t) := by
  unfold Machine.serveCall
  split
  · exact h
  · exact ((((h.onCall id (fun c => { c with state := .serving, servingStage := t.seq.current }) fun _ => rfl).reportCall
      _ _).foldl _ _ fun _ g hu => hu.addHolder g _).episodeChanged)

theorem Reacts.onCalls_filter (p : Call → Bool) : Reacts s (t.onPri fun x => { x with calls := x.calls.filter p }) :=
  h.onPri_calls _ rfl (List.filter_sublist.map _)

theorem Reacts.finishCall (id : Nat) : Reacts s (finishCall id t) :=
  (((h.removeEverywhere _).onCalls_filter fun c => c.id ≠ id).reportCall _ _).episodeChanged

theorem Reacts.suspendCall (id : Nat) : Reacts s (suspendCall id t) :=
  ((h.removeEverywhere _).onCall id (fun c => { c with state := .waiting, servingStage := none })
    fun _ => rfl).episodeChanged

/-! ### The planner -/

theorem Reacts.notePlanned (r : ReqRef) : Reacts s (notePlanned r t) := by
  unfold Machine.notePlanned
  cases r with
  | tram a n =>
    dsimp only
    split
    · exact Reacts.ite (fun _ => ((h.onApp_tags a _ rfl rfl).reportTram _ _ _ _ _).push _) fun _ => h
    · exact h
  | call id =>
    dsimp only
    split
    · exact Reacts.ite (fun _ => h) fun _ =>
        (h.onCall id (fun c => { c with planned := true }) fun _ => rfl).reportCall _ _
    · exact h

theorem Reacts.insertPlan (r : ReqRef) : Reacts s (insertPlan r t) := by
  unfold Machine.insertPlan
  split
  · exact h
  · exact ((h.onPri_calls (fun x => { x with standing := some _ }) rfl (List.Sublist.refl _)).notePlanned r).planningResult _ _

theorem Reacts.extendFor (r : ReqRef) : Reacts s (extendFor r t) := by
  cases r with
  | tram a n => exact h.extendTram a
  | call id => exact (((h.withdrawOther (.call id)).serveCall id).onOwn _).levelNotice _

theorem Reacts.plannerRun (r : ReqRef) : Reacts s (plannerRun r t) :=
  Reacts.ite (fun _ => Reacts.ite (fun _ => h.withdraw.unplanRef r) fun _ =>
    Reacts.ite (fun _ => h.extendFor r) fun _ => h.insertPlan r) fun _ => h

theorem Reacts.determineRuling (force : Bool) : Reacts s (determineRuling force t) := by
  unfold Machine.determineRuling
  refine Reacts.ite (fun _ => ?_) fun _ => ?_
  · split
    · exact Reacts.ite (fun _ => h.plannerRun _) fun _ => h
    · exact h
  · have h1 := Reacts.foldl (h.onPri_calls (fun p => { p with rulingHeld := t.ruling }) rfl (List.Sublist.refl _))
      approachIds (fun u a => if headIs u a t.ruling then u else Machine.unplan a u)
      fun _ a hu => Reacts.ite (fun _ => hu) fun _ => hu.unplan a
    refine Reacts.push ?_ _
    split
    · exact h1.withdraw
    · exact Reacts.ite (fun _ => h1.plannerRun _) fun _ => h1.withdrawOther _

/-! ### Queues -/

theorem Reacts.addTram (a : ApproachId) (src : TramSource) (v : Option Nat) (time : JTime) (eta : Nat)
    (hlen : (t.app a).queue.length < 4) : Reacts s (addTram a src v time eta t) := by
  unfold Machine.addTram
  refine Reacts.priChanged ?_
  have joined (r : TramRec) (hr : r.tag = newTag t a) : Reacts s (t.onApp a fun x =>
      { x with queue := (t.app a).queue ++ [r], nextTag := nextTagOf r.tag }) :=
    h.onApp a (fun x => { x with queue := (t.app a).queue ++ [r], nextTag := nextTagOf r.tag }) fun hx =>
      Approach.bounded_add hx hlen r hr
  refine Reacts.ite (fun _ => ((joined _ ?_).reportTram _ _ _ _ _).lookAtHead a) fun _ =>
    (joined _ ?_).reportTram _ _ _ _ _
  · rfl
  · rfl

theorem Reacts.removeHead (a : ApproachId) : Reacts s (removeHead a t) := by
  unfold Machine.removeHead
  split
  · exact h
  · next x rest hq =>
    have h1 : Reacts s (t.onApp a fun y => { y with queue := rest }) :=
      h.onApp_sublist a _ (by rw [hq]; exact List.sublist_cons_self _ _) rfl
    refine Reacts.priChanged (Reacts.lookAtHead ?_ a)
    split
    · exact (h1.withdrawIf _).unplan a
    · have h2 := h1.setCap a .absent
      refine Reacts.ite (fun _ => h2) fun _ => ?_
      split
      · exact h2.removeHolder _ _
      · exact h2
    · exact h1

theorem Reacts.loopCheckIn (a : ApproachId) (time : JTime) : Reacts s (loopCheckIn a time t) := by
  have h1 := h.onApp_tags a (fun x => { x with checkinGuard := (t.appSet a).checkinGuard }) rfl rfl
  refine Reacts.ite (fun _ => h) fun _ => Reacts.ite (fun _ => h) fun _ => Reacts.ite (fun _ => h) fun _ =>
    Reacts.ite (fun _ => h1.reportApproach _ _ _) fun hlen => h1.addTram a _ _ _ _ ?_
  rw [State.app_onApp_self]
  exact Nat.lt_of_not_ge hlen

theorem Reacts.checkOutHead (a : ApproachId) (src : TramSource) : Reacts s (checkOutHead a src t) := by
  unfold Machine.checkOutHead
  split
  · exact (h.reportTram _ _ _ _ _).removeHead a
  · exact h

theorem Reacts.loopCheckOut (a : ApproachId) : Reacts s (loopCheckOut a t) :=
  Reacts.ite (fun _ => h) fun _ => Reacts.ite (fun _ => h.reportApproach _ _ _) fun _ => h.checkOutHead a _

theorem Reacts.loseHead (a : ApproachId) : Reacts s (loseHead a t) := by
  unfold Machine.loseHead
  split
  · exact (h.reportTram _ _ _ _ _).removeHead a
  · exact h

theorem Reacts.priEntered (g : GroupId) : Reacts s (priEntered g t) :=
  Reacts.ite (fun _ => h.foldl _ _ fun _ a hu => hu.passToServing a) fun _ => h

theorem Reacts.endService (a : ApproachId) : Reacts s (endService a t) := by
  have same (r : TramRec) : (if r.state = .serving then { r with state := .served } else r : TramRec).tag = r.tag := by
    split <;> rfl
  refine Reacts.ite (fun _ => ?_) fun _ => h
  refine Reacts.episodeChanged (Reacts.foldl (h.onApp_tags a _ ?_ rfl) _ _ fun _ r hu => hu.reportTram _ _ _ _ _)
  simp only [List.map_map]
  exact List.map_congr_left fun r _ => same r

theorem Reacts.priLeft (g : GroupId) : Reacts s (priLeft g t) :=
  Reacts.foldl (h.setHolders g []) _ _ fun _ a hu => (hu.setCap a .absent).endService a

theorem Reacts.priStageEnded (ended : StageId) (own : Option ReqRef) : Reacts s (priStageEnded ended own t) :=
  Reacts.foldl (h.onPri_calls (fun p => { p with standing := none, own := own }) rfl (List.Sublist.refl _)) _ _
    fun _ c hu => hu.suspendCall c.id

theorem Reacts.runningPassages (x : StageId) : Reacts s (runningPassages x t) := by
  unfold Machine.runningPassages
  dsimp only
  have h1 := Reacts.foldl h (t.pri.calls.filter fun c => c.state = .waiting
      && ((c.target = x && t.ruling = some (.call c.id)) || (t.seq.resumed && t.pri.own = some (.call c.id))))
    (fun s c => Machine.serveCall c.id s) fun _ c hu => hu.serveCall c.id
  have h2 := Reacts.foldl h1 approachIds (fun s a => if s.tramGroupOpenInStage a then Machine.passToServing a s else s)
    fun _ a hu => Reacts.ite (fun _ => hu.passToServing a) fun _ => hu
  split
  · split
    · exact Reacts.ite (fun _ => h2.extendTram _) fun _ => h2
    · exact h2
  · exact h2

theorem Reacts.priRunning (x : StageId) : Reacts s (priRunning x t) :=
  Reacts.ite (fun _ => ((h.runningPassages x).determineRuling true).offerAmong _) fun _ => h

/-! ### Modes and plans -/

theorem Reacts.dropCalls : Reacts s (dropCalls t) :=
  (h.foldl _ _ fun _ _ hu => hu.reportCall _ _).onPri_calls _ rfl (List.nil_sublist _)

theorem Reacts.stopPlanning : Reacts s (stopPlanning t) := by
  have same (x : Approach) : x.bounded → (if x.episode = .planned then { x with episode := .idle } else x : Approach).bounded := by
    split <;> exact id
  refine h.onPri _ fun ⟨ha, hc⟩ => ⟨fun a => ?_, hc⟩
  simpa using same _ (ha a)

theorem Reacts.priEndNormal : Reacts s (priEndNormal t) :=
  ((h.stopPlanning.foldl _ _ fun _ g hu => Reacts.ite (fun _ => hu) fun _ =>
    (hu.setHolders g []).releaseGroup g).dropCalls).priChanged

theorem Reacts.priFlash : Reacts s (priFlash t) :=
  ((h.stopPlanning.onPri_calls (fun p => { p with holders := Vector.replicate 24 [] }) rfl
    (List.Sublist.refl _)).dropCalls).priChanged

theorem Reacts.approachUnderPlan (a : ApproachId) : Reacts s (approachUnderPlan a t) := by
  unfold Machine.approachUnderPlan
  refine Reacts.ite (fun _ => ?_) fun _ => ?_
  · have h1 := h.foldl (t.app a).queue (fun s r => Machine.reportTram .dropped a r none none s) fun _ r hu => hu.reportTram _ _ _ _ _
    exact (Reacts.ite (fun _ => h1) fun _ => h1.push _).onApp_sublist a _ (List.nil_sublist _) rfl
  · exact (h.foldl _ _ fun _ r hu => hu.reportTram _ _ _ _ _).onApp_sublist a _ (List.dropWhile_sublist _) rfl

theorem Reacts.priUnderPlan : Reacts s (priUnderPlan t) := by
  unfold Machine.priUnderPlan
  dsimp only
  exact ((((h.foldl _ _ fun _ a hu => hu.approachUnderPlan a).foldl _ _ fun _ c hu => hu.reportCall _ _).onCalls_filter
    _).offerAmong _).determineRuling false

end

end Sys2Proof.Machine
end

section
namespace Sys2Proof.Machine

/-! ### The resume stack -/

theorem rising_tail {r : ResumeRec} {l : List ResumeRec} (h : rising (r :: l)) : rising l :=
  ⟨(Nat.le_succ _).trans h.1, h.2.of_cons⟩

/-- A record is pushed above records of lower levels. -/
theorem rising_push {t : State} {c : EndClass} {x : StageId} (hp : pushes t c = true) (hr : rising t.seq.stack) :
    rising (resumeRecord t x :: t.seq.stack) := by
  simp only [pushes, Bool.and_eq_true, decide_eq_true_eq] at hp
  obtain ⟨⟨-, hlen⟩, htop⟩ := hp
  refine ⟨by simpa using Nat.succ_le_of_lt hlen, List.pairwise_cons.mpr ⟨fun y hy => ?_, hr.2⟩⟩
  change y.level < t.seq.level
  have hpw := hr.2
  cases hst : t.seq.stack with
  | nil => rw [hst] at hy; cases hy
  | cons z l =>
    rw [hst] at hy hpw htop
    have hz : z.level < t.seq.level := by simpa [aboveTop] using htop
    obtain rfl | hy := List.mem_cons.mp hy
    · exact hz
    · exact (List.rel_of_pairwise_cons hpw hy).trans hz

section

variable {s t : State} (h : Reacts s t)
include h

/-! ### Detectors -/

theorem Reacts.reportHealth (d : DetId) : Reacts s (reportHealth d t) := h.report _

theorem Reacts.recomputeInputs : Reacts s (recomputeInputs t) := by
  refine Reacts.foldl (h.onDti _) _ _ fun u g hu => ?_
  have h1 := Reacts.ite (c := GroupSet.has t.extWanted g = GroupSet.has t.dti.ext g) (fun _ => hu)
    fun _ => hu.setExtInput g (GroupSet.has t.extWanted g)
  exact Reacts.ite (fun _ => h1.faultDemandOn g) fun _ => h1

theorem Reacts.sendDemand (d : DetId) : Reacts s (sendDemand d t) :=
  h.foldl _ _ fun _ g hu => hu.demandNotice _ g

theorem Reacts.deliverEdge (d : DetId) (o : Bool) : Reacts s (deliverEdge d o t) := by
  have demand : Reacts s (if o then Machine.sendDemand d t else t) :=
    Reacts.ite (fun _ => h.sendDemand d) fun _ => h
  unfold Machine.deliverEdge
  dsimp only
  split
  · exact demand
  · exact demand
  · exact demand
  · exact Reacts.ite (fun _ => h.loopCheckIn _ _) fun _ => h
  · exact Reacts.ite (fun _ => h) fun _ => h.loopCheckOut _
  · exact h
  · exact h
  · exact h

theorem Reacts.demandOnEffective (d : DetId) : Reacts s (demandOnEffective d t) :=
  Reacts.ite (fun _ => h.sendDemand d) fun _ => h

theorem Reacts.changeDet (d : DetId) (f : DetRec → DetRec) : Reacts s (changeDet d f t) :=
  (Reacts.ite (fun _ => (h.onDet d f).reportHealth d) fun _ => h.onDet d f).recomputeInputs

theorem Reacts.goodWord (d : DetId) (o : Bool) : Reacts s (goodWord d o t) := by
  unfold Machine.goodWord
  refine Reacts.when (Reacts.when (Reacts.recomputeInputs ?_) fun k => k.deliverEdge d o) fun k => k.demandOnEffective d
  have h1 := Reacts.when (c := ((t.det d).settled && o != (t.det d).occupied && decide ((t.detSet d).kind ≠ .unused)
      && (t.detSet d).edgeReporting) = true) (h.onDet d fun _ => (t.det d).passedParity.goodWord (t.detSet d) o t.time)
    fun k => k.report (.detectorEdge d o (effectiveUnder (t.detSet d)
      ((t.det d).passedParity.goodWord (t.detSet d) o t.time)))
  split
  · exact h1
  · exact Reacts.ite (fun _ => Reacts.ite (fun _ => h1) fun _ => h1.reportHealth d) fun _ => h1.when fun k => k.reportHealth d

theorem Reacts.chargeWord (c : Nat) (o f p : Bool) : Reacts s (chargeWord c o f p t) := by
  unfold Machine.chargeWord
  split
  · exact h
  · exact Reacts.ite (fun _ => h.changeDet _ _) fun _ => Reacts.ite (fun _ => h.changeDet _ _) fun _ => h.goodWord _ _

theorem Reacts.confirmSilence (d : DetId) : Reacts s (confirmSilence d t) := by
  have h1 := h.onDet d fun r => { r with silent := true, settled := true }
  exact Reacts.ite (fun _ => h.changeDet _ _) fun _ =>
    (Reacts.ite (fun _ => h1.reportHealth d) fun _ => h1).recomputeInputs

theorem Reacts.becomeStuck (d : DetId) : Reacts s (becomeStuck d t) := h.changeDet _ _

theorem Reacts.setMask (d : DetId) (on : Bool) : Reacts s (setMask d on t) := by
  have h1 := (h.onDet d fun r => { r with mask := on }).recomputeInputs
  exact Reacts.ite (fun _ => h1) fun _ => h1.demandOnEffective d

theorem Reacts.dtiUnderPlan (old : Option Plan) : Reacts s (dtiUnderPlan old t) := by
  unfold Machine.dtiUnderPlan
  dsimp only
  have h1 := Reacts.recomputeInputs (h.foldl detIds _ fun u d hu => Reacts.ite
    (c := (decide ((detSettings old d).kind ≠ .unused) && decide ((u.detSet d).kind ≠ .unused) && t.dti.recs[d].settled
      && decide (causeUnder (detSettings old d) t.dti.recs[d]
        ≠ causeUnder (u.detSet d) (t.dti.recs[d].underPlan (u.detSet d)))) = true)
    (fun _ => (hu.onDet d fun _ => t.dti.recs[d].underPlan (u.detSet d)).reportHealth d)
    fun _ => hu.onDet d fun _ => t.dti.recs[d].underPlan (u.detSet d))
  exact h1.foldl _ _ fun _ d hu => Reacts.ite (fun _ => hu.sendDemand d) fun _ => hu

/-! ### The store -/

theorem Reacts.readSlot (n : PlanSlot) : Reacts s (readSlot n t).1 := by
  unfold Machine.readSlot
  dsimp only
  split
  · exact h
  · split
    · exact h
    · exact h.onSlot n fun x => { x with state := .invalid }

theorem Reacts.checkContents (n : SlotNo) : Reacts s (checkContents n t).1 := by
  unfold Machine.checkContents
  dsimp only
  split
  · exact h
  · have h1 : Reacts s (match SlotNo.plan? n with
        | none => (t, t.pts.trial.complete?)
        | some k => Machine.readSlot k t).1 := by
      split
      · exact h
      · exact h.readSlot _
    split
    · exact h1
    · split
      · exact h1
      · exact h1

theorem Reacts.activationCheck (n : SlotNo) : Reacts s (activationCheck n t).1 := by
  unfold Machine.activationCheck
  split
  · exact h
  · exact h.checkContents n

theorem Reacts.makeActiveCopy (p : Plan) : Reacts s (makeActiveCopy p t) := by
  unfold Machine.makeActiveCopy
  split
  · exact h
  · exact h.onPts _ rfl (.inl rfl)

theorem Reacts.blocksUnderPlan (old : Option Plan) : Reacts s (blocksUnderPlan old t) :=
  (h.dtiUnderPlan old).priUnderPlan.push _

theorem Reacts.takePlan (n : SlotNo) (p : Plan) : Reacts s (takePlan n p t) :=
  ((h.makeActiveCopy p).onSeq_stack (fun q => { q with activeSlot := some n }) rfl).blocksUnderPlan _

theorem Reacts.reportPlan (b : Option SlotNo) (n : SlotNo) (o : PlanOutcome) : Reacts s (reportPlan b n o t) := h.report _

theorem Reacts.activate (n : SlotNo) : Reacts s (activate n t).1 := by
  have h1 := h.activationCheck n
  unfold Machine.activate
  dsimp only
  split
  · next e => rw [e] at h1; exact h1
  · next e => rw [e] at h1; exact (h1.takePlan _ _).reportPlan _ _ _

theorem Reacts.selectFrom (l : List PlanSlot) : Reacts s (selectFrom l t).1 := by
  induction l generalizing t with
  | nil => exact h
  | cons n l ih =>
    have h1 := h.activate (slotOf n)
    unfold Machine.selectFrom
    split
    · next e => rw [e] at h1; exact h1
    · next e => rw [e] at h1; exact ih h1

theorem Reacts.startPlanSelection : Reacts s (startPlanSelection t) := by
  have h1 := h.selectFrom (selectionOrder t)
  unfold Machine.startPlanSelection
  split
  · next e => rw [e] at h1; exact h1
  · next e =>
    rw [e] at h1
    have h2 := (h1.onSeq_stack (fun q => { q with activeSlot := none }) rfl).report .noValidPlan
    exact Reacts.ite (fun _ => h2.blocksUnderPlan _) fun _ => h2

theorem Reacts.recheckActive : Reacts s (recheckActive t) := by
  unfold Machine.recheckActive
  split
  · exact h
  · next n hn =>
    have h1 := h.checkContents n
    split
    · next e => rw [e] at h1; exact h1.makeActiveCopy _
    · next e => rw [e] at h1; exact h1.reportPlan _ _ _

theorem Reacts.abandonTableWrite : Reacts s (abandonTableWrite t) := by
  unfold Machine.abandonTableWrite
  split
  · exact (h.onPts (fun p => { p with write := none }) rfl (.inr rfl)).report _
  · exact h

/-! ### The sequencer -/

theorem Reacts.becomeRunning : Reacts s (becomeRunning t) := by
  unfold Machine.becomeRunning
  split
  · exact h
  · exact ((h.onSeq_stack (fun q => { q with status := some .running }) rfl).push _).push _

theorem Reacts.beginTransition (x : StageId) (l : Nat) (r : Option ResumeRec) : Reacts s (beginTransition x l r t) := by
  have h1 := h.onSeq_stack (fun q =>
    { q with
      current := some x, groups := t.stageGroups x, status := some .transition
      starting := GroupSet.minus (t.stageGroups x) t.seq.groups, level := l, knownReady := false
      resumed := r.isSome }) rfl
  have h2 := (h1.foldl (GroupSet.members (GroupSet.minus t.seq.groups (t.stageGroups x)))
    (fun s g => Machine.closeCommand g s) fun _ g hu => hu.closeCommand g).foldl
    (GroupSet.members (GroupSet.minus (t.stageGroups x) t.seq.groups))
    (fun s g => Machine.openCommand g (r.map (overrideFor t.sequence.resumeMin)) s) fun _ g hu => hu.openCommand g _
  exact Reacts.ite (fun _ => h2.becomeRunning) fun _ => h2

theorem Reacts.startedGroup (g : GroupId) : Reacts s (startedGroup g t) := by
  have h1 := h.onSeq_stack (fun q => { q with starting := GroupSet.put t.seq.starting g false }) rfl
  exact Reacts.ite (fun _ => Reacts.ite (fun _ => h1.becomeRunning) fun _ => h1) fun _ => h

theorem Reacts.startUpNotice : Reacts s (startUpNotice t) :=
  (((h.foldl t.presentGroups (fun s g => Machine.latchFromState g s) fun _ g hu => hu.latchFromState g).onSeq_stack
    (fun x => { x with position := positionOf _ _ }) rfl).beginTransition _ _ _).report _

theorem Reacts.chooseManual : Reacts s (chooseManual t).1 := by
  unfold Machine.chooseManual
  split
  · exact h
  · next x n hx =>
    dsimp only
    have h1 := ((h.onSeq_stack (fun q => { q with manualSlot := none, manualHold := some n }) rfl).report
      (.manualTaken x n t.seq.current (decide (t.seq.current = some x)))).push .retest
    split
    · exact h1
    · exact h1

theorem Reacts.switchPlan (n : SlotNo) (p : Plan) : Reacts s (switchPlan n p t) := by
  have h1 := h.takePlan n p
  unfold Machine.switchPlan
  dsimp only
  generalize Machine.takePlan n p t = u at h1 ⊢
  have h2 := h1.onSeq_stack (fun q => { q with pendingPlan := none, position := 0 }) rfl
  exact (h2.foldl _ _ fun _ g hu => hu.when fun k => k.latch g _).reportPlan _ _ _

theorem Reacts.chooseOrdinary : Reacts s (chooseOrdinary t).1 := by
  unfold Machine.chooseOrdinary
  split
  · next n _ _ =>
    have h1 := h.activationCheck n
    split
    · next e => rw [e] at h1; exact h1.switchPlan _ _
    · next e =>
      rw [e] at h1
      have h2 := h1.onSeq_stack (fun q => { q with pendingPlan := none }) rfl
      exact Reacts.ite (fun _ => h1) fun _ => h2.reportPlan _ _ _
  · exact h

theorem Reacts.chooseFrom (l : List ResumeRec) (hl : rising t.seq.stack → rising l) : Reacts s (chooseFrom l t).1 := by
  induction l with
  | nil =>
    have h1 := h.onSeq (fun q => { q with stack := [] }) fun _ => ⟨Nat.zero_le _, .nil⟩
    unfold Machine.chooseFrom
    dsimp only
    split
    · exact h1
    · exact h1.chooseOrdinary
  | cons r rest ih =>
    unfold Machine.chooseFrom
    split
    · exact h.onSeq (fun x => { x with stack := r :: rest }) hl
    · split
      · exact ih fun e => rising_tail (hl e)
      · exact h.onSeq (fun q => { q with stack := rest }) fun e => rising_tail (hl e)

theorem Reacts.choose : Reacts s (choose t).1 := by
  unfold Machine.choose
  split
  · exact h.chooseManual
  · exact h.chooseFrom _ id

theorem Reacts.endStage (c : EndClass) (x : StageId) (y : Yield) : Reacts s (endStage c x y t) := by
  unfold Machine.endStage
  split
  · exact h
  · next old hold =>
    have h1 := h.onSeq (fun q =>
      { q with
        stack := if pushes t c then resumeRecord t old :: q.stack else q.stack
        h := none, mark := none, holdFreeSeen := false, knownReady := false
        position := match y with | .sequence k => k | _ => q.position }) fun hr => by
          by_cases hp : pushes t c = true
          · simpa [hp] using rising_push hp hr
          · simpa [hp] using hr
    exact ((h1.priStageEnded old (ownFor y)).report _).beginTransition _ _ _

theorem Reacts.makeChoice (expired : Bool) : Reacts s (makeChoice expired t) := by
  have h1 := h.choose
  unfold Machine.makeChoice
  dsimp only
  split
  · next e => rw [e] at h1; exact h1.endStage _ _ _
  · next e => rw [e] at h1; exact Reacts.ite (fun _ => h1.clearEnd) fun _ => h1

theorem Reacts.chooseIfReady : Reacts s (chooseIfReady t) :=
  Reacts.ite (fun _ => (h.onSeq_stack (fun q => { q with knownReady := true }) rfl).makeChoice false) fun _ => h

theorem Reacts.noteHoldFree : Reacts s (noteHoldFree t) :=
  Reacts.ite (fun _ => (h.onSeq_stack (fun q => { q with holdFreeSeen := true }) rfl).readyButForHold) fun _ => h

theorem Reacts.retest : Reacts s (retest t) := by
  have h1 := h.noteHoldFree
  exact Reacts.ite (fun _ => h) fun _ => Reacts.ite (fun _ => h1) fun _ =>
    Reacts.ite (fun _ => Reacts.ite (fun _ => h1) fun _ => h1.chooseIfReady) fun _ =>
      h1.onSeq_stack (fun q => { q with knownReady := false }) rfl

theorem Reacts.endCountdownExpired : Reacts s (endCountdownExpired t) :=
  Reacts.ite (fun _ => h.makeChoice true) fun _ => h

theorem Reacts.seqAbandon : Reacts s (seqAbandon t) := h.onSeq _ fun _ => ⟨Nat.zero_le _, .nil⟩

theorem Reacts.seqManual : Reacts s (seqManual t) := h.onSeq _ fun _ => ⟨Nat.zero_le _, .nil⟩

theorem Reacts.seqNormal : Reacts s (seqNormal t) := h.onSeq_stack _ rfl

end

end Sys2Proof.Machine
end

section
namespace Sys2Proof.Machine

/-! ### Changes of mode -/

/-- A change of mode writes, of CMON, the timers and the conditions counted. -/
theorem monitorMode_eq (b : Mode) (s : State) : ∃ d r k, monitorMode b s = s.onCmon fun c =>
    { c with dropTimer := d, recs := r, counted := k } := by
  unfold monitorMode
  by_cases hd : s.jmc.mode = .dark
  · simp only [State.onCmon_jmc, hd, if_true]
    exact ⟨_, _, _, rfl⟩
  · simp only [State.onCmon_jmc, hd, if_false]
    exact ⟨_, _, _, rfl⟩

theorem quietPart_monitorMode (b : Mode) (t : State) : quietPart (monitorMode b t) = quietPart t := by
  obtain ⟨d, r, k, e⟩ := monitorMode_eq b t
  rw [e]
  rfl

theorem Safe.not_verifying {t : State} (hs : Safe t) (hm : t.jmc.mode ≠ .dark ∨ t.jmc.darkCause ≠ some .verifying) :
    t.pts.verify = none := by
  by_contra hv
  obtain ⟨hmode, hcause, -, -⟩ := hs.modes.verifying (Option.isSome_iff_ne_none.mpr hv)
  obtain hm | hm := hm
  · exact hm hmode
  · exact hm hcause

/-- The same store, with groups that follow a mode that is entered. -/
theorem Safe.remake {t u : State} (hs : Safe t) (hp : u.pts = t.pts) (hv : t.pts.verify = none)
    (habsent : ∀ g, t.present g = false → (u.grp g).state = .dark)
    (hflash : u.jmc.mode = .flash → ∀ g, t.present g = true → (u.grp g).state = .flash)
    (hdark : u.jmc.mode = .dark → ∀ g, (u.grp g).state = .dark)
    (hmoving : ∀ g, (u.grp g).state.moving = true → (t.grp g).state.moving = true) : Safe u := by
  have hpresent := present_of_tables (t := t) (u := u) (by rw [hp])
  refine ⟨⟨?_, ?_, ?_⟩, ⟨?_, ?_, hdark, ?_⟩, ?_⟩
  · rw [hp]; exact hs.tables.inForce
  · rw [hp]; exact hs.tables.stored
  · rw [hp]; exact hs.tables.written
  · exact fun g hg => habsent g (hpresent g ▸ hg)
  · exact fun hf g hg => hflash hf g (hpresent g ▸ hg)
  · rw [hp, hv]; exact fun h => by cases h
  · intro g h hgh hboth
    rw [conflicts_of_tables (t := t) (by rw [hp])] at hgh
    exact hs.interlock g h hgh ⟨hmoving g hboth.1, hmoving h hboth.2⟩

/-- What a fold over groups leaves in the state of each, when one step sets the state of its own group alone. -/
theorem state_foldl {f : State → GroupId → State} {x : GroupState}
    (hf : ∀ s g b, ((f s g).grp b).state = if b = g then x else (s.grp b).state) (l : List GroupId) (s : State)
    (b : GroupId) : ((l.foldl f s).grp b).state = if b ∈ l then x else (s.grp b).state := by
  induction l generalizing s with
  | nil => simp
  | cons g l ih =>
    rw [List.foldl_cons, ih, hf]
    by_cases hl : b ∈ l <;> by_cases hg : b = g <;> simp [hl, hg]

theorem changeGroup_state (g b : GroupId) (f : GroupRec → GroupRec) (s : State) :
    ((changeGroup g f s).grp b).state = if b = g then (f (s.grp g)).state else (s.grp b).state := by
  split
  · next e => rw [e, changeGroup_grp_self]
  · next e => rw [changeGroup_grp_ne e]

theorem flashGroup_state (s : State) (g b : GroupId) :
    ((flashGroup g s).grp b).state = if b = g then .flash else (s.grp b).state := by
  have h : ((flashGroup g s).grp b).state = ((changeGroup g GroupRec.toFlash s).grp b).state := by
    unfold flashGroup
    dsimp only
    split <;> rfl
  rw [h, changeGroup_state]
  rfl

theorem darkGroup_state (s : State) (g b : GroupId) :
    ((darkGroup g s).grp b).state = if b = g then .dark else (s.grp b).state := by
  unfold darkGroup
  split
  · by_cases hb : b = g
    · subst hb; rw [State.grp_onGrp_self, if_pos rfl]; rfl
    · rw [State.grp_onGrp_ne _ (Ne.symm hb), if_neg hb]
  · rw [changeGroup_state]
    rfl

theorem mem_presentGroups {s : State} {g : GroupId} : g ∈ s.presentGroups ↔ s.present g = true := by
  simp [State.presentGroups, mem_groupIds]

theorem groupsToFlash_state (s : State) (b : GroupId) :
    ((groupsToFlash s).grp b).state = if s.present b = true then .flash else (s.grp b).state := by
  rw [groupsToFlash, state_foldl flashGroup_state]
  simp only [mem_presentGroups]

theorem groupsToDark_state (s : State) (b : GroupId) : ((groupsToDark s).grp b).state = .dark := by
  rw [groupsToDark, state_foldl darkGroup_state, if_pos (mem_groupIds b)]

theorem groupsToAllRed_state (s : State) (b : GroupId) :
    ((groupsToAllRed s).grp b).state = if s.present b = true then .closed else (s.grp b).state := by
  rw [groupsToAllRed, state_foldl (x := .closed) fun s g b => changeGroup_state g b _ s]
  simp only [mem_presentGroups]

theorem sameOutsideGroups_flashGroup (g : GroupId) (s : State) : SameOutsideGroups s (flashGroup g s) := by
  unfold flashGroup
  dsimp only
  split <;> rfl

theorem sameOutsideGroups_darkGroup (g : GroupId) (s : State) : SameOutsideGroups s (darkGroup g s) := by
  unfold darkGroup
  split <;> rfl

theorem sameOutsideGroups_groupsToFlash (s : State) : SameOutsideGroups s (groupsToFlash s) :=
  SameOutsideGroups.foldl _ (fun s g => sameOutsideGroups_flashGroup g s) _ s

theorem sameOutsideGroups_groupsToDark (s : State) : SameOutsideGroups s (groupsToDark s) :=
  SameOutsideGroups.foldl _ (fun s g => sameOutsideGroups_darkGroup g s) _ s

theorem sameOutsideGroups_groupsToAllRed (s : State) : SameOutsideGroups s (groupsToAllRed s) :=
  SameOutsideGroups.foldl _ (fun s g => sameOutsideGroups_changeGroup g _ s) _ s

/-! A change of mode writes JMC's record, what CMON counts, and a report. -/

@[simp] theorem monitorMode_sge (b : Mode) (s : State) : (monitorMode b s).sge = s.sge := by
  obtain ⟨d, r, k, e⟩ := monitorMode_eq b s
  rw [e]
  rfl
@[simp] theorem monitorMode_pts (b : Mode) (s : State) : (monitorMode b s).pts = s.pts := by
  obtain ⟨d, r, k, e⟩ := monitorMode_eq b s
  rw [e]
  rfl
@[simp] theorem monitorMode_jmc (b : Mode) (s : State) : (monitorMode b s).jmc = s.jmc := by
  obtain ⟨d, r, k, e⟩ := monitorMode_eq b s
  rw [e]
  rfl
@[simp] theorem setModeFrom_sge (b m : Mode) (p : Option Phase) (d : Option DarkCause) (c : ModeCause) (s : State) :
    (setModeFrom b m p d c s).sge = s.sge := by simp [setModeFrom]
@[simp] theorem setModeFrom_pts (b m : Mode) (p : Option Phase) (d : Option DarkCause) (c : ModeCause) (s : State) :
    (setModeFrom b m p d c s).pts = s.pts := by simp [setModeFrom]
@[simp] theorem setModeFrom_jmc (b m : Mode) (p : Option Phase) (d : Option DarkCause) (c : ModeCause) (s : State) :
    (setModeFrom b m p d c s).jmc = { s.jmc with mode := m, phase := p, darkCause := d } := by simp [setModeFrom]

theorem quiet_setModeFrom {s t : State} (h : Quiet s t) (b m : Mode) (p : Option Phase) (d : Option DarkCause)
    (c : ModeCause) : Quiet s (setModeFrom b m p d c t) :=
  (h.trans (Quiet.of_part (quietPart_monitorMode t.jmc.mode
    (t.onJmc fun j => { j with mode := m, phase := p, darkCause := d })))).report _

theorem Reacts.verify {s t : State} (h : Reacts s t) : t.pts.verify = s.pts.verify := congrArg Kept.verify h.kept

/-- The verification does not run in a state reached with another mode or cause. -/
theorem Reacts.not_verifying {s t : State} (h : Reacts s t)
    (hm : t.jmc.mode ≠ .dark ∨ t.jmc.darkCause ≠ some .verifying) (hs : Safe s) : s.pts.verify = none :=
  h.verify.symm.trans ((h.safe hs).not_verifying hm)

section

variable {s t : State} (h : Reacts s t)
include h

theorem Reacts.endStartUp : Reacts s (endStartUp t) := h.onJmc _ rfl rfl

theorem Reacts.setPhase (p : Phase) (n : Nat) : Reacts s (setPhase p n t) :=
  (h.onJmc (fun j => { j with phase := some p, timer := n }) rfl rfl).report _

section

variable (hv : Safe s → s.pts.verify = none)
include hv

/-- A mode in which groups may run is entered. -/
theorem Reacts.setModeFrom (b m : Mode) (p : Option Phase) (d : Option DarkCause) (c : ModeCause)
    (hm : m ≠ .flash ∧ m ≠ .dark) : Reacts s (setModeFrom b m p d c t) := by
  refine ⟨quiet_setModeFrom h.toQuiet b m p d c, fun hs => ?_⟩
  have ht := h.safe hs
  refine ht.remake (by simp) (h.verify.trans (hv hs)) ?_ ?_ ?_ ?_
  · intro g hg; simpa [State.grp] using ht.modes.absent g hg
  · intro hf; exact absurd (by simpa using hf) hm.1
  · intro hd; exact absurd (by simpa using hd) hm.2
  · intro g; simp [State.grp]

theorem Reacts.toFlash (b : Mode) (p : Option Phase) (d : Option DarkCause) (c : ModeCause) :
    Reacts s (groupsToFlash (Machine.setModeFrom b .flash p d c t)) := by
  have hq := quiet_setModeFrom h.toQuiet b .flash p d c
  have hpresent := present_of_tables (t := t) (u := Machine.setModeFrom b .flash p d c t) (by simp)
  have hg : ∀ g, (Machine.setModeFrom b .flash p d c t).grp g = t.grp g := fun g => by simp [State.grp]
  have hgroups := sameOutsideGroups_groupsToFlash (Machine.setModeFrom b .flash p d c t)
  have hstate := groupsToFlash_state (Machine.setModeFrom b .flash p d c t)
  obtain ⟨hpts, -, -, -, hjmc, -⟩ := hgroups.reads
  refine ⟨hq.trans (Quiet.of_part hgroups.quietPart), fun hs => ?_⟩
  have ht := h.safe hs
  refine ht.remake (by rw [hpts]; simp) (h.verify.trans (hv hs)) ?_ ?_ ?_ ?_
  · intro g hn
    rw [hstate, hpresent, hg, if_neg (by simp [hn])]
    exact ht.modes.absent g hn
  · intro _ g hp
    rw [hstate, hpresent, if_pos hp]
  · intro hd
    simp [hjmc] at hd
  · intro g
    rw [hstate, hpresent, hg]
    split
    · intro hx; cases hx
    · exact id

theorem Reacts.toDark (b : Mode) (p : Option Phase) (d : Option DarkCause) (c : ModeCause) :
    Reacts s (groupsToDark (Machine.setModeFrom b .dark p d c t)) := by
  have hq := quiet_setModeFrom h.toQuiet b .dark p d c
  have hgroups := sameOutsideGroups_groupsToDark (Machine.setModeFrom b .dark p d c t)
  have hstate := groupsToDark_state (Machine.setModeFrom b .dark p d c t)
  obtain ⟨hpts, -, -, -, hjmc, -⟩ := hgroups.reads
  refine ⟨hq.trans (Quiet.of_part hgroups.quietPart), fun hs => ?_⟩
  refine (h.safe hs).remake (by rw [hpts]; simp) (h.verify.trans (hv hs)) (fun g _ => hstate g) ?_ (fun _ => hstate) ?_
  · intro hf
    simp [hjmc] at hf
  · intro g hx
    rw [hstate] at hx
    cases hx

theorem Reacts.flashOrders (b : Mode) (p : Option Phase) (d : Option DarkCause) (c : ModeCause) :
    Reacts s (flashOrders (Machine.setModeFrom b .flash p d c t)) :=
  (h.toFlash hv b p d c).seqAbandon.priFlash

theorem Reacts.flashFromStartUp : Reacts s (flashFromStartUp t) := h.endStartUp.flashOrders hv _ _ _ _

theorem Reacts.enterDark (w : DarkCause) (c : ModeCause) : Reacts s (enterDark w c t) :=
  (h.toDark hv _ _ _ _).seqAbandon

theorem Reacts.enterClearing : Reacts s (enterClearing t) := by
  have h1 := ((h.endStartUp.setModeFrom hv (Machine.endStartUp t).jmc.mode .clearing none none .request (by decide)).seqAbandon).priEndNormal
  exact (h1.foldl _ _ fun _ g hu => hu.closeCommand g).push _

end

theorem Reacts.normalBegins : Reacts s (normalBegins t) :=
  (((h.foldl _ _ fun _ a hu => hu.when fun k => k.serveHead a).push _).push _).push _

theorem Reacts.enterNormal (hv : Safe s → s.pts.verify = none) : Reacts s (enterNormal t) :=
  (h.setModeFrom hv _ .normal none none .startupDone (by decide)).normalBegins

theorem Reacts.enterManual (hv : Safe s → s.pts.verify = none) : Reacts s (enterManual t) :=
  (((h.setModeFrom hv _ .manual none none .request (by decide)).seqManual.priEndNormal).push _).push _

theorem Reacts.leaveManual (hv : Safe s → s.pts.verify = none) : Reacts s (leaveManual t) :=
  ((h.setModeFrom hv _ .normal none none .request (by decide)).seqNormal).normalBegins

theorem Reacts.forceFlash : Reacts s (forceFlash t) := by
  refine Reacts.ite (fun _ => h) fun hm => ?_
  have hdark : t.jmc.mode ≠ .dark := by
    intro e; simp [e] at hm
  exact (h.endStartUp.flashOrders (h.not_verifying (.inl hdark)) _ _ _ _).onSeq_stack
    (fun q => { q with pendingPlan := none }) rfl

theorem Reacts.takePending : Reacts s (takePending t) := by
  unfold Machine.takePending
  split
  · exact h
  · next n _ =>
    have h1 := (h.onSeq_stack (fun q => { q with pendingPlan := none }) rfl).activate n
    dsimp only
    split
    · exact h1
    · exact h1.reportPlan _ _ _

theorem Reacts.endClearing (hv : Safe s → s.pts.verify = none) : Reacts s (endClearing t) :=
  (h.flashOrders hv _ _ _ _).takePending

theorem Reacts.groupsToAllRed (hm : t.jmc.mode = .startup) : Reacts s (groupsToAllRed t) := by
  have hgroups := sameOutsideGroups_groupsToAllRed t
  have hstate := groupsToAllRed_state t
  obtain ⟨hpts, -, -, -, hjmc, -⟩ := hgroups.reads
  refine ⟨h.toQuiet.trans (Quiet.of_part hgroups.quietPart), fun hs => ?_⟩
  have ht := h.safe hs
  refine ht.remake hpts (ht.not_verifying (.inl (by simp [hm]))) ?_ ?_ ?_ ?_
  · intro g hn
    rw [hstate, if_neg (by simp [hn])]
    exact ht.modes.absent g hn
  · intro hf; simp [hjmc, hm] at hf
  · intro hd; simp [hjmc, hm] at hd
  · intro g
    rw [hstate]
    split
    · intro hx; cases hx
    · exact id

/-! ### The monitor -/

theorem Reacts.occur (x : Cond) : Reacts s (occur t x) := by
  unfold Machine.occur
  dsimp only
  have h1 := (h.onCmon (fun c => c.note x.source (condGroups t x)
      (SourceSet.has t.monitorStart.fatal x.source && t.cmon.first.isNone)
      (SourceSet.has t.monitorStart.fatal x.source && decide (t.cmon.window > 0) && !t.cmon.lockout) t.time)
    ⟨fun f hf => by simp [Cmon.note, hf], fun hl => by simp [Cmon.note, hl]⟩ rfl rfl).report (.fault x.source (condGroups t x)
      (SourceSet.has t.monitorStart.fatal x.source)
      (if SourceSet.has t.monitorStart.fatal x.source && decide (t.jmc.mode ≠ .flash) then .flashForced else .latched)
      (SourceSet.has t.monitorStart.fatal x.source && t.cmon.first.isNone)
      (SourceSet.has t.monitorStart.fatal x.source && decide (t.cmon.window > 0) && !t.cmon.lockout))
  exact h1.when fun k => k.forceFlash

theorem Reacts.finishComparison : Reacts s (finishComparison t) := h.of_parts rfl rfl

theorem Reacts.comparedIfDue : Reacts s (comparedIfDue t) := h.when fun k => k.finishComparison

theorem Reacts.evaluate : Reacts s (evaluate t) := by
  refine Reacts.ite (fun _ => h) fun _ => ?_
  have h1 := h.comparedIfDue
  dsimp only
  generalize Machine.comparedIfDue t = u at h1 ⊢
  have h2 := (h1.tie (u.tie + (newConds u).length)).foldl (freeOrder (newConds u) u).1 Machine.occur
    fun _ x hu => hu.occur x
  exact h2.onCmon_faults _ rfl rfl rfl rfl

theorem Reacts.evaluateIf (l : List Cond) : Reacts s (evaluateIf l t) := h.when fun k => k.evaluate

theorem Reacts.completeComparison : Reacts s (completeComparison t) := h.finishComparison.evaluateIf _

theorem Reacts.raiseShadow (e : GroupId) : Reacts s (raiseShadow e t) :=
  h.foldl _ _ fun _ b hu => hu.onMon b _

theorem Reacts.sense (g : GroupId) (r a o c : Bool) : Reacts s (sense g r a o c t) :=
  (((h.onMon g _).when fun k => k.raiseShadow g).endDifferences g).push _

theorem Reacts.senseRecord (n : Nat) (r a o c p : Bool) : Reacts s (senseRecord n r a o c p t) := by
  unfold Machine.senseRecord
  split
  · exact h
  · exact h.when fun k => k.sense _ _ _ _ _

/-! ### Start-up -/

theorem Reacts.flashFromDark (hv : Safe s → s.pts.verify = none) : Reacts s (flashFromDark t) :=
  (h.flashOrders hv _ _ _ _).evaluate

theorem Reacts.beginAllRed (hm : t.jmc.mode = .startup) : Reacts s (beginAllRed t) :=
  ((h.setPhase .allRed t.monitorStart.startClear).groupsToAllRed (by simpa [Machine.setPhase] using hm)).startUpNotice

theorem Reacts.beginFirstStage : Reacts s (beginFirstStage t) := (h.setPhase _ _).push _

theorem Reacts.enterStartUp (hv : Safe s → s.pts.verify = none) (c : ModeCause) : Reacts s (enterStartUp c t) := by
  unfold Machine.enterStartUp
  dsimp only
  have h1 := (((h.onJmc (fun j => { j with timer := t.monitorStart.startFlash, firstRunning := false }) rfl rfl).setModeFrom hv
    t.jmc.mode .startup (some .startFlashing) none c (by decide)).abandonTableWrite).evaluate
  exact Reacts.ite (fun hc => h1.beginAllRed (by simp only [Bool.and_eq_true, decide_eq_true_eq] at hc; exact hc.2)) fun _ => h1

theorem Reacts.startCheck : Reacts s (startCheck t).1 := by
  unfold Machine.startCheck
  split
  · exact h
  · have selected {u : State} (hu : Reacts s u) : Reacts s (if (Machine.startPlanSelection u).seq.activeSlot.isSome
        then (Machine.startPlanSelection u, (none : Option Status))
        else (Machine.startPlanSelection u, some .invalid)).1 := by
      split <;> exact hu.startPlanSelection
    cases hslot : t.seq.activeSlot with
    | none => exact selected h
    | some n =>
      have h2 := h.activationCheck n
      dsimp only
      generalize Machine.activationCheck n t = x at h2 ⊢
      obtain ⟨u, d | p⟩ := x
      · exact selected h2
      · exact h2.makeActiveCopy _

theorem Reacts.autostart (hv : Safe s → s.pts.verify = none) : Reacts s (autostart t) := by
  unfold Machine.autostart
  split
  · have h1 := h.startCheck
    split
    · next e => rw [e] at h1; exact h1.enterStartUp hv _
    · next e => rw [e] at h1; exact h1
  · exact h

theorem Reacts.tablesVerified (hv : Safe s → s.pts.verify = none) (b : Mode) (c : ModeCause) :
    Reacts s (tablesVerified b c t) :=
  ((((h.onJmc (fun j => { j with safeRequest := true }) rfl rfl).toFlash hv _ _ _ _).evaluate).startPlanSelection).autostart hv

/-- There are no tables: the mode is DARK, with every group DARK before. -/
theorem Reacts.tablesFailed (hv : Safe s → s.pts.verify = none) (hd : Safe s → ∀ g, (t.grp g).state = .dark) :
    Reacts s (tablesFailed t) := by
  refine ⟨(h.toQuiet.trans (Quiet.of_part (u := t.onJmc fun j => { j with mode := .dark, darkCause := some .noTables })
    rfl)).report _, fun hs => ?_⟩
  refine (h.safe hs).remake rfl (h.verify.trans (hv hs)) (fun g _ => hd hs g) ?_ (fun _ => hd hs) fun g hx => hx
  intro hf; cases hf

theorem Reacts.watch : Reacts s (watch t) := by
  have running (hm : t.jmc.mode ≠ .dark) := h.not_verifying (.inl hm)
  unfold Machine.watch
  split
  · exact h.when fun k => k.beginFirstStage
  · next hm _ => exact Reacts.ite (fun _ => h.enterNormal (running (by simp [hm]))) fun _ => h
  · next hm => exact Reacts.ite (fun _ => h.endClearing (running (by simp [hm]))) fun _ => h
  · exact h

theorem Reacts.jmcRunning : Reacts s (jmcRunning t) :=
  Reacts.ite (fun _ => (h.onJmc (fun j => { j with firstRunning := true }) rfl rfl).push _) fun _ => h

/-! ### Notices -/

theorem Reacts.groupEntered (g : GroupId) : Reacts s (groupEntered g t) :=
  (((h.clearDemand g).startedGroup g).priEntered g).push _

theorem Reacts.groupLeft (g : GroupId) : Reacts s (groupLeft g t) :=
  ((h.priLeft g).push .retest).when fun k => k.push _

theorem Reacts.groupClosed (g : GroupId) : Reacts s (groupClosed g t) := (h.latchFromState g).admitWaiting

theorem Reacts.handle (n : Notice) : Reacts s (handle n t) := by
  cases n with
  | entered g => exact h.groupEntered g
  | left g => exact h.groupLeft g
  | closed g => exact h.groupClosed g
  | retest => exact h.retest
  | choose => exact h.chooseIfReady
  | running x => exact (h.priRunning x).jmcRunning
  | redetermine => exact Reacts.ite (fun _ => h) fun _ => h.determineRuling false
  | endExpiry => exact h.endCountdownExpired
  | capExpiry a => exact h.capExpired a
  | watch => exact h.watch
  | evaluate => exact h.evaluate

theorem Reacts.settle (fuel : Nat) : Reacts s (settle fuel t) :=
  settle_induction (fun n _ hu => hu.handle n) (fun _ l hu => hu.notices l) fuel t h

end

end Sys2Proof.Machine
end

section
/-! ## What every command keeps -/

namespace Sys2Proof.Machine

section

variable {s t : State} (h : Reacts s t)
include h

/-! ### Requests that leave the settings of the store and the link alone -/

theorem Reacts.takePlanRead (tag : Byte) (slot : Nat) (k : PlanSectionName) : Reacts s (takePlanRead tag slot k t) := by
  unfold Machine.takePlanRead
  split
  · exact h.reply _ _ _ _ _
  · next n _ =>
    have h1 : Reacts s (planRead t n) := by
      unfold planRead
      split
      · exact h
      · split
        · exact h
        · exact h.readSlot _
    exact h1.reply _ _ _ _ _

theorem Reacts.takeDetector (tag : Byte) (d : Nat) : Reacts s (takeDetector tag d t) := by
  unfold Machine.takeDetector
  split
  · exact h.reply _ _ _ _ _
  · exact (h.reply _ _ _ _ _).onDet _ _

theorem Reacts.modeTaken (tag : Byte) (m : Mode) : Reacts s (modeTaken tag m t) := h.reply _ _ _ _ _

theorem Reacts.modeRefused (tag : Byte) : Reacts s (modeRefused tag t) :=
  Reacts.ite (fun _ => h.reply _ _ _ _ _) fun _ => h.reply _ _ _ _ _

theorem Reacts.requestFlash (tag : Byte) : Reacts s (requestFlash tag t) := by
  unfold Machine.requestFlash
  split
  · split
    · exact h.reply _ _ _ _ _
    · exact h.reply _ _ _ _ _
    · next hc => exact (h.modeTaken _ _).flashFromDark (h.not_verifying (.inr (by simp [hc])))
    · exact h.reply _ _ _ _ _
  · next hm _ => exact (h.modeTaken _ _).enterClearing (h.not_verifying (.inl (by simp [hm])))
  · next hm _ => exact (h.modeTaken _ _).flashFromStartUp (h.not_verifying (.inl (by simp [hm])))
  · next hm => exact (h.modeTaken _ _).enterClearing (h.not_verifying (.inl (by simp [hm])))
  · next hm => exact (h.modeTaken _ _).enterClearing (h.not_verifying (.inl (by simp [hm])))
  · exact h.reply _ _ _ _ _
  · exact h.reply _ _ _ _ _

theorem Reacts.requestNormal (tag : Byte) : Reacts s (requestNormal tag t) := by
  unfold Machine.requestNormal
  split
  · next hm =>
    have hv := h.not_verifying (.inl (by simp [hm]))
    have h1 := h.startCheck
    split
    · next e => rw [e] at h1; exact (h1.modeTaken _ _).enterStartUp hv _
    · next e => rw [e] at h1; exact h1.reply _ _ _ _ _
  · next hm => exact (h.modeTaken _ _).leaveManual (h.not_verifying (.inl (by simp [hm])))
  · exact h.modeRefused _

theorem Reacts.takeModeRequest (tag : Byte) (m : Nat) : Reacts s (takeModeRequest tag m t) := by
  unfold Machine.takeModeRequest
  split
  · exact h.requestNormal _
  · exact Reacts.ite (fun hm => (h.modeTaken _ _).enterManual (h.not_verifying (.inl (by simp [hm])))) fun _ => h.modeRefused _
  · exact h.requestFlash _
  · exact Reacts.ite (fun hm => (h.modeTaken _ _).enterDark (h.not_verifying (.inl (by simp [hm]))) _ _) fun _ => h.modeRefused _
  · exact h.reply _ _ _ _ _

/-- SGE, SEQ, PRI, DTI and JMC as after a reset: every group is DARK and nothing waits. -/
theorem Reacts.reinitialise (hv : Safe s → s.pts.verify = none) : Reacts s (reinitialise t) := by
  unfold Machine.reinitialise
  generalize hu : ({ t with
      sge := Sge.reset, seq := {}, pri := {}, dti := Dti.reset, jmc := { safeRequest := t.jmc.safeRequest }
      notices := [] } : State) = u
  have hdark : ∀ g, (u.grp g).state = .dark := fun g => by subst hu; simp [State.grp, Sge.reset]
  have h1 : Reacts s u := by
    refine ⟨⟨?_, ?_, ?_, fun _ => ?_, ?_, fun _ => ?_⟩, fun hs => ?_⟩
    · subst hu; exact h.kept
    · subst hu; exact h.faults
    · subst hu; exact h.link
    · subst hu
      refine ⟨fun a => ?_, Nat.zero_le _, List.nodup_nil⟩
      simp [Approach.bounded]
    · subst hu; exact h.write
    · subst hu; exact ⟨Nat.zero_le _, .nil⟩
    · refine (h.safe hs).remake (by subst hu; rfl) (h.verify.trans (hv hs)) (fun g _ => hdark g) ?_ (fun _ => hdark) ?_
      · subst hu; intro hf; cases hf
      · intro g hg; rw [hdark] at hg; cases hg
  obtain ⟨d, r, k, e⟩ := monitorMode_eq .flash u
  rw [e]
  exact h1.onCmon_faults _ rfl rfl rfl rfl

theorem reinitialise_dark (u : State) (g : GroupId) : ((Machine.reinitialise u).grp g).state = .dark := by
  unfold Machine.reinitialise State.grp
  rw [monitorMode_sge]
  simp [Sge.reset]

theorem Reacts.restartPart (hv : Safe s → s.pts.verify = none) : Reacts s (restartPart t) :=
  Reacts.ite (fun _ => (h.reinitialise hv).tablesVerified hv _ _) fun _ =>
    (h.reinitialise hv).tablesFailed hv fun _ => reinitialise_dark h t

theorem Reacts.takeRestart (tag : Byte) : Reacts s (takeRestart tag t) :=
  Reacts.ite (fun _ => h.reply _ _ _ _ _) fun _ => Reacts.ite (fun _ => h.reply _ _ _ _ _) fun hc =>
    Reacts.ite (fun _ => h.reply _ _ _ _ _) fun _ => (h.reply _ _ _ _ _).restartPart (h.not_verifying (.inr hc))

theorem Reacts.takeManualPost (tag : Byte) (stage hold : Nat) : Reacts s (takeManualPost tag stage hold t) := by
  unfold Machine.takeManualPost
  split
  · exact h.reply _ _ _ _ _
  · next x _ =>
    refine Reacts.ite (fun _ => h.reply _ _ _ _ _) fun _ => Reacts.ite (fun _ => h.reply _ _ _ _ _) fun _ => ?_
    exact ((h.reply _ _ _ _ _).onSeq_stack (fun q => { q with manualSlot := some (x, clampTo 0 1200 hold) }) rfl).push _

theorem Reacts.selectNow (tag : Byte) (n : SlotNo) : Reacts s (selectNow tag n t) := by
  have h1 := h.activationCheck n
  unfold Machine.selectNow
  dsimp only
  split
  · next e => rw [e] at h1; exact h1.reply _ _ _ _ _
  · next e =>
    rw [e] at h1
    exact (((h1.reply 0x0C tag .ok [] {}).onSeq_stack (fun q => { q with pendingPlan := none }) rfl).takePlan _ _).reportPlan _ _ _

theorem Reacts.takePlanSelect (tag : Byte) (slot : Nat) : Reacts s (takePlanSelect tag slot t) := by
  unfold Machine.takePlanSelect
  split
  · exact h.reply _ _ _ _ _
  · next n _ =>
    refine Reacts.ite (fun _ => h.reply _ _ _ _ _) fun _ => Reacts.ite (fun _ => h.reply _ _ _ _ _) fun _ =>
      Reacts.ite (fun _ => h.reply _ _ _ _ _) fun _ => Reacts.ite (fun _ => h.selectNow _ _) fun _ => ?_
    exact ((h.reply _ _ _ _ _).onSeq_stack
      (fun q => { q with pendingPlan := if t.seq.activeSlot = some n then none else some n }) rfl).push _

theorem Reacts.takeDemandPlace (tag : Byte) (g : Nat) : Reacts s (takeDemandPlace tag g t) := by
  unfold Machine.takeDemandPlace
  split
  · exact h.reply _ _ _ _ _
  · exact Reacts.ite (fun _ => h.reply _ _ _ _ _) fun _ => Reacts.ite (fun _ => h.reply _ _ _ _ _) fun _ =>
      (h.reply _ _ _ _ _).latch _ _

theorem Reacts.takeDetectorMask (tag : Byte) (d : Nat) (on : Bool) : Reacts s (takeDetectorMask tag d on t) := by
  unfold Machine.takeDetectorMask
  split
  · exact h.reply _ _ _ _ _
  · exact (h.reply _ _ _ _ _).setMask _ _

theorem Reacts.updateEta (a : ApproachId) (r : TramRec) (eta : Nat) : Reacts s (updateEta a r eta t) := by
  refine Reacts.when (h.onApp_tags a _ ?_ rfl) fun k => k.plannerRun _
  simp only [List.map_map]
  refine List.map_congr_left fun y _ => ?_
  simp only [Function.comp_apply]
  split <;> rfl

theorem Reacts.takeTramIn (tag : Byte) (a : Nat) (v e : Option Nat) : Reacts s (takeTramIn tag a v e t) := by
  unfold Machine.takeTramIn
  split
  · exact h.reply _ _ _ _ _
  · refine Reacts.ite (fun _ => h.reply _ _ _ _ _) fun _ => Reacts.ite (fun _ => h.reply _ _ _ _ _) fun _ => ?_
    dsimp only
    split
    · split
      · exact (h.reply _ _ _ _ _).updateEta _ _ _
      · exact h.reply _ _ _ _ _
    · exact Reacts.ite (fun _ => h.reply _ _ _ _ _) fun hlen =>
        (h.reply _ _ _ _ _).addTram _ _ _ _ _ (Nat.lt_of_not_ge hlen)

theorem Reacts.takeTramOut (tag : Byte) (a : Nat) : Reacts s (takeTramOut tag a t) := by
  unfold Machine.takeTramOut
  split
  · exact h.reply _ _ _ _ _
  · refine Reacts.ite (fun _ => h.reply _ _ _ _ _) fun _ => ?_
    split
    · exact (h.reply _ _ _ _ _).reportApproach _ _ _
    · exact (h.reply _ _ _ _ _).checkOutHead _ _

theorem Reacts.takeCallPlace (tag : Byte) (id l x e d : Nat) : Reacts s (takeCallPlace tag id l x e d t) := by
  unfold Machine.takeCallPlace
  split
  · refine Reacts.ite (fun _ => h.reply _ _ _ _ _) fun _ => Reacts.ite (fun _ => h.reply _ _ _ _ _) fun _ =>
      Reacts.ite (fun _ => h.reply _ _ _ _ _) fun _ => Reacts.ite (fun _ => h.reply _ _ _ _ _) fun hid =>
      Reacts.ite (fun _ => h.reply _ _ _ _ _) fun hlen => Reacts.priChanged (Reacts.onPri (h.reply _ _ _ _ _) _ ?_)
    rintro ⟨ha, _, hnodup⟩
    refine ⟨ha, by simpa [Config.queueCapacity] using hlen, ?_⟩
    simp only [List.map_append, List.map_singleton, List.nodup_append]
    refine ⟨hnodup, List.nodup_singleton _, ?_⟩
    rintro i hi j hj rfl
    rw [List.mem_singleton] at hj
    obtain ⟨c, hc, hci⟩ := List.mem_map.mp hi
    refine hid ?_
    rw [State.call?, List.find?_isSome]
    exact ⟨c, hc, by simp [hci, hj, placedCall]⟩
  · exact h.reply _ _ _ _ _

theorem Reacts.dropCall (id : Nat) : Reacts s (dropCall id t) :=
  (((h.onCalls_filter fun c => c.id ≠ id).reportCall _ _).withdrawIf _).priChanged

theorem Reacts.takeCallCancel (tag : Byte) (id : Nat) : Reacts s (takeCallCancel tag id t) := by
  unfold Machine.takeCallCancel
  split
  · exact h.reply _ _ _ _ _
  · split
    · exact h.reply _ _ _ _ _
    · split
      · exact (h.reply _ _ _ _ _).dropCall _
      · exact (h.reply _ _ _ _ _).finishCall _

end

/-! ### The invariants of a step -/

/-- The invariants that every command keeps. -/
structure Sound (s t : State) : Prop where
  link : LinkBounded s → LinkBounded t
  requests : RequestsBounded s → RequestsBounded t
  stack : StackRising s → StackRising t
  write : WriteAboveProtection s → WriteAboveProtection t
  safe : Safe s → Safe t

/-- The waiting commands, the pins and the time are as they were. -/
def SameOutside (s t : State) : Prop := t.pending = s.pending ∧ t.pins = s.pins ∧ t.time = s.time

theorem SameOutside.trans {s t u : State} (h : SameOutside s t) (k : SameOutside t u) : SameOutside s u :=
  ⟨k.1.trans h.1, k.2.1.trans h.2.1, k.2.2.trans h.2.2⟩

theorem Reacts.sameOutside {s t : State} (h : Reacts s t) : SameOutside s t :=
  ⟨congrArg Kept.pending h.kept, congrArg Kept.pins h.kept, congrArg Kept.time h.kept⟩

/-- What a step keeps besides, `o` being the request it delivers: the first fault and the lockout but for a FAULT_CLEAR (R172),
SAFE_DROPPED (R168), and the lock but for a TABLE_UNLOCK with the strap (R189). -/
structure Keeps (o : Option Instr) (s t : State) : Prop extends Sound s t where
  first : ∀ f, s.cmon.first = some f → t.cmon.first = some f ∨ ∃ tag, o = some (.faultClear tag)
  lockout : s.cmon.lockout = true →
    t.cmon.lockout = true ∨ (s.pins.commission = true ∧ ∃ tag, o = some (.faultClear tag))
  dropped : s.cmon.safeDropped = true → t.cmon.safeDropped = true
  locked : s.pts.locked = true →
    t.pts.locked = true ∨ (s.pins.commission = true ∧ ∃ tag, o = some (.tableUnlock tag))

/-- What a command other than the power-on reset keeps: besides, it moves no waiting command, no pin and no time. -/
structure Upholds (o : Option Instr) (s t : State) : Prop extends Keeps o s t where
  outside : SameOutside s t

theorem Sound.trans {s t u : State} (h : Sound s t) (k : Sound t u) : Sound s u :=
  ⟨fun e => k.link (h.link e), fun e => k.requests (h.requests e), fun e => k.stack (h.stack e),
    fun e => k.write (h.write e), fun e => k.safe (h.safe e)⟩

theorem writeAbove_of {s t : State} (hp : t.pts.protect = s.pts.protect) (hw : t.pts.write = s.pts.write ∨ t.pts.write = none)
    (h : WriteAboveProtection s) : WriteAboveProtection t := by
  intro n hn
  obtain e | e := hw
  · rw [hp]
    refine h n ?_
    rw [← hn]
    simp [State.writingSlot?, e]
  · simp [State.writingSlot?, e] at hn

theorem Reacts.upholds {s t : State} (h : Reacts s t) (o : Option Instr) : Upholds o s t where
  link := h.link
  requests := h.requests
  stack := h.stack
  write := writeAbove_of (congrArg Kept.protect h.kept) h.write
  safe := h.safe
  first f e := .inl (h.faults.first f e)
  lockout e := .inl (h.faults.lockout e)
  dropped e := (congrArg Kept.safeDropped h.kept).trans e
  locked e := .inl ((congrArg Kept.locked h.kept).trans e)
  outside := h.sameOutside

theorem Upholds.then {o : Option Instr} {s t u : State} (h : Upholds o s t) (k : Reacts t u) : Upholds o s u := by
  refine ⟨⟨h.toSound.trans (k.upholds none).toSound, fun f e => ?_, fun e => ?_, fun e => ?_, fun e => ?_⟩,
    h.outside.trans k.sameOutside⟩
  · exact (h.first f e).imp_left fun e => k.faults.first f e
  · exact (h.lockout e).imp_left fun e => k.faults.lockout e
  · exact (congrArg Kept.safeDropped k.kept).trans (h.dropped e)
  · exact (h.locked e).imp_left fun e => (congrArg Kept.locked k.kept).trans e

/-- An operation of the blocks first, which leaves the straps. -/
theorem Upholds.after {o : Option Instr} {s t u : State} (k : Upholds o t u) (h : Reacts s t) : Upholds o s u := by
  have hpins : t.pins = s.pins := congrArg Kept.pins h.kept
  refine ⟨⟨(h.upholds none).toSound.trans k.toSound, fun f e => ?_, fun e => ?_, fun e => ?_, fun e => ?_⟩,
    h.sameOutside.trans k.outside⟩
  · exact k.first f (h.faults.first f e)
  · exact hpins ▸ k.lockout (h.faults.lockout e)
  · exact k.dropped ((congrArg Kept.safeDropped h.kept).trans e)
  · exact hpins ▸ k.locked ((congrArg Kept.locked h.kept).trans e)

/-- A reply first. -/
theorem Upholds.afterReply {o : Option Instr} {s u : State} {code tag : Byte} {st : Status} {items : List Byte} {m : Markers}
    (k : Upholds o (s.reply code tag st items m) u) : Upholds o s u :=
  k.after ((Reacts.refl s).reply code tag st items m)

/-! ### The store -/

/-- The same tables and stored areas, with a write that may come into force. -/
theorem Safe.onPts {t : State} (hs : Safe t) (f : Pts → Pts) (ht : (f t.pts).tables = t.pts.tables)
    (ha : (f t.pts).areas = t.pts.areas) (hv : (f t.pts).verify = t.pts.verify)
    (hw : (f t.pts).write = t.pts.write ∨
      t.pts.verify = none ∧ ∀ x n, (f t.pts).write = some { target := .tables x, remaining := n } → Tables.sound x) :
    Safe (t.onPts f) := by
  refine ⟨⟨?_, ?_, ?_⟩, ⟨?_, ?_, ?_, ?_⟩, ?_⟩
  · rw [State.onPts_pts, ht]; exact hs.tables.inForce
  · rw [State.onPts_pts, ha]; exact hs.tables.stored
  · intro x n hx
    rw [State.onPts_pts] at hx
    obtain hw | ⟨-, hw⟩ := hw
    · exact hs.tables.written x n (hw ▸ hx)
    · exact hw x n hx
  · exact fun g hg => hs.modes.absent g (present_of_tables (t := t) (u := t.onPts f) ht g ▸ hg)
  · exact fun hf g hg => hs.modes.flash hf g (present_of_tables (t := t) (u := t.onPts f) ht g ▸ hg)
  · exact hs.modes.dark
  · intro hx
    rw [State.onPts_pts, hv] at hx
    obtain ⟨hmode, hcause, htab, hwr⟩ := hs.modes.verifying hx
    refine ⟨hmode, hcause, ht.trans htab, ?_⟩
    obtain hw | ⟨hw, -⟩ := hw
    · exact hw.trans hwr
    · rw [hw] at hx; cases hx
  · intro g h hgh
    rw [conflicts_of_tables (t := t) (u := t.onPts f) ht] at hgh
    exact hs.interlock g h hgh

theorem Upholds.onPts {o : Option Instr} {t : State} (f : Pts → Pts) (hs : Safe t → Safe (t.onPts f))
    (hw : WriteAboveProtection t → WriteAboveProtection (t.onPts f))
    (hl : t.pts.locked = true → (f t.pts).locked = true ∨ (t.pins.commission = true ∧ ∃ tag, o = some (.tableUnlock tag))) :
    Upholds o t (t.onPts f) where
  link := id
  requests := id
  stack := id
  write := hw
  safe := hs
  first _ e := .inl e
  lockout e := .inl e
  dropped := id
  locked := hl
  outside := ⟨rfl, rfl, rfl⟩

section

variable (o : Option Instr) (s : State)

theorem upholds_reply (code tag : Byte) (st : Status) (items : List Byte) (m : Markers) :
    Upholds o s (s.reply code tag st items m) := ((Reacts.refl s).reply _ _ _ _ _).upholds o

theorem upholds_takePlanSection (tag : Byte) (c : PlanSectionArg) : Upholds o s (takePlanSection tag c s) := by
  unfold takePlanSection
  split
  · exact upholds_reply ..
  · split
    · exact upholds_reply ..
    · split
      · exact upholds_reply ..
      · next trial n _ =>
        have replied := Reacts.ite (s := s) (c := n = 0) (fun _ => (Reacts.refl s).reply 0x16 tag .ok [] {})
          fun _ => (Reacts.refl s).reply 0x16 tag .clamped (byte1 n) {}
        exact (Upholds.onPts (fun p => { p with trial := trial }) (fun hs => hs.onPts _ rfl rfl rfl (.inl rfl)) id
          fun e => .inl e).after replied

theorem upholds_takePlanStore (tag : Byte) (slot : Nat) : Upholds o s (takePlanStore tag slot s) := by
  unfold takePlanStore
  split
  · exact upholds_reply ..
  · next n hn =>
    split
    · exact upholds_reply ..
    · split
      · exact upholds_reply ..
      · next hp =>
        split
        · exact upholds_reply ..
        · split
          · exact upholds_reply ..
          · next hidle =>
            split
            · exact upholds_reply ..
            · split
              · exact upholds_reply ..
              · have hverify : s.pts.verify = none := by
                  by_contra hv
                  exact hidle ((storeBusy_iff s).mpr (.inr (Option.isSome_iff_ne_none.mpr hv)))
                have hnumber : number n = slot := by
                  simp only [numbered] at hn
                  split at hn
                  · next hr => cases hn; exact Nat.sub_add_cancel hr.1
                  · cases hn
                refine Upholds.then (Upholds.afterReply (Upholds.onPts (o := o) (t := s.reply 0x17 tag .accepted) _
                  (fun hs => hs.onPts _ rfl rfl rfl (.inr ⟨hverify, ?_⟩)) (fun _ => ?_) fun e => .inl e))
                  ((Reacts.refl _).onSlot _ _)
                · rintro x k hx
                  simp at hx
                · intro w hw
                  simp only [State.writingSlot?, State.onPts_pts, Option.some.injEq] at hw
                  subst hw
                  change s.pts.protect < number n
                  omega

theorem upholds_takeTableSection (tag : Byte) (c : TableSectionArg) : Upholds o s (takeTableSection tag c s) := by
  unfold takeTableSection
  split
  · exact upholds_reply ..
  · split
    · exact upholds_reply ..
    · exact Upholds.afterReply (Upholds.onPts _ (fun hs => hs.onPts _ rfl rfl rfl (.inl rfl)) id fun e => .inl e)

theorem upholds_takeTableCommit (tag : Byte) : Upholds o s (takeTableCommit tag s) := by
  unfold takeTableCommit
  split
  · exact upholds_reply ..
  · split
    · exact upholds_reply ..
    · split
      · exact upholds_reply ..
      · next hidle =>
        split
        · exact upholds_reply ..
        · split
          · exact upholds_reply ..
          · next x _ hx =>
            have hverify : s.pts.verify = none := by
              by_contra hv
              exact hidle ((storeBusy_iff s).mpr (.inr (Option.isSome_iff_ne_none.mpr hv)))
            refine Upholds.afterReply (Upholds.onPts _ (fun hs => hs.onPts _ rfl rfl rfl (.inr ⟨hverify, ?_⟩)) (fun _ => ?_)
              fun e => .inl e)
            · rintro y k hy
              simp only [Option.some.injEq, Write.mk.injEq, WriteTarget.tables.injEq] at hy
              exact hy.1 ▸ hx
            · intro w hw
              simp [State.writingSlot?] at hw

theorem upholds_takeTableLock (tag : Byte) : Upholds o s (takeTableLock tag s) :=
  Upholds.afterReply (Upholds.onPts _ (fun hs => hs.onPts _ rfl rfl rfl (.inl rfl)) id fun _ => .inl rfl)

theorem upholds_takeTableUnlock (tag : Byte) : Upholds (some (.tableUnlock tag)) s (takeTableUnlock tag s) := by
  unfold takeTableUnlock
  split
  · next hc =>
    exact Upholds.afterReply (Upholds.onPts _ (fun hs => hs.onPts _ rfl rfl rfl (.inl rfl)) id fun _ => .inr ⟨hc, tag, rfl⟩)
  · exact upholds_reply ..

theorem upholds_takeProtectSet (tag : Byte) (n : Nat) : Upholds o s (takeProtectSet tag n s) := by
  unfold takeProtectSet
  split
  · exact upholds_reply ..
  · split
    · exact upholds_reply ..
    · split
      · exact upholds_reply ..
      · next hp =>
        refine Upholds.afterReply (Upholds.onPts _ (fun hs => hs.onPts _ rfl rfl rfl (.inl rfl)) (fun hw w hws => ?_)
          fun e => .inl e)
        have hws : s.writingSlot? = some w := hws
        have hlt : s.pts.protect < number w := hw w hws
        have : ¬ (number w ≤ n) := by simpa [protectsWrite, hws, hlt] using hp
        exact Nat.lt_of_not_ge this

theorem upholds_takeStartPlanSet (tag : Byte) (slot : Nat) : Upholds o s (takeStartPlanSet tag slot s) := by
  unfold takeStartPlanSet
  split
  · exact upholds_reply ..
  · split
    · exact upholds_reply ..
    · exact Upholds.afterReply (Upholds.onPts _ (fun hs => hs.onPts _ rfl rfl rfl (.inl rfl)) id fun e => .inl e)

/-! ### The monitor and the link -/

theorem upholds_takeFaultClear (tag : Byte) : Upholds (some (.faultClear tag)) s (takeFaultClear tag s) := by
  unfold takeFaultClear
  split
  · exact upholds_reply ..
  · split
    · exact upholds_reply ..
    · split
      · exact upholds_reply ..
      · next hstrap =>
        split
        · exact upholds_reply ..
        · refine Upholds.afterReply (code := 0x13) (tag := tag) (st := .ok) (items := []) (m := {}) ?_
          refine ⟨⟨⟨id, id, id, id, fun hs => hs.of_moves rfl (.inl rfl) fun _ => .inl rfl⟩,
            fun _ _ => .inr ⟨tag, rfl⟩, fun e => .inr ⟨?_, tag, rfl⟩, id, fun e => .inl e⟩, rfl, rfl, rfl⟩
          have e : s.cmon.lockout = true := e
          simpa [e] using hstrap

/-- A change of what LNK holds beside its queues. -/
theorem Upholds.onLnk {o : Option Instr} {s : State} (f : Lnk → Lnk) (hf : s.lnk.bounded → (f s.lnk).bounded) :
    Upholds o s (s.onLnk f) where
  link := hf
  requests := id
  stack := id
  write := id
  safe hs := hs.of_moves rfl (.inl rfl) fun _ => .inl rfl
  first _ e := .inl e
  lockout e := .inl e
  dropped := id
  locked e := .inl e
  outside := ⟨rfl, rfl, rfl⟩

theorem upholds_takeLinkSet (tag : Byte) (af : Nat) : Upholds o s (takeLinkSet tag af s) := by
  unfold takeLinkSet
  split
  · exact upholds_reply ..
  · next haf =>
    simp only [Bool.or_eq_true, decide_eq_true_eq, not_or, Nat.not_lt] at haf
    exact (Upholds.onLnk _ fun ⟨hrep, hrpt, _, _⟩ => ⟨hrep, hrpt, haf.1, haf.2⟩).then
      ((Reacts.refl _).reply _ _ _ _ _)

/-! ### Dispatch -/

theorem upholds_dispatch (i : Instr) : Upholds (some i) s (dispatch i s) := by
  have r := Reacts.refl s
  cases i with
  | status tag => exact upholds_reply ..
  | groups tag part => exact (Reacts.ite (fun _ => r.reply _ _ _ _ _) fun _ => r.reply _ _ _ _ _).upholds _
  | detector tag d => exact (r.takeDetector _ _).upholds _
  | trams tag => exact upholds_reply ..
  | calls tag => exact upholds_reply ..
  | faults tag part => exact (Reacts.ite (fun _ => r.reply _ _ _ _ _) fun _ => r.reply _ _ _ _ _).upholds _
  | stack tag => exact upholds_reply ..
  | planRead tag slot k => exact (r.takePlanRead _ _ _).upholds _
  | tableRead tag c k => exact (Reacts.ite (fun _ => r.reply _ _ _ _ _) fun _ => r.reply _ _ _ _ _).upholds _
  | modeRequest tag m => exact (r.takeModeRequest _ _).upholds _
  | manualPost tag stage hold => exact (r.takeManualPost _ _ _).upholds _
  | planSelect tag slot => exact (r.takePlanSelect _ _).upholds _
  | demandPlace tag g => exact (r.takeDemandPlace _ _).upholds _
  | detectorMask tag d on => exact (r.takeDetectorMask _ _ _).upholds _
  | tramIn tag a v e => exact (r.takeTramIn _ _ _ _).upholds _
  | tramOut tag a => exact (r.takeTramOut _ _).upholds _
  | callPlace tag id l x e d => exact (r.takeCallPlace _ _ _ _ _ _).upholds _
  | callCancel tag id => exact (r.takeCallCancel _ _).upholds _
  | faultClear tag => exact upholds_takeFaultClear ..
  | restart tag => exact (r.takeRestart _).upholds _
  | linkSet tag af => exact upholds_takeLinkSet ..
  | planSection tag c => exact upholds_takePlanSection ..
  | planStore tag slot => exact upholds_takePlanStore ..
  | tableSection tag c => exact upholds_takeTableSection ..
  | tableCommit tag => exact upholds_takeTableCommit ..
  | tableLock tag => exact upholds_takeTableLock ..
  | tableUnlock tag => exact upholds_takeTableUnlock ..
  | protectSet tag n => exact upholds_takeProtectSet ..
  | startPlanSet tag slot => exact upholds_takeStartPlanSet ..
  | _ => exact r.upholds _

end

end Sys2Proof.Machine
end

section
namespace Sys2Proof.Machine

/-! ### Frames -/

theorem Upholds.trans {o : Option Instr} {s t u : State} (h : Upholds none s t) (k : Upholds o t u) :
    Upholds o s u := by
  have first f e : t.cmon.first = some f := (h.first f e).resolve_right (by rintro ⟨_, ⟨⟩⟩)
  have lockout e : t.cmon.lockout = true := (h.lockout e).resolve_right (by rintro ⟨_, _, ⟨⟩⟩)
  have locked e : t.pts.locked = true := (h.locked e).resolve_right (by rintro ⟨_, _, ⟨⟩⟩)
  have hpins := h.outside.2.1
  exact ⟨⟨h.toSound.trans k.toSound, fun f e => k.first f (first f e), fun e => hpins ▸ k.lockout (lockout e),
    fun e => k.dropped (h.dropped e), fun e => hpins ▸ k.locked (locked e)⟩, h.outside.trans k.outside⟩

/-- What a complete frame with an agreeing CRC does: a request that passes the checks is dispatched, any other is answered by
LNK. -/
theorem upholds_completeFrame (frame : List Byte) (s : State) :
    Upholds (frameRequest frame) s (completeFrame frame s) := by
  have r := Reacts.refl s
  obtain _ | ⟨head, _ | ⟨len, _ | ⟨kind, _ | ⟨tag, rest⟩⟩⟩⟩ := frame
  · exact r.upholds none
  · exact r.upholds none
  · exact r.upholds none
  · exact r.upholds none
  · unfold completeFrame frameRequest
    dsimp only
    generalize rest.take len.toNat = body, rest.drop len.toNat = got
    generalize crc (len :: kind :: tag :: body) = c
    by_cases hcrc : got = [c.setWidth 8, (c >>> 8).setWidth 8]
    · rw [if_pos hcrc]
      unfold receiveRequest
      by_cases hlen : bodyLength kind body = some (some body.length)
      · rw [if_pos ⟨hcrc, hlen⟩, hlen]
        dsimp only
        rw [if_neg (not_not_intro rfl)]
        cases readRequest kind tag body with
        | none => exact upholds_reply ..
        | some i => exact upholds_dispatch s i
      · cases hk : bodyLength kind body with
        | none => exact (r.replyUnknown tag).upholds _
        | some n =>
          dsimp only
          rw [if_pos fun e => hlen (hk.trans (congrArg some e))]
          exact upholds_reply ..
    · rw [if_neg hcrc]
      exact r.upholds _

theorem upholds_setRx (x : RxState) (s : State) : Upholds none s (setRx x s) := Upholds.onLnk _ id

theorem upholds_receiveByte (b : Byte) (fe : Bool) (s : State) :
    Upholds (delivered s (.linkByte b fe)) s (receiveByte b fe s) := by
  have set (x : RxState) (o : Option Instr) : Upholds o s (setRx x s) := Upholds.onLnk _ id
  have same (o : Option Instr) : Upholds o s s := (Reacts.refl s).upholds o
  unfold receiveByte delivered
  cases s.lnk.rx with
  | hunting =>
    dsimp only
    split
    · exact set _ _
    · exact same _
  | assembling l =>
    dsimp only
    cases fe with
    | true => exact set _ _
    | false =>
      by_cases hlen : lenTooLarge (l ++ [b]) = true
      · simp only [hlen, Bool.false_eq_true, if_false, if_true]
        exact set _ _
      · by_cases hc : frameComplete (l ++ [b]) = true
        · have hlen : lenTooLarge (l ++ [b]) = false := by simpa using hlen
          simp only [hlen, hc, Bool.false_eq_true, if_false, if_true, and_self]
          exact (upholds_setRx .hunting s).trans (upholds_completeFrame _ _)
        · simp only [hlen, hc, Bool.false_eq_true, if_false]
          exact set _ _

/-! ### Events -/

theorem dropSafe_upholds (o : Option Instr) (s : State) (hm : s.jmc.mode = .flash) : Upholds o s (dropSafe s) := by
  unfold dropSafe
  dsimp only
  refine Upholds.then (t := s.onCmon fun c =>
    { c.note .goMismatch (groupIds.find? fun g => s.condPresent (.goMismatch g)).toList s.cmon.first.isNone
        (decide (s.cmon.window > 0) && !s.cmon.lockout) s.time with safeDropped := true }) ?_ ?_
  · refine ⟨⟨⟨id, id, id, id, fun hs => hs.of_moves rfl (.inl rfl) fun _ => .inl rfl⟩, fun f e => .inl ?_,
      fun e => .inl ?_, fun _ => rfl, fun e => .inl e⟩, rfl, rfl, rfl⟩
    · simp [Cmon.note, e]
    · simp [Cmon.note, e]
  · refine Reacts.enterDark ((Reacts.refl _).report _) ((Reacts.refl _).not_verifying (.inl ?_)) _ _
    simp [hm]

theorem endVerification_upholds (o : Option Instr) (s : State) (hdue : s.pts.verify = some 0) :
    Upholds o s (endVerification s) := by
  let f (p : Pts) : Pts := { p with verify := none, slots := p.slots.map Slot.verified, tables := verifiedTables s.pts }
  have stored (hs : Safe s) (x : Tables) (hx : verifiedTables s.pts = some x) : Tables.sound x := by
    unfold verifiedTables at hx
    split at hx
    · next y hy =>
      split at hx
      · cases hx
        exact hs.tables.stored _ y hy
      · cases hx
    · cases hx
  have dark (hs : Safe s) (g : GroupId) : (s.grp g).state = .dark :=
    hs.modes.dark (hs.modes.verifying (by simp [hdue])).1 g
  have h1 : Upholds o s (s.onPts f) := by
    refine ⟨⟨⟨id, id, id, id, fun hs => ?_⟩, fun _ e => .inl e, fun e => .inl e, id, fun e => .inl e⟩, rfl, rfl, rfl⟩
    obtain ⟨hmode, -, -, hwrite⟩ := hs.modes.verifying (by simp [hdue])
    refine ⟨⟨stored hs, hs.tables.stored, fun x n hx => ?_⟩, ⟨fun g _ => dark hs g, fun hf => ?_, fun _ => dark hs, ?_⟩,
      fun g h _ hboth => ?_⟩
    · exact hs.tables.written x n hx
    · change s.jmc.mode = .flash at hf
      simp [hmode] at hf
    · intro hx; cases hx
    · have : (s.grp g).state.moving = true := hboth.1
      simp [dark hs g, GroupState.moving] at this
  unfold endVerification
  dsimp only
  split
  · exact h1.then ((Reacts.onCmon_faults (Reacts.refl _) _ rfl rfl rfl rfl).tablesVerified (fun _ => rfl) _ _)
  · by_cases hs : Safe s
    · exact h1.then ((Reacts.refl _).tablesFailed (fun _ => rfl) fun _ => dark hs)
    · refine ⟨⟨⟨?_, id, id, id, fun e => absurd e hs⟩, fun _ e => .inl e, fun e => .inl e, id, fun e => .inl e⟩,
        rfl, rfl, rfl⟩
      exact fun e => Lnk.begin'_bounded (Lnk.accept_bounded e _)

/-! ### The change of tables -/

/-- The state a group must have in FLASH and in DARK. -/
def Fits (m : Mode) (present : Bool) (x : GroupState) : Prop :=
  (m = .flash → x = if present then .flash else .dark) ∧ (m = .dark → x = .dark)

theorem sameOutsideGroups_commitGroup (was : GroupId → Bool) (g : GroupId) (s : State) :
    SameOutsideGroups s (commitGroup was g s) := by
  unfold commitGroup
  split
  · rfl
  · split
    · split <;> rfl
    · split <;> rfl

theorem commitGroup_other (was : GroupId → Bool) {g b : GroupId} (hb : b ≠ g) (s : State) :
    (commitGroup was g s).grp b = s.grp b := by
  unfold commitGroup
  split
  · rfl
  · split
    · split <;> exact changeGroup_grp_ne hb _ s
    · split
      · rfl
      · exact State.grp_onGrp_ne _ (Ne.symm hb) _

/-- A group that fitted its presence before the commit, or fits the new one, fits the new one after it. -/
theorem commitGroup_fits (was : GroupId → Bool) (g : GroupId) (s : State) (hm : s.jmc.mode = .flash ∨ s.jmc.mode = .dark)
    (h : Fits s.jmc.mode (was g) (s.grp g).state ∨ Fits s.jmc.mode (s.present g) (s.grp g).state) :
    Fits s.jmc.mode (s.present g) ((commitGroup was g s).grp g).state := by
  unfold commitGroup
  split
  · next e =>
    rw [e] at h
    exact h.elim id id
  · obtain hm | hm := hm
    · rw [if_pos hm]
      split
      · next hp =>
        rw [changeGroup_grp_self]
        simp [Fits, hm, hp, GroupRec.toFlash]
      · next hp =>
        rw [changeGroup_grp_self]
        simp [Fits, hm, hp]
    · rw [if_neg (by simp [hm])]
      split
      · simpa [Fits, hm] using h
      · rw [State.grp_onGrp_self]
        simp [Fits, hm]

theorem commit_fits (was : GroupId → Bool) (l : List GroupId) (s : State)
    (hm : s.jmc.mode = .flash ∨ s.jmc.mode = .dark)
    (h1 : ∀ b, Fits s.jmc.mode (was b) (s.grp b).state ∨ Fits s.jmc.mode (s.present b) (s.grp b).state)
    (h2 : ∀ b ∉ l, Fits s.jmc.mode (s.present b) (s.grp b).state) (b : GroupId) :
    Fits s.jmc.mode (s.present b) ((l.foldl (fun s g => commitGroup was g s) s).grp b).state := by
  induction l generalizing s with
  | nil => exact h2 b List.not_mem_nil
  | cons g l ih =>
    obtain ⟨hpts, -, -, -, hjmc, -⟩ := (sameOutsideGroups_commitGroup was g s).reads
    have hp := present_of_tables (t := s) (u := commitGroup was g s) (by rw [hpts])
    have hg := commitGroup_fits was g s hm (h1 g)
    have key := ih (commitGroup was g s) (by rw [hjmc]; exact hm) ?_ ?_
    · rw [hjmc, hp] at key; exact key
    · intro c
      rw [hjmc, hp]
      by_cases hc : c = g
      · subst hc; exact .inr hg
      · rw [commitGroup_other was hc]; exact h1 c
    · intro c hcl
      rw [hjmc, hp]
      by_cases hc : c = g
      · subst hc; exact hg
      · rw [commitGroup_other was hc]
        exact h2 c (by simp [hc, hcl])

/-- The tables of a write come into force in FLASH or DARK, with the groups brought into and out of presence. -/
theorem replaceTables_upholds (o : Option Instr) (t : Tables) (s : State) (hm : s.jmc.mode = .flash ∨ s.jmc.mode = .dark)
    (hw : s.pts.write = some { target := .tables t, remaining := 0 }) :
    Upholds o s (replaceTables t (moveMark t s)) := by
  let u : State := (moveMark t s).onPts fun p => { p with tables := some t }
  let v : State := groupIds.foldl (fun s g => commitGroup (fun g => (moveMark t s).present g) g s) u
  have hv (was : GroupId → Bool) : SameOutsideGroups u (groupIds.foldl (fun s g => commitGroup was g s) u) :=
    SameOutsideGroups.foldl _ (fun s g => sameOutsideGroups_commitGroup was g s) _ u
  unfold replaceTables
  dsimp only
  have hwas : (fun g => (moveMark t s).present g) = s.present := rfl
  rw [hwas]
  refine Upholds.then (t := groupIds.foldl (fun s' g => commitGroup s.present g s') u) ?_ ?_
  · obtain ⟨hpts, hseq, -, hpri, hjmc, hlnk, -⟩ := (hv s.present).reads
    obtain ⟨hfirst, hlockout⟩ := (hv s.present).cmonFaults
    have hdropped : (groupIds.foldl (fun s' g => commitGroup s.present g s') u).cmon.safeDropped = s.cmon.safeDropped :=
      congrArg Kept.safeDropped ((congrArg QuietPart.kept (hv s.present).quietPart))
    have hkept := congrArg QuietPart.kept (hv s.present).quietPart
    refine ⟨⟨⟨?_, ?_, ?_, fun _ => ?_, fun hs => ?_⟩, fun f e => .inl (hfirst.trans e), fun e => .inl (hlockout.trans e),
      fun e => hdropped.trans e, fun e => .inl ?_⟩, congrArg Kept.pending hkept, congrArg Kept.pins hkept,
      congrArg Kept.time hkept⟩
    · rw [linkBounded_iff, linkBounded_iff, hlnk]; exact id
    · rw [requestsBounded_iff, requestsBounded_iff, hpri]; exact id
    · rw [stackRising_iff, stackRising_iff, hseq]; exact id
    · intro n hn
      have hnone : u.pts.write = none := rfl
      simp [State.writingSlot?, hpts, hnone] at hn
    · have hsound : t.sound := hs.tables.written t 0 hw
      have hbefore (b : GroupId) : Fits u.jmc.mode (s.present b) (u.grp b).state := by
        refine ⟨fun hf => ?_, fun hd => hs.modes.dark hd b⟩
        cases hp : s.present b with
        | true => exact hs.modes.flash hf b hp
        | false => exact hs.modes.absent b hp
      have hfits (b : GroupId) := commit_fits s.present groupIds u hm (fun c => .inl (hbefore c))
        (fun c hc => absurd (mem_groupIds c) hc) b
      have hpresent := present_of_tables (t := u) (u := groupIds.foldl (fun s' g => commitGroup s.present g s') u) (by rw [hpts])
      have hmode : (groupIds.foldl (fun s' g => commitGroup s.present g s') u).jmc.mode = s.jmc.mode := by rw [hjmc]; rfl
      generalize groupIds.foldl (fun s' g => commitGroup s.present g s') u = v at *
      have hum : u.jmc.mode = s.jmc.mode := rfl
      have hnot (b : GroupId) : (v.grp b).state.moving = false := by
        obtain ⟨h1, h2⟩ := hfits b
        obtain hm | hm := hm
        · rw [h1 (hum.trans hm)]; split <;> rfl
        · rw [h2 (hum.trans hm)]; rfl
      refine ⟨⟨?_, ?_, ?_⟩, ⟨?_, ?_, ?_, ?_⟩, ?_⟩
      · intro x hx
        rw [hpts] at hx
        cases hx
        exact hsound
      · intro k x hx
        rw [hpts] at hx
        have hx : (s.pts.areas.set (otherArea s.pts.currentArea) (some { tables := t, check := tablesCheck t }))[k] = some x := hx
        by_cases hk : k = otherArea s.pts.currentArea
        · subst hk
          simp at hx
          subst hx
          exact hsound
        · have : (otherArea s.pts.currentArea : Nat) ≠ k := fun e => hk (Fin.ext e.symm)
          simp [this] at hx
          exact hs.tables.stored k x hx
      · intro x n hx
        rw [hpts] at hx
        cases hx
      · intro b hb
        rw [hpresent] at hb
        obtain ⟨h1, h2⟩ := hfits b
        obtain hm | hm := hm
        · rw [h1 (hum.trans hm), hb]; rfl
        · exact h2 (hum.trans hm)
      · intro hf b hb
        rw [hpresent] at hb
        rw [(hfits b).1 (hum.trans (hmode.symm.trans hf)), hb]; rfl
      · intro hd b
        exact (hfits b).2 (hum.trans (hmode.symm.trans hd))
      · intro hx
        rw [hpts] at hx
        obtain ⟨-, -, -, h4⟩ := hs.modes.verifying hx
        rw [hw] at h4
        cases h4
      · intro g h _ hboth
        rw [hnot] at hboth
        exact absurd hboth.1 (by decide)
    · rw [hpts]; exact e
  · have h1 := ((Reacts.refl (groupIds.foldl (fun s' g => commitGroup s.present g s') u)).foldl groupIds
      (fun s g => if s.present g then s else s.onDem g fun _ => {})
      fun _ g hu => Reacts.ite (fun _ => hu) fun _ => hu.onDem g _).foldl groupIds (fun s g => commitMonitor g s)
      fun _ g hu => (Reacts.ite (fun _ => hu.onMon g _) fun _ => hu.onMon g _).endDifferences g
    have compared {x y : State} (hy : Reacts x y) : Reacts x ((y.onCmon fun c =>
        { c with integrity := false, compareTimer := Config.comparisonPeriod }).push .evaluate) :=
      (hy.onCmon_faults (fun c => { c with integrity := false, compareTimer := Config.comparisonPeriod }) rfl rfl rfl rfl).push _
    exact compared h1

theorem tableWrite?_eq_some {s : State} {t : Tables} (h : tableWrite? s = some t) :
    s.pts.write = some { target := .tables t, remaining := 0 } ∧ (s.jmc.mode = .flash ∨ s.jmc.mode = .dark) := by
  unfold tableWrite? at h
  split at h
  · next e =>
    split at h
    · next hm =>
      cases h
      exact ⟨e, by simpa [State.flashOrDark] using hm⟩
    · cases h
  · cases h

/-- What follows the replacement of the tables is a reaction. -/
theorem reacts_completeTableWrite (t : Tables) (s : State) :
    Reacts (replaceTables t (moveMark t s)) (completeTableWrite t s) := by
  unfold completeTableWrite
  dsimp only
  generalize replaceTables t (moveMark t s) = u
  have h1 := (Reacts.refl u).recheckActive.report (.storeDone .tables .done)
  generalize (recheckActive u).report (.storeDone .tables .done) = v at h1 ⊢
  refine Reacts.ite (fun hd => ?_) fun _ => h1
  simp only [Bool.and_eq_true, decide_eq_true_eq] at hd
  exact h1.tablesVerified (h1.not_verifying (.inr fun e => by rw [hd.2] at e; cases e)) _ _

theorem completeTableWrite_upholds (o : Option Instr) (t : Tables) (s : State) (h : tableWrite? s = some t) :
    Upholds o s (completeTableWrite t s) := by
  obtain ⟨hw, hm⟩ := tableWrite?_eq_some h
  exact (replaceTables_upholds o t s hm hw).then (reacts_completeTableWrite t s)

end Sys2Proof.Machine
end

section
namespace Sys2Proof.Machine

/-! ### Every command, and the tenth -/

theorem Reacts.perform {f : State → State} (hf : ∀ u, Reacts u (f u)) (s : State) : Reacts s (perform f s) :=
  ((Reacts.refl s).begun.trans (hf _)).settle _

theorem Reacts.whenDue {s : State} {due : Bool} {f : State → State} (hf : due = true → Reacts s (f s)) :
    Reacts s (whenDue due f s) := Reacts.ite hf fun _ => Reacts.refl s

theorem Upholds.perform {o : Option Instr} {f : State → State} {s : State} (hf : Upholds o s.begun (f s.begun)) :
    Upholds o s (perform f s) :=
  (hf.after (Reacts.refl s).begun).then ((Reacts.refl _).settle _)

theorem Upholds.whenDue {o : Option Instr} {s : State} {due : Bool} {f : State → State}
    (hf : due = true → Upholds o s (f s)) : Upholds o s (whenDue due f s) := by
  unfold Machine.whenDue
  split
  · exact hf ‹_›
  · exact (Reacts.refl s).upholds o

theorem reacts_transmitDone (s : State) : Reacts s (transmitDone s) := by
  refine Reacts.ite (fun _ => (Reacts.refl s).onLnk _ ?_ fun hb => ?_) fun _ => Reacts.refl s
  · simp [kept, Lnk.complete, begin'_rest]
  · exact Lnk.begin'_bounded (l := { s.lnk with tx := none }) hb

theorem reacts_completePlanWrite (n : PlanSlot) (p : Plan) (s : State) : Reacts s (completePlanWrite n p s) :=
  (((Reacts.refl s).onPts (fun x => { x with write := none }) rfl (.inr rfl)).onSlot _ _).report _

theorem reacts_takeOverdue (g : GroupId) (s : State) : Reacts s (takeOverdue g s) :=
  ((Reacts.refl s).onSeq_stack (fun q => { q with overdueAwaited := GroupSet.put q.overdueAwaited g false }) rfl).when
    fun k => (k.push _).push _

theorem upholds_receiveGap (o : Option Instr) (s : State) : Upholds o s (receiveGap s) := by
  unfold receiveGap
  split
  · exact (Reacts.refl s).upholds o
  · exact Upholds.onLnk _ id

/-- What every command but a power-on reset keeps. -/
theorem exec_upholds {i : Instr} (hi : i ≠ .powerOnReset) {s t : State} (h : exec i s = .next t) :
    Upholds (delivered s i) s t := by
  have b := (Reacts.refl s).begun
  have request (j : Instr) : Upholds (some j) s (dispatch j s.begun) := (upholds_dispatch s.begun j).after b
  cases i <;> obtain rfl := Host.Outcome.next.inj h
  case powerOnReset => exact absurd rfl hi
  case verificationEnd =>
    exact Upholds.perform (Upholds.whenDue fun hd => endVerification_upholds _ _ (of_decide_eq_true hd))
  case detectorWord c o f p => exact (Reacts.perform (fun u => (Reacts.refl u).chargeWord c o f p) s).upholds _
  case silenceConfirmed d =>
    exact (Reacts.perform (fun u => Reacts.whenDue fun _ => (Reacts.refl u).confirmSilence d) s).upholds _
  case stuckLimitReached d =>
    exact (Reacts.perform (fun u => Reacts.whenDue fun _ => (Reacts.refl u).becomeStuck d) s).upholds _
  case clearanceCountdown g => exact (Reacts.perform (fun u => (Reacts.refl u).admitWaiting.push _) s).upholds _
  case openingExpiry g =>
    refine (Reacts.perform (fun u => Reacts.whenDue fun hd => (Reacts.refl u).enterOpen g ?_) s).upholds _
    simp only [openingDue, Bool.and_eq_true, decide_eq_true_eq] at hd
    exact .inl hd.1
  case minCompletion g =>
    refine (Reacts.perform (fun u => Reacts.whenDue fun hd => (Reacts.refl u).minComplete g ?_) s).upholds _
    simp only [minDue, Bool.and_eq_true, decide_eq_true_eq] at hd
    exact hd.1.1
  case gapTimerExpiry g =>
    exact (Reacts.perform (fun u => Reacts.whenDue fun _ => ((Reacts.refl u).onGrp g _ (.inl rfl)).push _) s).upholds _
  case maxGreenReached g =>
    exact (Reacts.perform (fun u => Reacts.whenDue fun _ => ((Reacts.refl u).onGrp g _ (.inl rfl)).push _) s).upholds _
  case closingExpiry g =>
    refine (Reacts.perform (fun u => Reacts.whenDue fun hd => (Reacts.refl u).enterClosed g ?_) s).upholds _
    simp only [closingDue, Bool.and_eq_true, decide_eq_true_eq] at hd
    rw [hd.1]
    decide
  case lampCommandRepeat => exact b.repeatLamps.upholds _
  case groupOverdue g => exact (Reacts.perform (reacts_takeOverdue g) s).upholds _
  case endCountdownExpiry => exact (Reacts.perform (fun u => (Reacts.refl u).endCountdownExpired) s).upholds _
  case manualHoldExpiry =>
    exact (Reacts.perform (fun u => Reacts.whenDue fun _ => (Reacts.refl u).push _) s).upholds _
  case tramTimeout a =>
    exact (Reacts.perform (fun u => Reacts.whenDue fun _ => (Reacts.refl u).loseHead a) s).upholds _
  case recoveryExpiry a =>
    exact (Reacts.perform (fun u => Reacts.whenDue fun _ =>
      ((Reacts.refl u).onApp_tags a _ rfl rfl).episodeChanged) s).upholds _
  case guardExpiry a => exact (b.trans (Reacts.whenDue fun _ => (Reacts.refl _).onApp_tags a _ rfl rfl)).upholds _
  case capExpiry a =>
    exact (Reacts.perform (fun u => Reacts.whenDue fun _ => (Reacts.refl u).capExpired a) s).upholds _
  case callHoldExpiry id =>
    exact (Reacts.perform (fun u => Reacts.whenDue fun _ => (Reacts.refl u).finishCall id) s).upholds _
  case startFlashingExpiry =>
    refine (Reacts.perform (fun u => Reacts.whenDue fun hd => (Reacts.refl u).beginAllRed ?_) s).upholds _
    simp only [startFlashingDue, Bool.and_eq_true, decide_eq_true_eq] at hd
    exact hd.1.1
  case allRedExpiry =>
    exact (Reacts.perform (fun u => Reacts.whenDue fun _ => (Reacts.refl u).beginFirstStage) s).upholds _
  case lampSenseRecord n r a o c p => exact (Reacts.perform (fun u => (Reacts.refl u).senseRecord n r a o c p) s).upholds _
  case mismatchTimerExceeds g => exact (Reacts.perform (fun u => (Reacts.refl u).evaluateIf _) s).upholds _
  case senseSilence g => exact (Reacts.perform (fun u => (Reacts.refl u).evaluateIf _) s).upholds _
  case integrityComparison =>
    exact (Reacts.perform (fun u => Reacts.whenDue fun _ => (Reacts.refl u).completeComparison) s).upholds _
  case safeDrop =>
    refine Upholds.perform (Upholds.whenDue fun hd => dropSafe_upholds _ _ ?_)
    simp only [safeDropDue, Bool.and_eq_true, decide_eq_true_eq] at hd
    exact hd.1.1
  case restartWindowEnd =>
    refine Upholds.after (Upholds.whenDue fun _ => ?_) b
    exact ⟨⟨⟨id, id, id, id, fun hs => hs.of_moves rfl (.inl rfl) fun _ => .inl rfl⟩, fun _ e => .inl e,
      fun e => .inl e, id, fun e => .inl e⟩, rfl, rfl, rfl⟩
  case planWriteDone =>
    cases planWrite? s with
    | none => exact b.upholds _
    | some x => exact (b.trans (reacts_completePlanWrite _ _ _)).upholds _
  case tableWriteDone =>
    cases hw : tableWrite? s with
    | none => exact b.upholds _
    | some x => exact Upholds.perform (completeTableWrite_upholds _ x s.begun hw)
  case receiveGapTimeout => exact (upholds_receiveGap _ _).after b
  case linkByte x fe => exact Upholds.perform (upholds_receiveByte x fe s.begun)
  case transmitComplete => exact (b.trans (reacts_transmitDone _)).upholds _
  case modeRequest tag m => exact Upholds.perform (upholds_dispatch s.begun (.modeRequest tag m))
  case manualPost tag x y => exact Upholds.perform (upholds_dispatch s.begun (.manualPost tag x y))
  case planSelect tag n => exact Upholds.perform (upholds_dispatch s.begun (.planSelect tag n))
  case demandPlace tag g => exact Upholds.perform (upholds_dispatch s.begun (.demandPlace tag g))
  case detectorMask tag d x => exact Upholds.perform (upholds_dispatch s.begun (.detectorMask tag d x))
  case tramIn tag a v e => exact Upholds.perform (upholds_dispatch s.begun (.tramIn tag a v e))
  case tramOut tag a => exact Upholds.perform (upholds_dispatch s.begun (.tramOut tag a))
  case callPlace tag a b c d e => exact Upholds.perform (upholds_dispatch s.begun (.callPlace tag a b c d e))
  case callCancel tag a => exact Upholds.perform (upholds_dispatch s.begun (.callCancel tag a))
  case restart tag => exact Upholds.perform (upholds_dispatch s.begun (.restart tag))
  case shadowClearanceFallsToMtol g => exact b.dropEnded.upholds _
  case ageReversesOrder => exact (Reacts.perform (fun u => (Reacts.refl u).determineRuling false) s).upholds _
  all_goals exact request _

/-- A power-on reset leaves a part that meets every invariant, the stored tables being sound. -/
theorem sound_powerOn (s : State) : Sound s (powerOn s) := by
  have dark (g : GroupId) : ((powerOn s).grp g).state = .dark := by simp [powerOn, State.grp, Sge.reset]
  refine ⟨fun _ => ⟨Nat.zero_le _, Nat.zero_le _, (by decide : 8 ≤ 40), (by decide : 40 ≤ 47)⟩, fun _ => ⟨fun a => ?_, Nat.zero_le _, List.nodup_nil⟩,
    fun _ => ⟨Nat.zero_le _, .nil⟩, fun _ n hn => ?_, fun hs => ?_⟩
  · simp [powerOn, State.app, Approach.bounded]
  · cases hn
  · refine ⟨⟨fun x hx => ?_, hs.tables.stored, fun x n hx => ?_⟩, ⟨fun g _ => dark g, fun hf => ?_, fun _ => dark, fun _ => ?_⟩,
      fun g h _ hboth => ?_⟩
    · cases hx
    · cases hx
    · cases hf
    · exact ⟨rfl, rfl, rfl, rfl⟩
    · rw [dark] at hboth
      exact absurd hboth.1 (by decide)

theorem tick_grp_state (s : State) (g : GroupId) : ((tick s).grp g).state = (s.grp g).state := by
  simp [tick, freeOrder, advance, State.grp, State.begun, GroupRec.tick]

theorem tick_write (s : State) : (tick s).pts.write = s.pts.write.map fun w => { w with remaining := w.remaining - 1 } := rfl

theorem tick_verify (s : State) : (tick s).pts.verify = s.pts.verify.map (· - 1) := rfl

/-- The street is as safe after a tenth as before it: no group changes state, and a write in flight keeps its copy. -/
theorem Safe.tick {s : State} (hs : Safe s) : Safe (tick s) := by
  have hpresent (g : GroupId) : (Machine.tick s).present g = s.present g := present_of_tables rfl g
  refine ⟨⟨hs.tables.inForce, hs.tables.stored, fun x n hx => ?_⟩, ⟨?_, ?_, ?_, ?_⟩, ?_⟩
  · rw [tick_write, Option.map_eq_some_iff] at hx
    obtain ⟨w, hw, hx⟩ := hx
    cases w with
    | mk target remaining =>
      simp only [Write.mk.injEq] at hx
      obtain ⟨rfl, -⟩ := hx
      exact hs.tables.written x _ hw
  · intro g hg
    rw [tick_grp_state]
    exact hs.modes.absent g (hpresent g ▸ hg)
  · intro hf g hg
    rw [tick_grp_state]
    exact hs.modes.flash hf g (hpresent g ▸ hg)
  · intro hd g
    rw [tick_grp_state]
    exact hs.modes.dark hd g
  · intro hv
    rw [tick_verify, Option.isSome_map] at hv
    obtain ⟨hmode, hcause, htables, hwrite⟩ := hs.modes.verifying hv
    refine ⟨hmode, hcause, htables, ?_⟩
    rw [tick_write, hwrite]
    rfl
  · intro g h hgh
    rw [tick_grp_state, tick_grp_state]
    exact hs.interlock g h hgh

theorem keeps_tick (o : Option Instr) (s : State) : Keeps o s (tick s) := by
  refine ⟨⟨id, fun ⟨ha, hlen, hnodup⟩ => ⟨fun a => ?_, ?_, ?_⟩, id, fun hw n hn => hw n ?_, Safe.tick⟩, fun _ e => .inl e,
    fun e => .inl e, id, fun e => .inl e⟩
  · have happ : (tick s).app a = (s.app a).tick := by
      simp [tick, freeOrder, advance, State.app, State.begun]
    obtain ⟨h1, h2, h3, h4⟩ := ha a
    rw [happ]
    refine ⟨by simpa [Approach.tick] using h1, ?_, fun r hr => ?_, h4⟩
    · have : (TramRec.tag ∘ TramRec.tick) = TramRec.tag := rfl
      simpa [Approach.tick, List.map_map, this] using h2
    · obtain ⟨r', hr', rfl⟩ := List.mem_map.mp hr
      exact h3 r' hr'
  · simpa [tick, freeOrder, advance, State.begun] using hlen
  · have : (Call.id ∘ Call.tick) = Call.id := rfl
    simpa [tick, freeOrder, advance, State.begun, List.map_map, this] using hnodup
  · rw [← hn]
    simp only [State.writingSlot?, tick_write]
    rcases s.pts.write with _ | ⟨_ | _, _⟩ <;> rfl

/-! ### What every step keeps -/

theorem step_nil {s : State} (h : s.pending = []) : step s = .next (tick s) := by
  unfold step
  rw [h]

theorem step_cons {s : State} {i : Instr} {rest : List Instr} (h : s.pending = i :: rest) :
    step s = exec i { s with pending := rest } := by
  unfold step
  rw [h]

theorem Sound.of_pending {s t : State} {l : List Instr} (h : Sound { s with pending := l } t) : Sound s t :=
  ⟨h.link, h.requests, h.stack, h.write, fun hs => h.safe (hs.of_moves rfl (.inl rfl) fun _ => .inl rfl)⟩

/-- A step is a power-on reset, or upholds the invariants for the request that the command in front delivers. -/
theorem step_cases {s t : State} (h : step s = .next t) :
    (∃ rest, s.pending = .powerOnReset :: rest) ∧ Sound s t ∨
    ∃ o, Keeps o s t ∧ ∀ x, o = some x → ∃ i rest, s.pending = i :: rest ∧ delivered s i = some x := by
  cases hp : s.pending with
  | nil =>
    rw [step_nil hp] at h
    obtain rfl := Host.Outcome.next.inj h
    exact .inr ⟨none, keeps_tick _ s, fun x hx => by cases hx⟩
  | cons i rest =>
    rw [step_cons hp] at h
    by_cases hi : i = .powerOnReset
    · subst hi
      obtain rfl := Host.Outcome.next.inj h
      exact .inl ⟨⟨rest, rfl⟩, (sound_powerOn _).of_pending⟩
    · have hu := exec_upholds hi h
      have ho : delivered { s with pending := rest } i = delivered s i := by cases i <;> rfl
      rw [ho] at hu
      exact .inr ⟨_, ⟨hu.toSound.of_pending, hu.first, hu.lockout, hu.dropped, hu.locked⟩,
        fun x hx => ⟨i, rest, rfl, hx⟩⟩

theorem sound_step {s t : State} (h : step s = .next t) : Sound s t := by
  obtain ⟨-, hs⟩ | ⟨_, hu, -⟩ := step_cases h
  · exact hs
  · exact hu.toSound

/-- Settles O9. -/
theorem everyStepKeepsTheInterlock : Obligations.EveryStepKeepsTheInterlock :=
  fun _ _ hs h => (sound_step h).safe hs

/-- Settles O13. -/
theorem everyStepKeepsLinkQueuesBounded : Obligations.EveryStepKeepsLinkQueuesBounded :=
  fun _ _ hs h => (sound_step h).link hs

/-- Settles O14. -/
theorem everyStepKeepsTramQueuesAndCallTable : Obligations.EveryStepKeepsTramQueuesAndCallTable :=
  fun _ _ hs h => (sound_step h).requests hs

/-- Settles O15. -/
theorem everyStepKeepsWritesAboveProtection : Obligations.EveryStepKeepsWritesAboveProtection :=
  fun _ _ hs h => (sound_step h).write hs

/-- Settles O16. -/
theorem everyStepKeepsResumeStackRising : Obligations.EveryStepKeepsResumeStackRising :=
  fun _ _ hs h => (sound_step h).stack hs

/-- Settles O10. A power-on reset keeps the lock; every other step upholds it but for a TABLE_UNLOCK with the strap. -/
theorem lockOpensOnlyByUnlockWithStrap : Obligations.LockOpensOnlyByUnlockWithStrap := by
  intro s t h hlocked hopen
  obtain ⟨⟨rest, hp⟩, -⟩ | ⟨o, hu, ho⟩ := step_cases h
  · rw [step_cons hp] at h
    obtain rfl := Host.Outcome.next.inj h
    have : s.pts.locked = false := hopen
    simp [hlocked] at this
  · obtain e | ⟨hstrap, tag, rfl⟩ := hu.locked hlocked
    · simp [e] at hopen
    · obtain ⟨i, rest, hp, hd⟩ := ho _ rfl
      exact ⟨hstrap, i, rest, tag, hp, hd⟩

/-- Settles O11. The SAFE output is low by its definition while SAFE_DROPPED stands. -/
theorem safeDroppedClearedOnlyByPowerOnReset : Obligations.SafeDroppedClearedOnlyByPowerOnReset := by
  intro s t h hdropped
  obtain ⟨hp, -⟩ | ⟨o, hu, -⟩ := step_cases h
  · exact .inr hp
  · have e := hu.dropped hdropped
    exact .inl ⟨e, by simp [State.safeOutput, e]⟩

/-- Settles O12. -/
theorem faultRecordClearedOnlyByRequestOrReset : Obligations.FaultRecordClearedOnlyByRequestOrReset := by
  intro s t h hreset
  obtain ⟨⟨rest, hp⟩, -⟩ | ⟨o, hu, ho⟩ := step_cases h
  · exact absurd hp (hreset rest)
  · have cleared (x : Instr) (hx : o = some x) := ho x hx
    refine ⟨fun f hf => (hu.first f hf).imp_right ?_, fun hl => (hu.lockout hl).imp_right ?_⟩
    · rintro ⟨tag, rfl⟩
      obtain ⟨i, rest, hp, hd⟩ := cleared _ rfl
      exact ⟨i, rest, tag, hp, hd⟩
    · rintro ⟨hstrap, tag, rfl⟩
      obtain ⟨i, rest, hp, hd⟩ := cleared _ rfl
      exact ⟨hstrap, i, rest, tag, hp, hd⟩

end Sys2Proof.Machine
end

section
/-! ## Steps and commands; the state after a reset; sound tables -/

namespace Sys2Proof.Machine

/-- Settles O1. -/
theorem stepRunsFrontCommand : Obligations.StepRunsFrontCommand := fun _ _ _ h => step_cons h

theorem exec_isNext (i : Instr) (s : State) : ∃ t, exec i s = .next t := by cases i <;> exact ⟨_, rfl⟩

/-- Settles O2. -/
theorem everyCommandEndsInNextState : Obligations.EveryCommandEndsInNextState := exec_isNext

/-- Settles O3. A power-on reset moves the time alone, every other command upholds what is outside it; the rest of `kept` stands
through the reactions. -/
theorem commandsKeepQueuePinsTimeAndSettings : Obligations.CommandsKeepQueuePinsTimeAndSettings := by
  refine ⟨fun i s t h => ?command, fun fuel s t h => ?reactions⟩
  case command =>
    by_cases hi : i = .powerOnReset
    · subst hi
      obtain rfl := Host.Outcome.next.inj h
      exact ⟨rfl, rfl, fun hne => absurd rfl hne⟩
    · obtain ⟨hpending, hpins, htime⟩ := (exec_upholds hi h).outside
      exact ⟨hpending, hpins, fun _ => htime⟩
  case reactions =>
    subst h
    have := Kept.mk.inj (kept_settle fuel s)
    exact this

theorem reset_grp (g : GroupId) : State.reset.grp g = {} := by simp [State.grp, State.reset, Sge.reset]

theorem safe_reset : Safe State.reset where
  tables :=
    { inForce := fun _ h => by cases h
      stored := fun k x h => by
        have : State.reset.pts.areas[k] = none := by simp [State.reset]
        rw [this] at h
        cases h
      written := fun _ _ h => by cases h }
  modes :=
    { absent := fun g _ => by rw [reset_grp]
      flash := fun h => by cases h
      dark := fun _ g => by rw [reset_grp]
      verifying := fun _ => ⟨rfl, rfl, rfl, rfl⟩ }
  interlock := fun g h _ hboth => by
    rw [reset_grp] at hboth
    exact absurd hboth.1 (by decide)

/-- Settles O8. -/
theorem resetStateIsSafeAndBounded : Obligations.ResetStateIsSafeAndBounded := by
  refine ⟨safe_reset, ?link, ⟨fun a => ?queues, Nat.zero_le 4, List.nodup_nil⟩, fun n h => ?write, ⟨Nat.zero_le 3, .nil⟩, rfl⟩
  case link => exact ⟨Nat.zero_le 4, Nat.zero_le 48, (by decide : 8 ≤ 40), (by decide : 40 ≤ 47)⟩
  case queues => simp [State.app, State.reset, Approach.bounded]
  case write => cases h

theorem checkPair_eq_none_iff {t : Tables} {e b : GroupId} : checkPair t e b = none ↔
    if t.conflict e b = true then ∃ n, t.igEntry e b = some n ∧ t.groups[e].close + t.groups[b].opent ≤ n
    else t.igEntry e b = none := by
  unfold checkPair
  cases t.igEntry e b <;> cases t.conflict e b <;> simp

/-- Settles O24. Conflicts are the listings step 4 lets pass, intergreens the pairs step 5 lets pass. -/
theorem validTablesAreSymmetricWithIntergreens : Obligations.ValidTablesAreSymmetricWithIntergreens := by
  intro x hx e b
  obtain ⟨-, -, -, hpair⟩ := validate_eq_none_iff.mp hx
  have hig := checkPair_eq_none_iff.mp (hpair e b)
  refine ⟨fun hc => ?_, fun hc => ?_, fun hc => ?_⟩
  · obtain ⟨hne, he, hb, hsym⟩ := Tables.sound.conflict hx hc
    exact ⟨hne.symm, he, hb, hsym⟩
  · rwa [if_pos hc] at hig
  · rwa [if_neg (by simp [hc])] at hig

end Sys2Proof.Machine
end

section
/-! ## The store's settings, sections and writes (R180, R184, R186 to R191) -/

namespace Sys2Proof.Machine

theorem protectsWrite_iff {s : State} {p : Nat} :
    protectsWrite s p = true ↔ ∃ n, s.writingSlot? = some n ∧ number n ≤ p ∧ s.pts.protect < number n := by
  unfold protectsWrite
  cases s.writingSlot? <;> simp

theorem flashOrDark_iff {s : State} : s.flashOrDark = true ↔ s.jmc.mode = .flash ∨ s.jmc.mode = .dark := by
  simp [State.flashOrDark]

theorem not_flashOrDark {s : State} (hf : s.jmc.mode ≠ .flash) (hd : s.jmc.mode ≠ .dark) : s.flashOrDark = false := by
  simp [State.flashOrDark, hf, hd]

section Settings

variable (tag : Byte) (s : State)

theorem exec_protectSet (p : Nat) : exec (.protectSet tag p) s = .next (takeProtectSet tag p s.begun) := rfl

theorem exec_startPlanSet (slot : Nat) : exec (.startPlanSet tag slot) s = .next (takeStartPlanSet tag slot s.begun) := rfl

theorem takeProtectSet_range {p : Nat} (h : 16 < p) : takeProtectSet tag p s = s.reply 0x1C tag .range := if_pos h

theorem takeProtectSet_locked {p : Nat} (h : p ≤ 16) (hp : p < s.pts.protect) (hl : s.pts.locked = true) :
    takeProtectSet tag p s = s.reply 0x1C tag .locked :=
  (if_neg h.not_gt).trans (if_pos (by simp [hp, hl]))

variable {tag s} {p : Nat} (h : p ≤ 16) (hp : ¬ (p < s.pts.protect ∧ s.pts.locked = true))
include h hp

theorem takeProtectSet_busy (hb : protectsWrite s p = true) : takeProtectSet tag p s = s.reply 0x1C tag .busy :=
  (if_neg h.not_gt).trans ((if_neg (by simpa using hp)).trans (if_pos hb))

theorem takeProtectSet_ok (hb : ¬ protectsWrite s p = true) :
    takeProtectSet tag p s = (s.reply 0x1C tag .ok).onPts fun x => { x with protect := p } :=
  (if_neg h.not_gt).trans ((if_neg (by simpa using hp)).trans (if_neg hb))

end Settings

theorem takeStartPlanSet_range {slot : Nat} (tag : Byte) (s : State) (h : slot = 0 ∨ 16 < slot) :
    takeStartPlanSet tag slot s = s.reply 0x1D tag .range := by
  simp only [takeStartPlanSet, numbered_eq_none h]

theorem takeStartPlanSet_number (tag : Byte) (s : State) (n : PlanSlot) :
    takeStartPlanSet tag (number n) s =
      if (s.slot n).state ≠ .valid then s.reply 0x1D tag .invalid
      else (s.reply 0x1D tag .ok).onPts fun p => { p with startPlan := n } := by
  simp only [takeStartPlanSet, numbered_number]

/-- Settles O17. -/
theorem storeSettingsTakenOrRefused : Obligations.StoreSettingsTakenOrRefused := by
  intro tag s
  refine ⟨⟨rfl, fun hc => ?unlocked, fun hc => ?noStrap⟩, fun p => ⟨fun h => ?range, fun h hp hl => ?locked, fun h hp =>
    ⟨fun hb => ?busy, fun hb => ?set⟩⟩, fun slot h => ?startRange, fun n hn => ?startInvalid, fun n hn => ?startSet⟩
  case unlocked => exact congrArg Host.Outcome.next (if_pos hc)
  case noStrap => exact congrArg Host.Outcome.next (if_neg (by simp [hc]))
  case range => rw [exec_protectSet, takeProtectSet_range tag s.begun h]
  case locked => rw [exec_protectSet, takeProtectSet_locked tag s.begun h hp hl]
  case busy => rw [exec_protectSet, takeProtectSet_busy (s := s.begun) h hp (protectsWrite_iff.mpr hb)]
  case set =>
    rw [exec_protectSet, takeProtectSet_ok (s := s.begun) h hp fun e => hb (protectsWrite_iff.mp e)]
    rfl
  case startRange => rw [exec_startPlanSet, takeStartPlanSet_range tag s.begun h]
  case startInvalid => rw [exec_startPlanSet, takeStartPlanSet_number, if_pos (show (s.begun.slot n).state ≠ .valid from hn)]
  case startSet =>
    rw [exec_startPlanSet, takeStartPlanSet_number, if_neg (not_not_intro (show (s.begun.slot n).state = .valid from hn))]
    rfl

/-! ### The draft -/

section Draft

variable (tag : Byte) (s : State)

theorem exec_tableSection (c : TableSectionArg) : exec (.tableSection tag c) s = .next (takeTableSection tag c s.begun) := rfl

theorem exec_tableCommit : exec (.tableCommit tag) s = .next (takeTableCommit tag s.begun) := rfl

theorem takeTableSection_locked (c : TableSectionArg) (hl : s.pts.locked = true) :
    takeTableSection tag c s = s.reply 0x18 tag .locked := if_pos hl

theorem takeTableSection_wrongMode (c : TableSectionArg) (hl : s.pts.locked = false) (hm : s.flashOrDark = false) :
    takeTableSection tag c s = s.reply 0x18 tag .wrongMode := by
  simp [takeTableSection, hl, hm]

theorem takeTableSection_ok (c : TableSectionArg) (hl : s.pts.locked = false) (hm : s.flashOrDark = true) :
    takeTableSection tag c s = (s.reply 0x18 tag .ok).onPts fun p => { p with draft := p.draft.put c } := by
  simp [takeTableSection, hl, hm]

theorem takeTableCommit_wrongMode (hm : s.flashOrDark = false) : takeTableCommit tag s = s.reply 0x19 tag .wrongMode := by
  simp [takeTableCommit, hm]

theorem takeTableCommit_locked (hm : s.flashOrDark = true) (hl : s.pts.locked = true) :
    takeTableCommit tag s = s.reply 0x19 tag .locked := by
  simp [takeTableCommit, hm, hl]

theorem takeTableCommit_busy (hm : s.flashOrDark = true) (hl : s.pts.locked = false)
    (hb : (s.pts.write.isSome || s.verifying) = true) : takeTableCommit tag s = s.reply 0x19 tag .busy := by
  simp only [takeTableCommit, hm, hl, hb, Bool.not_true, Bool.false_eq_true, if_false, if_true]

variable {tag s} (hm : s.flashOrDark = true) (hl : s.pts.locked = false) (hidle : ¬ (s.pts.write.isSome || s.verifying) = true)
include hm hl hidle

theorem takeTableCommit_incomplete (hd : s.pts.draft.complete? = none) :
    takeTableCommit tag s = s.reply 0x19 tag .incomplete := by
  simp only [takeTableCommit, hm, hl, if_neg hidle, hd, Bool.not_true, Bool.false_eq_true, if_false]

variable {x : Tables} (hd : s.pts.draft.complete? = some x)
include hd

theorem takeTableCommit_invalid {f : Failure} (hv : validate x = some f) :
    takeTableCommit tag s = s.reply 0x19 tag .invalid (failureItems f) := by
  simp only [takeTableCommit, hm, hl, if_neg hidle, hd, hv, Bool.not_true, Bool.false_eq_true, if_false]

theorem takeTableCommit_accepted (hv : validate x = none) :
    takeTableCommit tag s = (s.reply 0x19 tag .accepted).onPts fun p =>
      { p with write := some { target := .tables x, remaining := Config.tableWriteTime } } := by
  simp only [takeTableCommit, hm, hl, if_neg hidle, hd, hv, Bool.not_true, Bool.false_eq_true, if_false]

end Draft

/-- Settles O23. -/
theorem draftIsWrittenAndCommitted : Obligations.DraftIsWrittenAndCommitted := by
  refine ⟨fun tag c s => ⟨fun hl => ?locked, fun hl hf hd => ?wrongMode, fun hl hm => ?written⟩, fun tag s =>
    ⟨fun hf hd => ?commitMode, fun hm => ⟨fun hl => ?commitLocked, fun hl hb => ?commitBusy, fun hl hw hv => ?commitIdle⟩⟩⟩
  case locked => rw [exec_tableSection, takeTableSection_locked tag s.begun c hl]
  case wrongMode =>
    rw [exec_tableSection, takeTableSection_wrongMode tag s.begun c hl (not_flashOrDark (s := s.begun) hf hd)]
  case written =>
    rw [exec_tableSection, takeTableSection_ok tag s.begun c hl (flashOrDark_iff.mpr hm)]
    cases c <;> rfl
  case commitMode => rw [exec_tableCommit, takeTableCommit_wrongMode tag s.begun (not_flashOrDark (s := s.begun) hf hd)]
  case commitLocked => rw [exec_tableCommit, takeTableCommit_locked tag s.begun (flashOrDark_iff.mpr hm) hl]
  case commitBusy =>
    rw [exec_tableCommit, takeTableCommit_busy tag s.begun (flashOrDark_iff.mpr hm) hl ((storeBusy_iff s).mpr hb)]
  case commitIdle =>
    have hm : s.begun.flashOrDark = true := flashOrDark_iff.mpr hm
    have hidle := not_storeBusy (s := s.begun) hw hv
    simp only [exec_tableCommit]
    refine ⟨fun hd => ?_, fun x hd => ⟨fun f hf => ?_, fun hf => ?_⟩⟩
    · rw [takeTableCommit_incomplete hm hl hidle hd]
    · rw [takeTableCommit_invalid hm hl hidle hd hf]; rfl
    · rw [takeTableCommit_accepted hm hl hidle hd hf]; rfl

end Sys2Proof.Machine
end

section
/-! ### The completion of a write (R184, R188) -/

namespace Sys2Proof.Machine

theorem planWrite?_eq_some {s : State} {n : PlanSlot} {p : Plan} :
    planWrite? s = some (n, p) ↔ s.pts.write = some { target := .slot n p, remaining := 0 } := by
  unfold planWrite?
  split
  · next e => simp [e]
  · next hne => exact ⟨fun h => by simp at h, fun h => absurd h (hne n p)⟩

theorem planWrite?_eq_none {s : State} (h : ∀ n p, s.pts.write ≠ some { target := .slot n p, remaining := 0 }) :
    planWrite? s = none :=
  Option.eq_none_iff_forall_ne_some.mpr fun ⟨n, p⟩ e => h n p (planWrite?_eq_some.mp e)

theorem tableWrite?_of_due {s : State} {t : Tables} (hw : s.pts.write = some { target := .tables t, remaining := 0 })
    (hm : s.jmc.mode = .flash ∨ s.jmc.mode = .dark) : tableWrite? s = some t := by
  simp only [tableWrite?, hw, flashOrDark_iff.mpr hm, if_true]

theorem tableWrite?_eq_none {s : State}
    (h : ∀ t, s.pts.write = some { target := .tables t, remaining := 0 } → ¬ (s.jmc.mode = .flash ∨ s.jmc.mode = .dark)) :
    tableWrite? s = none :=
  Option.eq_none_iff_forall_ne_some.mpr fun t e => h t (tableWrite?_eq_some e).1 (tableWrite?_eq_some e).2

theorem otherArea_ne (i : Fin 2) : otherArea i ≠ i := by decide +revert

/-- Actions that leave a part of the state as it is leave it so one after another. -/
theorem foldl_same {α β : Type} {r : State → β} {f : State → α → State} (hf : ∀ u a, r (f u a) = r u) (l : List α) (s : State) :
    r (l.foldl f s) = r s := by
  induction l generalizing s with
  | nil => rfl
  | cons a l ih => exact (ih (f s a)).trans (hf s a)

theorem endDifferences_pts (g : GroupId) (s : State) : (endDifferences g s).pts = s.pts := rfl

/-- The committed tables come into force, and nothing else of the store moves. -/
theorem replaceTables_pts (t : Tables) (s : State) : (replaceTables t s).pts = { s.pts with tables := some t } := by
  unfold replaceTables
  dsimp only
  rw [State.push_pts, State.onCmon_pts, foldl_same (r := State.pts) fun u g => ?_, foldl_same (r := State.pts) fun u g => ?_]
  · exact foldl_same (r := State.pts)
      (fun u g => (sameOutsideGroups_commitGroup (fun g => s.present g) g u).reads.1) groupIds _
  · split <;> rfl
  · unfold commitMonitor
    dsimp only
    rw [endDifferences_pts]
    split <;> rfl

theorem exec_tableWriteDone_due {s : State} {t : Tables} (h : tableWrite? s = some t) :
    exec .tableWriteDone s = .next (perform (completeTableWrite t) s) := by
  change Host.Outcome.next (match tableWrite? s with | some t => perform (completeTableWrite t) s | none => s.begun) = _
  rw [h]

theorem exec_tableWriteDone_notDue {s : State} (h : tableWrite? s = none) : exec .tableWriteDone s = .next s.begun := by
  change Host.Outcome.next (match tableWrite? s with | some t => perform (completeTableWrite t) s | none => s.begun) = _
  rw [h]

theorem exec_planWriteDone_due {s : State} {n : PlanSlot} {p : Plan} (h : planWrite? s = some (n, p)) :
    exec .planWriteDone s = .next (completePlanWrite n p s.begun) := by
  change Host.Outcome.next (match planWrite? s with | some (n, p) => completePlanWrite n p s.begun | none => s.begun) = _
  rw [h]

theorem exec_planWriteDone_notDue {s : State} (h : planWrite? s = none) : exec .planWriteDone s = .next s.begun := by
  change Host.Outcome.next (match planWrite? s with | some (n, p) => completePlanWrite n p s.begun | none => s.begun) = _
  rw [h]

/-- What a completed table write leaves of the store: the reactions that follow touch nothing `kept`, and the write is over. -/
theorem completeTableWrite_store (t : Tables) (s : State) :
    kept (perform (completeTableWrite t) s) = kept (replaceTables t (moveMark t s.begun))
      ∧ (perform (completeTableWrite t) s).pts.write = none := by
  have hw : (replaceTables t (moveMark t s.begun)).pts.write = none := by rw [replaceTables_pts]; rfl
  have r := reacts_completeTableWrite t s.begun
  rw [perform]
  generalize replaceTables t (moveMark t s.begun) = u at hw r ⊢
  generalize completeTableWrite t s.begun = v at r ⊢
  generalize Config.reactionBound = bound
  have r := r.settle bound
  exact ⟨r.kept, r.write.elim (fun e => e.trans hw) id⟩

theorem completeTableWrite_fields (t : Tables) (s : State) :
    let p := (perform (completeTableWrite t) s).pts
    p.tables = some t ∧ p.write = none ∧ p.currentArea = otherArea s.pts.currentArea
      ∧ p.areas = s.pts.areas.set (otherArea s.pts.currentArea) (some { tables := t, check := tablesCheck t })
      ∧ p.locked = s.pts.locked ∧ p.draft = s.pts.draft := by
  obtain ⟨hkept, hwrite⟩ := completeTableWrite_store t s
  have hpts := replaceTables_pts t (moveMark t s.begun)
  generalize perform (completeTableWrite t) s = v at hkept hwrite ⊢
  generalize replaceTables t (moveMark t s.begun) = u at hpts hkept
  have field {β : Type} (f : Kept → β) : f (kept v) = f (kept u) := congrArg f hkept
  refine ⟨?_, hwrite, ?_, ?_, ?_, ?_⟩
  · exact (field Kept.tables).trans (congrArg Pts.tables hpts)
  · exact (field Kept.currentArea).trans (congrArg Pts.currentArea hpts)
  · exact (field Kept.areas).trans (congrArg Pts.areas hpts)
  · exact (field Kept.locked).trans ((congrArg Pts.locked hpts).trans rfl)
  · exact (field Kept.draft).trans ((congrArg Pts.draft hpts).trans rfl)

/-- Settles O25. -/
theorem storeWritesComplete : Obligations.StoreWritesComplete := by
  refine ⟨fun s => ⟨fun n p hw => ?planDone, fun h => ?planWaits⟩, fun s x => ⟨fun hw hm => ?tableDone, fun n hw => ?tableWaits,
    fun hw hf hd => ?tableMode⟩⟩
  case planDone => rw [exec_planWriteDone_due (planWrite?_eq_some.mpr hw)]; rfl
  case planWaits => exact exec_planWriteDone_notDue (planWrite?_eq_none h)
  case tableWaits => exact exec_tableWriteDone_notDue (tableWrite?_eq_none fun t ht => by simp [hw] at ht)
  case tableMode => exact exec_tableWriteDone_notDue (tableWrite?_eq_none fun t _ => by simp [hf, hd])
  case tableDone =>
    obtain ⟨htables, hwrite, harea, hareas, hlocked, hdraft⟩ := completeTableWrite_fields x s
    refine ⟨_, exec_tableWriteDone_due (tableWrite?_of_due hw hm), htables, hwrite, ?_, ?_, ?_, hlocked, hdraft⟩
    · rw [harea]
      exact otherArea_ne s.pts.currentArea
    · simp only [harea, hareas]
      exact Vector.getElem_set_self ..
    · rw [hareas]
      exact Vector.getElem_set_ne _ _ (Fin.val_ne_of_ne (otherArea_ne s.pts.currentArea))

end Sys2Proof.Machine
end

section
/-! ## The checks and clamps of a plan (R180, R181) -/

namespace Sys2Proof.Machine

/-! ### First of a list -/

section First

variable {n : Nat} {l : List (Fin n)} (hl : l.Pairwise (· < ·))
include hl

theorem find?_eq_some_of_least {p : Fin n → Bool} {i : Fin n} (hi : i ∈ l) (hp : p i = true)
    (hleast : ∀ j ∈ l, j < i → p j = false) : l.find? p = some i := by
  induction l with
  | nil => cases hi
  | cons a l ih =>
    obtain ⟨ha, hl⟩ := List.pairwise_cons.mp hl
    obtain rfl | hi := List.mem_cons.mp hi
    · exact List.find?_cons_of_pos hp
    · rw [List.find?_cons_of_neg (by simp [hleast a List.mem_cons_self (ha i hi)])]
      exact ih hl hi fun j hj => hleast j (List.mem_cons_of_mem a hj)

theorem findSome?_eq_some_of_least {β : Type} {f : Fin n → Option β} {i : Fin n} {b : β} (hi : i ∈ l) (hf : f i = some b)
    (hleast : ∀ j ∈ l, j < i → f j = none) : l.findSome? f = some b := by
  induction l with
  | nil => cases hi
  | cons a l ih =>
    obtain ⟨ha, hl⟩ := List.pairwise_cons.mp hl
    obtain rfl | hi := List.mem_cons.mp hi
    · simp [List.findSome?_cons, hf]
    · rw [List.findSome?_cons, hleast a List.mem_cons_self (ha i hi)]
      exact ih hl hi fun j hj => hleast j (List.mem_cons_of_mem a hj)

end First

theorem find?_finRange_of_least {n : Nat} {p : Fin n → Bool} {i : Fin n} (hp : p i = true) (hleast : ∀ j < i, p j = false) :
    (List.finRange n).find? p = some i :=
  find?_eq_some_of_least (List.pairwise_lt_finRange n) (List.mem_finRange i) hp fun j _ => hleast j

theorem find?_finRange_eq_none {n : Nat} {p : Fin n → Bool} : (List.finRange n).find? p = none ↔ ∀ i, p i = false := by
  simp [List.find?_eq_none]

theorem findSome?_finRange_of_least {n : Nat} {β : Type} {f : Fin n → Option β} {i : Fin n} {b : β} (hf : f i = some b)
    (hleast : ∀ j < i, f j = none) : (List.finRange n).findSome? f = some b :=
  findSome?_eq_some_of_least (List.pairwise_lt_finRange n) (List.mem_finRange i) hf fun j _ => hleast j

theorem findSome?_finRange_eq_none {n : Nat} {β : Type} {f : Fin n → Option β} :
    (List.finRange n).findSome? f = none ↔ ∀ i, f i = none := by
  simp [List.findSome?_eq_none_iff]

theorem members_pairwise (x : GroupSet) : (GroupSet.members x).Pairwise (· < ·) :=
  (List.pairwise_lt_finRange 24).filter _

/-! ### Absent groups and conflicting pairs of a set -/

variable {t : Tables} {x : GroupSet}

theorem absentIn_eq_none_iff : t.absentIn x = none ↔ ∀ g, GroupSet.has x g = true → t.present g = true := by
  simp [Tables.absentIn, mem_members]

theorem absentIn_eq_some {g : GroupId} (hg : GroupSet.has x g = true) (ha : t.present g = false)
    (hleast : ∀ h, GroupSet.has x h = true → t.present h = false → g ≤ h) : t.absentIn x = some g := by
  refine find?_eq_some_of_least (members_pairwise x) (mem_members.mpr hg) (by simp [ha]) fun h hh hlt => ?_
  by_contra hp
  exact absurd (hleast h (mem_members.mp hh) (by simpa using hp)) (not_le.mpr hlt)

/-- The pair of the set with the lower group first. -/
def Tables.clash (t : Tables) (x : GroupSet) (g h : GroupId) : Prop :=
  g < h ∧ GroupSet.has x g = true ∧ GroupSet.has x h = true ∧ t.conflict g h = true

theorem pairIn_eq_none_iff : t.pairIn x = none ↔ ∀ g h, ¬ t.clash x g h := by
  simp only [Tables.pairIn, List.findSome?_eq_none_iff, mem_members, Option.map_eq_none_iff, List.find?_eq_none, Bool.and_eq_true,
    decide_eq_true_eq, Tables.clash]
  exact ⟨fun hn g h ⟨hlt, hg, hh, hc⟩ => hn g hg h hh ⟨hlt, hc⟩, fun hn g hg h hh ⟨hlt, hc⟩ => hn g h ⟨hlt, hg, hh, hc⟩⟩

theorem pairIn_eq_some {g h : GroupId} (hp : t.clash x g h)
    (hleast : ∀ g' h', t.clash x g' h' → g < g' ∨ (g = g' ∧ h ≤ h')) : t.pairIn x = some (g, h) := by
  obtain ⟨hlt, hg, hh, hc⟩ := hp
  refine findSome?_eq_some_of_least (members_pairwise x) (mem_members.mpr hg) ?_ fun g' hg' hlt' => ?_
  · rw [Option.map_eq_some_iff]
    refine ⟨h, find?_eq_some_of_least (members_pairwise x) (mem_members.mpr hh) (by simp [hlt, hc]) fun h' hh' hlt' => ?_, rfl⟩
    by_contra hn
    simp only [Bool.not_eq_false, Bool.and_eq_true, decide_eq_true_eq] at hn
    obtain h1 | ⟨-, h1⟩ := hleast g h' ⟨hn.1, hg, mem_members.mp hh', hn.2⟩
    · exact lt_irrefl g h1
    · exact absurd h1 (not_le.mpr hlt')
  · rw [Option.map_eq_none_iff, List.find?_eq_none]
    intro h' hh' hn
    simp only [Bool.and_eq_true, decide_eq_true_eq] at hn
    obtain h1 | ⟨h1, -⟩ := hleast g' h' ⟨hn.1, mem_members.mp hg', mem_members.mp hh', hn.2⟩
    · exact lt_asymm h1 hlt'
    · exact absurd hlt' (by simp [h1])

theorem exists_pairIn (h : ∃ g h, t.clash x g h) : (t.pairIn x).isSome = true := by
  by_contra hn
  obtain ⟨g, h, hp⟩ := h
  exact pairIn_eq_none_iff.mp (by simpa using hn) g h hp

end Sys2Proof.Machine
end

section
/-! ### The whole-plan check (R181)

Its six steps by name, and what each says: it names the first item that fails it, and passes when none does. -/

namespace Sys2Proof.Machine

variable (t : Tables) (p : Plan)

/-- A group of a stage is absent. -/
def absentStep : Option Denial :=
  stageIds.findSome? fun k => (t.absentIn p.stages[k]).map fun g =>
    { status := .invalid, items := byte1 (number k) ++ byte1 (number g) }

/-- Two groups of a stage conflict. -/
def conflictStep : Option Denial :=
  stageIds.findSome? fun k => (t.pairIn p.stages[k]).map fun x =>
    { status := .conflict, items := byte1 (number k) ++ byte1 (number x.1) ++ byte1 (number x.2) }

/-- The stage of an entry holds no group. -/
def emptyStep : Option Denial :=
  ((p.sequence.entries.zipIdx 1).find? fun e => p.stages[e.1.stage] = 0).map fun e =>
    { status := .invalid, items := byte1 e.2 }

/-- A group listed by a detector is absent. -/
def listedStep : Option Denial :=
  detIds.findSome? fun d => (t.absentIn (p.det d).groups).map fun g =>
    { status := .invalid, items := byte1 (number d) ++ byte1 (number g) }

/-- The tram group of a present approach is no present TRAM group. -/
def tramStep : Option Denial :=
  (approachIds.find? fun a => p.priority[a].present && !t.tramFit p.priority[a]).map fun a =>
    { status := .invalid, items := byte1 (number a) }

/-- The priority stage of a present approach does not hold its tram group. -/
def outsideStep : Option Denial :=
  (approachIds.find? fun a =>
    p.priority[a].present && !GroupSet.has p.stages[p.priority[a].priorityStage] p.priority[a].tramGroup).map fun a =>
      { status := .invalid, items := byte1 (number a) }

theorem wholePlanCheck_eq : wholePlanCheck t p =
    (absentStep t p).or ((conflictStep t p).or ((emptyStep p).or ((listedStep t p).or ((tramStep t p).or (outsideStep p))))) := by
  have orElse {α : Type} (a b : Option α) : (a <|> b) = a.or b := by cases a <;> rfl
  simp only [wholePlanCheck, absentStep, conflictStep, emptyStep, listedStep, tramStep, outsideStep, orElse]

variable {t p}

/-- A step over things that each have a set of groups names the first that holds an absent group, and the lowest such group. -/
theorem firstAbsent_eq_some {n : Nat} {sets : Fin n → GroupSet} {d : Fin n → GroupId → Denial} {k : Fin n} {g : GroupId}
    (hg : GroupSet.has (sets k) g = true ∧ t.present g = false)
    (hleast : ∀ k' g', GroupSet.has (sets k') g' = true ∧ t.present g' = false → k < k' ∨ (k = k' ∧ g ≤ g')) :
    ((List.finRange n).findSome? fun k => (t.absentIn (sets k)).map (d k)) = some (d k g) := by
  refine findSome?_finRange_of_least (i := k) ?_ fun k' hk => ?_
  · rw [absentIn_eq_some hg.1 hg.2 fun h hh hp => ?_, Option.map_some]
    exact (hleast k h ⟨hh, hp⟩).resolve_left (lt_irrefl k) |>.2
  · refine Option.map_eq_none_iff.mpr (absentIn_eq_none_iff.mpr fun h hh => ?_)
    by_contra hp
    obtain hlt | ⟨rfl, -⟩ := hleast k' h ⟨hh, by simpa using hp⟩
    · exact lt_asymm hk hlt
    · exact lt_irrefl k hk

theorem firstAbsent_eq_none {n : Nat} {sets : Fin n → GroupSet} {d : Fin n → GroupId → Denial}
    (h : ∀ k g, ¬ (GroupSet.has (sets k) g = true ∧ t.present g = false)) :
    ((List.finRange n).findSome? fun k => (t.absentIn (sets k)).map (d k)) = none :=
  findSome?_finRange_eq_none.mpr fun k => Option.map_eq_none_iff.mpr <|
    absentIn_eq_none_iff.mpr fun g hg => by simpa [hg] using h k g

theorem conflictStep_eq_none (h : ∀ (k : StageId) g h, ¬ t.clash p.stages[k] g h) : conflictStep t p = none :=
  findSome?_finRange_eq_none.mpr fun k => Option.map_eq_none_iff.mpr (pairIn_eq_none_iff.mpr (h k))

theorem conflictStep_eq_some {k : StageId} {g h : GroupId} (hp : t.clash p.stages[k] g h)
    (hleast : ∀ (k' : StageId) g' h', t.clash p.stages[k'] g' h' → k < k' ∨ (k = k' ∧ (g < g' ∨ (g = g' ∧ h ≤ h')))) :
    conflictStep t p =
      some { status := .conflict, items := byte1 (number k) ++ byte1 (number g) ++ byte1 (number h) } := by
  refine findSome?_finRange_of_least (i := k) ?_ fun k' hk => ?_
  · rw [pairIn_eq_some hp fun g' h' hp' => ?_, Option.map_some]
    exact (hleast k g' h' hp').resolve_left (lt_irrefl k) |>.2
  · refine Option.map_eq_none_iff.mpr (pairIn_eq_none_iff.mpr fun g' h' hp' => ?_)
    obtain hlt | ⟨rfl, -⟩ := hleast k' g' h' hp'
    · exact lt_asymm hk hlt
    · exact lt_irrefl k hk

theorem emptyStep_eq_none (h : ∀ i : Nat, ¬ ∃ e : SeqEntry, p.sequence.entries[i]? = some e ∧ p.stages[e.stage] = 0) : emptyStep p = none := by
  refine Option.map_eq_none_iff.mpr (List.find?_eq_none.mpr fun ⟨e, j⟩ he hz => h (j - 1) ⟨e, ?_, by simpa using hz⟩)
  obtain ⟨hj, hlt, he⟩ := List.mem_zipIdx he
  rw [List.getElem?_eq_getElem (by omega), ← he]

theorem emptyStep_eq_some {i : Nat} {e : SeqEntry} (he : p.sequence.entries[i]? = some e) (hz : p.stages[e.stage] = 0)
    (hleast : ∀ j, j < i → ¬ ∃ e : SeqEntry, p.sequence.entries[j]? = some e ∧ p.stages[e.stage] = 0) :
    emptyStep p = some { status := .invalid, items := byte1 (i + 1) } := by
  obtain ⟨hi, he⟩ := List.getElem?_eq_some_iff.mp he
  have : (p.sequence.entries.zipIdx 1).find? (fun e => decide (p.stages[e.1.stage] = 0)) = some (e, i + 1) := by
    refine List.find?_eq_some_iff_getElem.mpr ⟨by simpa using hz, i, by simpa using hi, ?_, fun j hj => ?_⟩
    · rw [List.getElem_zipIdx, he, Nat.add_comm]
    · have := hleast j hj
      simp only [List.getElem?_eq_getElem (hj.trans hi), Option.some.injEq, exists_eq_left'] at this
      simpa [List.getElem_zipIdx] using this
  rw [emptyStep, this]
  rfl

theorem tramFit_iff {c : AppSettings} : t.tramFit c = true ↔ t.present c.tramGroup = true ∧ t.groups[c.tramGroup].kind = .tram := by
  simp [Tables.tramFit]

/-- A step over the approaches names the first that fails it. -/
theorem approachStep_eq_some {f : ApproachId → Bool} {d : ApproachId → Denial} {a : ApproachId} (ha : f a = true)
    (hleast : ∀ b, b < a → ¬ f b = true) : (approachIds.find? f).map d = some (d a) := by
  rw [approachIds, find?_finRange_of_least ha fun b hb => by simpa using hleast b hb, Option.map_some]

theorem approachStep_eq_none {f : ApproachId → Bool} {d : ApproachId → Denial} (h : ∀ a, ¬ f a = true) :
    (approachIds.find? f).map d = none :=
  Option.map_eq_none_iff.mpr (find?_finRange_eq_none.mpr fun a => by simpa using h a)

theorem tramUnfit_iff {c : AppSettings} : (c.present && !t.tramFit c) = true ↔
    c.present = true ∧ ¬ (t.present c.tramGroup = true ∧ t.groups[c.tramGroup].kind = .tram) := by
  rw [Bool.and_eq_true, Bool.not_eq_true', ← Bool.not_eq_true, tramFit_iff]

/-- Settles O22. Each clause is what its step says, the steps before it having passed. -/
theorem wholePlanCheckStopsAtTheFirstFailure : Obligations.WholePlanCheckStopsAtTheFirstFailure := by
  intro t p
  have hout (a : ApproachId) : (p.priority[a].present && !GroupSet.has p.stages[p.priority[a].priorityStage] p.priority[a].tramGroup)
      = true ↔ p.priority[a].present = true ∧ GroupSet.has p.stages[p.priority[a].priorityStage] p.priority[a].tramGroup = false := by
    simp
  refine ⟨fun k g h hleast => ?_, fun h1 => ⟨fun k g h hp hleast => ?_, fun h2 => ⟨fun i ⟨e, he, hz⟩ hleast => ?_, fun h3 =>
    ⟨fun d g h hleast => ?_, fun h4 => ⟨fun a ha hleast => ?_, fun h5 => ⟨fun a ha hleast => ?_, fun h6 => ?_⟩⟩⟩⟩⟩⟩
  all_goals rw [wholePlanCheck_eq]
  · have s1 : absentStep t p = some _ := firstAbsent_eq_some h hleast
    rw [s1, Option.some_or]
  all_goals have s1 : absentStep t p = none := firstAbsent_eq_none h1
  all_goals rw [s1, Option.none_or]
  · rw [conflictStep_eq_some hp hleast, Option.some_or]
  all_goals rw [conflictStep_eq_none h2, Option.none_or]
  · rw [emptyStep_eq_some he hz hleast, Option.some_or]
  all_goals rw [emptyStep_eq_none h3, Option.none_or]
  · have s4 : listedStep t p = some _ := firstAbsent_eq_some h hleast
    rw [s4, Option.some_or]
  all_goals have s4 : listedStep t p = none := firstAbsent_eq_none h4
  all_goals rw [s4, Option.none_or]
  · have s5 : tramStep t p = some _ :=
      approachStep_eq_some (tramUnfit_iff.mpr ha) fun b hb e => hleast b hb (tramUnfit_iff.mp e)
    rw [s5, Option.some_or]
  all_goals have s5 : tramStep t p = none := approachStep_eq_none fun b e => h5 b (tramUnfit_iff.mp e)
  all_goals rw [s5, Option.none_or]
  · exact approachStep_eq_some ((hout a).mpr ha) fun b hb e => hleast b hb ((hout b).mp e)
  · exact approachStep_eq_none fun b e => h6 b ((hout b).mp e)

end Sys2Proof.Machine
end

section
/-! ### The sections of a plan (R180) -/

namespace Sys2Proof.Machine

section Section

variable (tag : Byte) (c : PlanSectionArg) (s : State)

theorem takePlanSection_activeSlot (h : s.seq.activeSlot = some 0) :
    takePlanSection tag c s = s.reply 0x16 tag .activeSlot := if_pos h

variable {s} (h : s.seq.activeSlot ≠ some 0)
include h

theorem takePlanSection_noTables (ht : s.pts.tables = none) : takePlanSection tag c s = s.reply 0x16 tag .invalid := by
  simp only [takePlanSection, if_neg h, ht]

variable {x : Tables} (ht : s.pts.tables = some x)
include ht

theorem takePlanSection_denied {d : Denial} (hd : takeSection x s.pts.trial c = .error d) :
    takePlanSection tag c s = s.reply 0x16 tag d.status d.items := by
  simp only [takePlanSection, if_neg h, ht, hd]

theorem takePlanSection_taken {trial : Trial} {n : Nat} (hd : takeSection x s.pts.trial c = .ok (trial, n)) :
    takePlanSection tag c s =
      (if n = 0 then s.reply 0x16 tag .ok else s.reply 0x16 tag .clamped (byte1 n)).onPts fun p => { p with trial := trial } := by
  simp only [takePlanSection, if_neg h, ht, hd]

end Section

/-! STAGES -/

section Stages

variable {x : Tables} {trial : Trial} {v : Vector GroupSet 16}

theorem takeSection_stages_conflict (h : ∃ (k : StageId) (g h : GroupId), x.clash v[k] g h) :
    ∃ d, takeSection x trial (.stages v) = .error d ∧ d.status = .conflict := by
  obtain ⟨k, hk⟩ := h
  have hsome : (stageIds.findSome? fun k => (x.pairIn v[k]).map fun p => (k, p)).isSome = true := by
    rw [List.findSome?_isSome_iff]
    exact ⟨k, List.mem_finRange k, by simpa using exists_pairIn hk⟩
  obtain ⟨⟨k, p⟩, hp⟩ := Option.isSome_iff_exists.mp hsome
  exact ⟨_, by simp only [takeSection, hp]; rfl, rfl⟩

variable (h : ∀ (k : StageId) (g h : GroupId), ¬ x.clash v[k] g h)
include h

theorem stages_noPair : (stageIds.findSome? fun k => (x.pairIn v[k]).map fun p => (k, p)) = none :=
  findSome?_finRange_eq_none.mpr fun k => Option.map_eq_none_iff.mpr (pairIn_eq_none_iff.mpr (h k))

theorem takeSection_stages_absent (ha : ∃ (k : StageId) (g : GroupId), GroupSet.has v[k] g = true ∧ x.present g = false) :
    ∃ d, takeSection x trial (.stages v) = .error d ∧ d.status = .invalid := by
  obtain ⟨k, g, hg, hp⟩ := ha
  have hsome : (stageIds.find? fun k => (x.absentIn v[k]).isSome).isSome = true := by
    rw [List.find?_isSome]
    refine ⟨k, List.mem_finRange k, ?_⟩
    by_contra hn
    have := absentIn_eq_none_iff.mp (by simpa using hn) g hg
    simp [hp] at this
  obtain ⟨k, hk⟩ := Option.isSome_iff_exists.mp hsome
  exact ⟨_, by simp only [takeSection, stages_noPair h, hk]; rfl, rfl⟩

theorem takeSection_stages_taken (ha : ∀ (k : StageId) (g : GroupId), GroupSet.has v[k] g = true → x.present g = true) :
    takeSection x trial (.stages v) = .ok ({ trial with stages := some v }, 0) := by
  have hnone : (stageIds.find? fun k => (x.absentIn v[k]).isSome) = none :=
    find?_finRange_eq_none.mpr fun k => by rw [absentIn_eq_none_iff.mpr (ha k)]; rfl
  simp only [takeSection, stages_noPair h, hnone]

end Stages

/-- Settles O19. -/
theorem planSectionIsTakenWholeOrRefused : Obligations.PlanSectionIsTakenWholeOrRefused := by
  refine ⟨fun tag c s => ⟨fun h => ?active, fun h ht => ?noTables, fun x h ht => ⟨fun d hd => ?denied, fun trial hd => ?ok,
    fun trial n hd => ?clamped⟩⟩, fun x trial v => ⟨fun ⟨k, g, h, hp⟩ => ?conflict, fun hn => ⟨fun ha => ?absent, fun ha => ?taken⟩⟩⟩
  case active => rw [exec_planSection, takePlanSection_activeSlot tag c s.begun h]
  case noTables => rw [exec_planSection, takePlanSection_noTables (s := s.begun) tag c h ht]
  case denied => rw [exec_planSection, takePlanSection_denied (s := s.begun) tag c h ht hd]
  case ok =>
    rw [exec_planSection, takePlanSection_taken (s := s.begun) tag c h ht hd]
    rfl
  case clamped =>
    rw [exec_planSection, takePlanSection_taken (s := s.begun) tag c h ht hd, if_neg n.succ_ne_zero]
    rfl
  case conflict => exact takeSection_stages_conflict ⟨k, g, h, hp⟩
  case absent => exact takeSection_stages_absent (fun k g h ⟨hlt, hg, hh, hc⟩ => by simp [hn k g h hlt hg hh] at hc) ha
  case taken => exact takeSection_stages_taken (fun k g h ⟨hlt, hg, hh, hc⟩ => by simp [hn k g h hlt hg hh] at hc) ha

/-! GROUP_TIMES -/

theorem clampAll_getElem {α : Type} {n : Nat} (f : Fin n → α → α × Nat) (v : Vector α n) (i : Fin n) :
    (clampAll f v).1[i] = (f i v[i]).1 := by simp [clampAll]

theorem clampAll_count {α : Type} {n : Nat} (f : Fin n → α → α × Nat) (v : Vector α n) :
    (clampAll f v).2 = ((List.finRange n).map fun i => (f i v[i]).2).sum := rfl

theorem clampTimes_fields (floor : Nat) (t : GroupTimes) :
    let w := (clampTimes floor t).1
    w.ming = max (min t.ming 600) floor ∧ w.maxg = min (max t.maxg w.ming) 1200 ∧ w.gap = min t.gap 100
      ∧ w.maxwait = (if t.maxwait = 0 then 0 else min (max t.maxwait 100) 3000) ∧ w.recallOn = t.recallOn := by
  simp [clampTimes, clampTo, clampNonzero]

/-- Settles O20. The floor of the statement is `Tables.floor` written out. -/
theorem groupTimesAreClamped : Obligations.GroupTimesAreClamped := by
  intro x trial v
  refine ⟨⟨_, _, rfl, fun i g hg => ?_, ?_⟩, ⟨_, _, rfl, fun i g hg => ?_, ?_⟩⟩
  · obtain rfl : g = i.castLE (by decide : 12 ≤ 24) := Fin.ext (by simpa using hg)
    rw [clampTimesA, clampAll_getElem]
    exact clampTimes_fields (x.floor _) v[i]
  · rw [clampTimesA, clampAll_count]
    simp only [clampAll_getElem, clampTimes, changedBy]
  · obtain rfl : g = i.natAdd 12 := Fin.ext hg
    rw [clampTimesB, clampAll_getElem]
    exact clampTimes_fields (x.floor _) v[i]
  · rw [clampTimesB, clampAll_count]
    simp only [clampAll_getElem, clampTimes, changedBy]

end Sys2Proof.Machine
end

section
/-! ### The sections with numbers to read (R180) -/

namespace Sys2Proof.Machine

theorem numbered_eq_some_iff {n k : Nat} {i : Fin n} : numbered n k = some i ↔ number i = k := by
  unfold numbered number
  split
  · rw [Option.some.injEq, Fin.ext_iff]
    simp only
    omega
  · simp only [reduceCtorEq, false_iff]
    omega

theorem numbered_eq_none_iff {n k : Nat} : numbered n k = none ↔ k = 0 ∨ n < k := by
  unfold numbered
  split <;> simp <;> omega

/-! Reading every item of a list -/

theorem mapM_eq_none_iff {α β : Type} {f : α → Option β} {l : List α} : l.mapM f = none ↔ ∃ a ∈ l, f a = none := by
  induction l with
  | nil => simp
  | cons a l ih =>
    rw [List.mapM_cons]
    cases h : f a with
    | none => simp [h]
    | some b => cases h' : l.mapM f <;> simp_all

theorem mapM_eq_some_iff {α β : Type} {f : α → Option β} {l : List α} {m : List β} :
    l.mapM f = some m ↔ l.map f = m.map some := by
  induction l generalizing m with
  | nil => cases m <;> simp
  | cons a l ih =>
    rw [List.mapM_cons]
    cases m with
    | nil => cases h : f a <;> cases h' : l.mapM f <;> simp
    | cons b m =>
      rw [List.map_cons, List.map_cons, List.cons.injEq, ← ih]
      cases h : f a <;> cases h' : l.mapM f <;> simp

section ReadAll

variable {α β : Type} {n : Nat} {f : α → Option β} {v : Vector α n}

theorem readAll_toList : (readAll f v).map (·.toList) = v.toList.mapM f := by
  calc
    _ = (Vector.toArray <$> v.mapM f).map Array.toList := by rw [readAll]; cases v.mapM f <;> rfl
    _ = (List.toArray <$> v.toList.mapM f).map Array.toList := by rw [Vector.toArray_mapM, Array.mapM_eq_mapM_toList]; rfl
    _ = v.toList.mapM f := by cases v.toList.mapM f <;> rfl

theorem readAll_eq_none_iff : readAll f v = none ↔ ∃ i : Fin n, f v[i] = none := by
  rw [← Option.map_eq_none_iff (f := (·.toList)), readAll_toList, mapM_eq_none_iff]
  constructor
  · rintro ⟨a, ha, hf⟩
    obtain ⟨i, hi, rfl⟩ := List.mem_iff_getElem.mp ha
    exact ⟨⟨i, by simpa using hi⟩, by simpa using hf⟩
  · rintro ⟨i, hf⟩
    exact ⟨v[i], by simp, hf⟩

theorem readAll_getElem {w : Vector β n} (h : readAll f v = some w) (i : Fin n) : f v[i] = some w[i] := by
  have hl : v.toList.mapM f = some w.toList := by rw [← readAll_toList, h]; rfl
  have := congrArg (·[i.val]?) (mapM_eq_some_iff.mp hl)
  simpa using this

theorem exists_readAll (h : ¬ ∃ i : Fin n, f v[i] = none) : ∃ w, readAll f v = some w ∧ ∀ i : Fin n, f v[i] = some w[i] := by
  cases hr : readAll f v with
  | none => exact absurd (readAll_eq_none_iff.mp hr) h
  | some w => exact ⟨w, rfl, readAll_getElem hr⟩

end ReadAll

/-! SEQUENCE -/

theorem readSequence_eq_none {q : RawSequence} (h : (q.count = 0 ∨ 16 < q.count) ∨ q.entries.length < q.count
    ∨ (q.startStage = 0 ∨ 16 < q.startStage) ∨ ∃ e ∈ q.entries.take q.count, e.stage = 0 ∨ 16 < e.stage) :
    readSequence q = none := by
  unfold readSequence
  split
  · obtain h | h | h | ⟨e, he, h⟩ := h
    · omega
    · omega
    · rw [show stageNumbered q.startStage = none from numbered_eq_none h]
      cases (q.entries.take q.count).mapM (m := Option) _ <;> rfl
    · rw [mapM_eq_none_iff.mpr ⟨e, he, by rw [stageNumbered, numbered_eq_none h]; rfl⟩]
      rfl
  · rfl

theorem readSequence_eq_some {q : RawSequence} (h : ¬ ((q.count = 0 ∨ 16 < q.count) ∨ q.entries.length < q.count
    ∨ (q.startStage = 0 ∨ 16 < q.startStage) ∨ ∃ e ∈ q.entries.take q.count, e.stage = 0 ∨ 16 < e.stage)) :
    ∃ w, readSequence q = some w
      ∧ w.entries.map (fun e => (number e.stage, e.always)) = (q.entries.take q.count).map (fun e => (e.stage, e.always))
      ∧ w.mode = q.mode ∧ number w.startStage = q.startStage ∧ w.resumeMin = q.resumeMin := by
  simp only [not_or, not_exists, not_and] at h
  obtain ⟨hcount, hlen, hstart, hentries⟩ := h
  let f (e : RawEntry) : Option SeqEntry := (stageNumbered e.stage).map fun k => { stage := k, always := e.always }
  have hf {e : RawEntry} {x : SeqEntry} (h : f e = some x) : (number x.stage, x.always) = (e.stage, e.always) := by
    obtain ⟨k, hk, rfl⟩ := Option.map_eq_some_iff.mp h
    rw [← numbered_eq_some_iff.mp hk]
  obtain ⟨start, hs⟩ := Option.ne_none_iff_exists'.mp fun e => not_or.mpr hstart (numbered_eq_none_iff.mp e)
  obtain ⟨entries, he⟩ := Option.ne_none_iff_exists'.mp fun (e : (q.entries.take q.count).mapM f = none) => by
    obtain ⟨x, hx, hn⟩ := mapM_eq_none_iff.mp e
    exact not_or.mpr (hentries x hx) (numbered_eq_none_iff.mp (Option.map_eq_none_iff.mp hn))
  refine ⟨{ entries, mode := q.mode, startStage := start, resumeMin := q.resumeMin }, ?_, ?_, rfl,
    numbered_eq_some_iff.mp hs, rfl⟩
  · have hs : stageNumbered q.startStage = some start := hs
    unfold readSequence
    rw [if_pos (by omega), show (q.entries.take q.count).mapM (m := Option) _ = some entries from he, hs]
    rfl
  · have hm := mapM_eq_some_iff.mp he
    dsimp only
    refine List.ext_getElem (by simpa using (congrArg List.length hm).symm) fun i h1 h2 => ?_
    rw [List.length_map] at h1 h2
    have := congrArg (·[i]?) hm
    simp only [List.getElem?_map, List.getElem?_eq_getElem h1, List.getElem?_eq_getElem h2, Option.map_some, Option.some.injEq]
      at this
    rw [List.getElem_map, List.getElem_map, hf this]

theorem takeSection_sequence_range {x : Tables} {trial : Trial} {q : RawSequence} (h : readSequence q = none) :
    takeSection x trial (.sequence q) = .error { status := .range } := by
  simp only [takeSection, h]

theorem takeSection_sequence_taken {x : Tables} {trial : Trial} {q : RawSequence} {w : SeqSection} (h : readSequence q = some w) :
    takeSection x trial (.sequence q) = .ok ({ trial with sequence := some (clampSequence w).1 }, (clampSequence w).2) := by
  simp only [takeSection, h]

theorem clampSequence_count (w : SeqSection) : (clampSequence w).2 = if w.resumeMin ≤ 200 then 0 else 1 := by
  simp only [clampSequence, changedBy, clampTo]
  exact if_congr (by omega) rfl rfl

/-! DETECTORS -/

theorem readDetector_eq_none_iff {d : RawDetector} : readDetector d = none ↔ d.approach = 0 ∨ 4 < d.approach := by
  rw [readDetector, Option.map_eq_none_iff, approachNumbered, numbered_eq_none_iff]

/-- The settings read are those given, with the approach named by its number. -/
theorem readDetector_eq_some {d : RawDetector} {c : DetSettings} (h : readDetector d = some c) :
    c.kind = d.kind ∧ c.groups = d.groups ∧ number c.approach = d.approach ∧ c.faultMode = d.faultMode
      ∧ c.stuckOn = d.stuckOn ∧ c.stuckOff = d.stuckOff ∧ c.ringLength = d.ringLength ∧ c.edgeReporting = d.edgeReporting := by
  obtain ⟨a, ha, rfl⟩ := Option.map_eq_some_iff.mp h
  exact ⟨rfl, rfl, numbered_eq_some_iff.mp ha, rfl, rfl, rfl, rfl, rfl⟩

theorem readsGroups_iff {c : DetSettings} : c.readsGroups = true ↔
    c.kind = .demand ∨ c.kind = .extend ∨ c.kind = .demandExtend ∨ c.kind = .button := by
  unfold DetSettings.readsGroups
  cases c.kind <;> decide

theorem detectorFits_eq_false_iff {t : Tables} {c : DetSettings} : detectorFits t c = false ↔
    (c.kind = .demand ∨ c.kind = .extend ∨ c.kind = .demandExtend ∨ c.kind = .button)
      ∧ (GroupSet.size c.groups = 0 ∨ 3 < GroupSet.size c.groups
        ∨ ∃ g, GroupSet.has c.groups g = true ∧ t.present g = false) := by
  have habsent : (t.absentIn c.groups).isNone = false ↔ ∃ g, GroupSet.has c.groups g = true ∧ t.present g = false := by
    rw [← Bool.not_eq_true, Option.isNone_iff_eq_none, absentIn_eq_none_iff]
    simp
  rw [← readsGroups_iff, ← habsent]
  simp only [detectorFits, Bool.or_eq_false_iff, Bool.not_eq_false', Bool.and_eq_false_iff, decide_eq_false_iff_not]
  rw [← or_assoc]
  exact and_congr_right fun _ => or_congr_left (by omega)

theorem detectorUnfit_eq_none {t : Tables} {base : Nat} {v : Vector DetSettings 16} (h : ∀ i : Fin 16, detectorFits t v[i] ≠ false) :
    detectorUnfit t base v = none :=
  Option.map_eq_none_iff.mpr (find?_finRange_eq_none.mpr fun i => by simpa using h i)

theorem detectorUnfit_eq_some {t : Tables} {base : Nat} {v : Vector DetSettings 16} {i : Fin 16} (hi : detectorFits t v[i] = false)
    (hleast : ∀ j, j < i → detectorFits t v[j] ≠ false) :
    detectorUnfit t base v = some { status := .invalid, items := byte1 (base + number i) } := by
  rw [detectorUnfit, find?_finRange_of_least (i := i) (by simpa using hi) fun j hj => by simpa using hleast j hj, Option.map_some]

section Detectors

variable {x : Tables} {trial : Trial} {v : Vector RawDetector 16}

theorem takeSection_detectors_range (h : readAll readDetector v = none) :
    takeSection x trial (.detectorsA v) = .error { status := .range }
      ∧ takeSection x trial (.detectorsB v) = .error { status := .range } := by
  simp only [takeSection, h, and_self]

variable {w : Vector DetSettings 16} (h : readAll readDetector v = some w)
include h

theorem takeSection_detectors_unfit {i : Fin 16} (hi : detectorFits x w[i] = false)
    (hleast : ∀ j, j < i → detectorFits x w[j] ≠ false) :
    takeSection x trial (.detectorsA v) = .error { status := .invalid, items := byte1 (i.val + 1) }
      ∧ takeSection x trial (.detectorsB v) = .error { status := .invalid, items := byte1 (i.val + 17) } := by
  simp only [takeSection, h, detectorUnfit_eq_some hi hleast, number]
  exact ⟨by rw [Nat.zero_add], by rw [Nat.add_comm 16, Nat.add_assoc]⟩

theorem takeSection_detectors_taken (hfit : ∀ i : Fin 16, detectorFits x w[i] ≠ false) :
    takeSection x trial (.detectorsA v)
        = .ok ({ trial with detsA := some (clampDetectors w).1 }, (clampDetectors w).2)
      ∧ takeSection x trial (.detectorsB v)
        = .ok ({ trial with detsB := some (clampDetectors w).1 }, (clampDetectors w).2) := by
  simp only [takeSection, h, detectorUnfit_eq_none hfit, and_self]

end Detectors

end Sys2Proof.Machine
end

section
/-! PRIORITY, and the sections together -/

namespace Sys2Proof.Machine

theorem readApproach_eq_none_iff {d : RawApproach} : readApproach d = none ↔
    (d.tramGroup = 0 ∨ 24 < d.tramGroup) ∨ (d.priorityStage = 0 ∨ 16 < d.priorityStage) := by
  rw [← numbered_eq_none_iff, ← numbered_eq_none_iff, readApproach, groupNumbered, stageNumbered]
  cases numbered 24 d.tramGroup <;> cases numbered 16 d.priorityStage <;> simp

/-- The settings read are those given, with the group and the stage named by their numbers. -/
theorem readApproach_eq_some {d : RawApproach} {c : AppSettings} (h : readApproach d = some c) :
    number c.tramGroup = d.tramGroup ∧ number c.priorityStage = d.priorityStage ∧ c.present = d.present ∧ c.run = d.run
      ∧ c.ext = d.ext ∧ c.tmax = d.tmax ∧ c.recovery = d.recovery ∧ c.checkinGuard = d.checkinGuard := by
  rw [readApproach, groupNumbered, stageNumbered] at h
  cases hg : numbered 24 d.tramGroup with
  | none => rw [hg] at h; cases h
  | some g =>
    cases hk : numbered 16 d.priorityStage with
    | none => rw [hg, hk] at h; cases h
    | some k =>
      rw [hg, hk] at h
      obtain rfl := Option.some.inj h
      exact ⟨numbered_eq_some_iff.mp hg, numbered_eq_some_iff.mp hk, rfl, rfl, rfl, rfl, rfl, rfl⟩

theorem clampApproach_fields (c : AppSettings) :
    let w := (clampApproach c).1
    w.present = c.present ∧ w.tramGroup = c.tramGroup ∧ w.priorityStage = c.priorityStage ∧ w.run = min c.run 1200
      ∧ w.ext = min c.ext 300 ∧ w.tmax = min (max c.tmax 100) 3000 ∧ w.recovery = min c.recovery 1200
      ∧ w.checkinGuard = min c.checkinGuard 100 := by
  simp [clampApproach, clampTo]

theorem number_injective {n : Nat} {i j : Fin n} (h : number i = number j) : i = j := Fin.ext (Nat.succ.inj h)

section Priority

variable {x : Tables} {trial : Trial} {v : Vector RawApproach 4}

theorem takeSection_priority_range (h : readAll readApproach v = none) :
    takeSection x trial (.priority v) = .error { status := .range } := by
  simp only [takeSection, h]

variable {w : Vector AppSettings 4} (h : readAll readApproach v = some w)
include h

/-- A present approach is unfit when no present TRAM group bears the number given. -/
theorem approachUnfit_iff (a : ApproachId) : (w[a].present && !x.tramFit w[a]) = true ↔
    v[a].present = true ∧ ∀ g : GroupId, number g = v[a].tramGroup → x.present g = true → x.groups[g].kind ≠ .tram := by
  obtain ⟨htram, -, hpresent, -⟩ := readApproach_eq_some (readAll_getElem h a)
  rw [tramUnfit_iff, ← hpresent, ← htram, not_and]
  refine and_congr_right fun _ => ⟨fun hn g hg hp => ?_, fun hn => hn _ rfl⟩
  obtain rfl := number_injective hg
  exact hn hp

theorem takeSection_priority_unfit {a : ApproachId} (ha : (w[a].present && !x.tramFit w[a]) = true)
    (hleast : ∀ b : ApproachId, b < a → ¬ (w[b].present && !x.tramFit w[b]) = true) :
    takeSection x trial (.priority v) = .error { status := .invalid, items := byte1 (number a) } := by
  have hfind : (approachIds.find? fun a => w[a].present && !x.tramFit w[a]) = some a :=
    find?_finRange_of_least ha fun b hb => by simpa using hleast b hb
  simp only [takeSection, h, hfind]

theorem takeSection_priority_taken (hfit : ∀ a : ApproachId, ¬ (w[a].present && !x.tramFit w[a]) = true) :
    takeSection x trial (.priority v) = .ok ({ trial with priority := some (clampPriority w).1 }, (clampPriority w).2) := by
  have hfind : (approachIds.find? fun a => w[a].present && !x.tramFit w[a]) = none :=
    find?_finRange_eq_none.mpr fun a => by simpa using hfit a
  simp only [takeSection, h, hfind]

end Priority

/-- What is written of a half of the detectors. -/
theorem clampDetectors_written {v : Vector RawDetector 16} {w : Vector DetSettings 16} (h : readAll readDetector v = some w) :
    (∀ i : Fin 16, let c := (clampDetectors w).1[i]
      c.kind = v[i].kind ∧ c.groups = v[i].groups ∧ number c.approach = v[i].approach ∧ c.faultMode = v[i].faultMode
        ∧ c.edgeReporting = v[i].edgeReporting
        ∧ c.stuckOn = (if v[i].stuckOn = 0 then 0 else min (max v[i].stuckOn 600) 6000)
        ∧ c.stuckOff = (if v[i].stuckOff = 0 then 0 else min (max v[i].stuckOff 3000) 36000)
        ∧ c.ringLength = min (max v[i].ringLength 2) 16)
      ∧ (clampDetectors w).2 = ((List.finRange 16).map fun i =>
          changedBy v[i].stuckOn (clampDetectors w).1[i].stuckOn + changedBy v[i].stuckOff (clampDetectors w).1[i].stuckOff
            + changedBy v[i].ringLength (clampDetectors w).1[i].ringLength).sum := by
  refine ⟨fun i => ?_, congrArg List.sum (List.map_congr_left fun i _ => ?_)⟩
  all_goals obtain ⟨hkind, hgroups, happ, hmode, hon, hoff, hring, hedge⟩ := readDetector_eq_some (readAll_getElem h i)
  · rw [clampDetectors, clampAll_getElem, ← hkind, ← hgroups, ← happ, ← hmode, ← hon, ← hoff, ← hring, ← hedge]
    exact ⟨rfl, rfl, rfl, rfl, rfl, rfl, rfl, rfl⟩
  · rw [clampDetectors, clampAll_getElem, ← hon, ← hoff, ← hring]
    rfl

theorem clampPriority_written {v : Vector RawApproach 4} {w : Vector AppSettings 4} (h : readAll readApproach v = some w) :
    (∀ a : ApproachId, let c := (clampPriority w).1[a]
      c.present = v[a].present ∧ number c.tramGroup = v[a].tramGroup ∧ number c.priorityStage = v[a].priorityStage
        ∧ c.run = min v[a].run 1200 ∧ c.ext = min v[a].ext 300 ∧ c.tmax = min (max v[a].tmax 100) 3000
        ∧ c.recovery = min v[a].recovery 1200 ∧ c.checkinGuard = min v[a].checkinGuard 100)
      ∧ (clampPriority w).2 = ((List.finRange 4).map fun a =>
          changedBy v[a].run (clampPriority w).1[a].run + changedBy v[a].ext (clampPriority w).1[a].ext
            + changedBy v[a].tmax (clampPriority w).1[a].tmax + changedBy v[a].recovery (clampPriority w).1[a].recovery
            + changedBy v[a].checkinGuard (clampPriority w).1[a].checkinGuard).sum := by
  refine ⟨fun a => ?_, congrArg List.sum (List.map_congr_left fun a _ => ?_)⟩
  all_goals
    obtain ⟨htram, hstage, hpresent, hrun, hext, htmax, hrecovery, hguard⟩ := readApproach_eq_some (readAll_getElem h a)
  · rw [clampPriority, clampAll_getElem, ← htram, ← hstage, ← hpresent, ← hrun, ← hext, ← htmax, ← hrecovery, ← hguard]
    obtain ⟨hp, hg, hk, hrest⟩ := clampApproach_fields w[a]
    exact ⟨hp, congrArg number hg, congrArg number hk, hrest⟩
  · rw [clampPriority, clampAll_getElem, ← hrun, ← hext, ← htmax, ← hrecovery, ← hguard]
    rfl

/-- Settles O21. A section is refused RANGE when a number of it cannot be read, and then named or clamped as it was read. -/
theorem planSectionsAreCheckedAndClamped : Obligations.PlanSectionsAreCheckedAndClamped := by
  intro x trial
  refine ⟨fun q => ⟨fun hw => takeSection_sequence_range (readSequence_eq_none hw), fun hw => ?sequence⟩,
    fun v => ⟨fun hw => ?detectorsRange, fun hw => ?detectors⟩, fun v => ⟨fun hw => ?priorityRange, fun hw => ?priority⟩⟩
  case sequence =>
    obtain ⟨w, hr, hentries, hmode, hstart, hresume⟩ := readSequence_eq_some hw
    refine ⟨(clampSequence w).1, (takeSection_sequence_taken hr).trans ?_, hentries, hmode, hstart, ?_⟩
    · rw [clampSequence_count, hresume]
    · simp [clampSequence, clampTo, hresume]
  case detectorsRange =>
    obtain ⟨i, hi⟩ := hw
    exact takeSection_detectors_range (readAll_eq_none_iff.mpr ⟨i, readDetector_eq_none_iff.mpr hi⟩)
  case detectors =>
    obtain ⟨w, hr, hread⟩ := exists_readAll fun ⟨i, hi⟩ => hw ⟨i, readDetector_eq_none_iff.mp hi⟩
    have hfit (i : Fin 16) : detectorFits x w[i] = false ↔
        (v[i].kind = .demand ∨ v[i].kind = .extend ∨ v[i].kind = .demandExtend ∨ v[i].kind = .button)
          ∧ (GroupSet.size v[i].groups = 0 ∨ 3 < GroupSet.size v[i].groups
            ∨ ∃ g, GroupSet.has v[i].groups g = true ∧ x.present g = false) := by
      obtain ⟨hkind, hgroups, -⟩ := readDetector_eq_some (hread i)
      rw [detectorFits_eq_false_iff, hkind, hgroups]
    refine ⟨fun i hi hleast => takeSection_detectors_unfit hr ((hfit i).mpr hi) fun j hj e => hleast j hj ((hfit j).mp e),
      fun hall => ?_⟩
    obtain ⟨hA, hB⟩ := takeSection_detectors_taken (trial := trial) hr fun i e => hall i ((hfit i).mp e)
    exact ⟨⟨_, _, hA, clampDetectors_written hr⟩, ⟨_, _, hB, clampDetectors_written hr⟩⟩
  case priorityRange =>
    obtain ⟨a, ha⟩ := hw
    exact takeSection_priority_range (readAll_eq_none_iff.mpr ⟨a, readApproach_eq_none_iff.mpr ha⟩)
  case priority =>
    obtain ⟨w, hr, -⟩ := exists_readAll fun ⟨a, ha⟩ => hw ⟨a, readApproach_eq_none_iff.mp ha⟩
    refine ⟨fun a ha hleast => takeSection_priority_unfit hr ((approachUnfit_iff hr a).mpr ha)
      fun b hb e => hleast b hb ((approachUnfit_iff hr b).mp e), fun hall => ?_⟩
    exact ⟨_, _, takeSection_priority_taken hr fun a e => hall a ((approachUnfit_iff hr a).mp e), clampPriority_written hr⟩

end Sys2Proof.Machine
end

section
/-! ## The operations on signal groups (R5 to R22)

What each operation writes into the record of its group, sends as notices and lamp commands, and leaves of the other groups. -/

namespace Sys2Proof.Machine

variable {s : State} {g : GroupId}

theorem SameOutsideGroups.groupDef {s u : State} (h : SameOutsideGroups s u) (g : GroupId) : u.groupDef g = s.groupDef g := by
  simp only [State.groupDef, h.reads.1]

theorem SameOutsideGroups.conflicts {s u : State} (h : SameOutsideGroups s u) (g : GroupId) : u.conflicts g = s.conflicts g := by
  simp only [State.conflicts, h.reads.1]

theorem SameOutsideGroups.present {s u : State} (h : SameOutsideGroups s u) (g : GroupId) : u.present g = s.present g := by
  simp only [State.present, h.groupDef g]

theorem SameOutsideGroups.kind {s u : State} (h : SameOutsideGroups s u) (g : GroupId) : u.kind g = s.kind g := by
  simp only [State.kind, h.groupDef g]

theorem SameOutsideGroups.ig {s u : State} (h : SameOutsideGroups s u) (e b : GroupId) : u.ig e b = s.ig e b := by
  simp only [State.ig, h.reads.1]

theorem SameOutsideGroups.plan? {s u : State} (h : SameOutsideGroups s u) : u.plan? = s.plan? := by
  obtain ⟨hpts, hseq, -⟩ := h.reads
  simp only [State.plan?, hpts, hseq]

theorem SameOutsideGroups.times {s u : State} (h : SameOutsideGroups s u) (g : GroupId) : u.times g = s.times g := by
  simp only [State.times, h.plan?]

theorem SameOutsideGroups.ite {s u v : State} {c : Prop} [Decidable c] (hu : c → SameOutsideGroups s u)
    (hv : ¬ c → SameOutsideGroups s v) : SameOutsideGroups s (if c then u else v) := by
  split
  · exact hu ‹_›
  · exact hv ‹_›

/-! ### Leaving OPEN -/

theorem sameOutsideGroups_enterClosed (g : GroupId) (s : State) : SameOutsideGroups s (enterClosed g s) := rfl

theorem enterClosed_grp_self (g : GroupId) (s : State) : (enterClosed g s).grp g
    = { s.grp g with state := .closed, phaseTimer := 0, mgRem := 0, gapTimer := 0, minDone := false } :=
  changeGroup_grp_self g _ s

theorem enterClosed_grp_ne {b : GroupId} (hb : b ≠ g) (s : State) : (enterClosed g s).grp b = s.grp b :=
  changeGroup_grp_ne hb _ s

theorem enterClosed_mon_ne {b : GroupId} (hb : b ≠ g) (s : State) : (enterClosed g s).mon b = s.mon b :=
  changeGroup_mon_ne hb _ s

theorem enterClosed_notices (g : GroupId) (s : State) : (enterClosed g s).notices = s.notices ++ [.closed g, .watch] := by
  simp [enterClosed, changeGroup_notices]

theorem raiseClearance_eq (e : GroupId) (s : State) : raiseClearance e s =
    (GroupSet.members (s.conflicts e)).foldl (fun u b => u.onGrp b fun r => { r with cr := max r.cr (s.ig e b) }) s := by
  unfold raiseClearance
  generalize GroupSet.members (s.conflicts e) = l
  suffices h : ∀ u, SameOutsideGroups s u → l.foldl (fun s b => s.onGrp b fun r => { r with cr := max r.cr (s.ig e b) }) u
      = l.foldl (fun u b => u.onGrp b fun r => { r with cr := max r.cr (s.ig e b) }) u from h s rfl
  induction l with
  | nil => exact fun _ _ => rfl
  | cons b l ih =>
    intro u hu
    rw [List.foldl_cons, List.foldl_cons, hu.ig]
    exact ih _ (hu.trans (sameOutsideGroups_onGrp u b _))

theorem raiseClearance_grp (e b : GroupId) (s : State) : (raiseClearance e s).grp b =
    if GroupSet.has (s.conflicts e) b = true then { s.grp b with cr := max (s.grp b).cr (s.ig e b) } else s.grp b := by
  rw [raiseClearance_eq, raise_fold (s.ig e) _ (members_nodup _)]
  simp only [mem_members]

/-- A change of group records alone: nothing else of SGE, no notice, nothing of CMON. -/
theorem raiseClearance_rest (e : GroupId) (s : State) :
    (raiseClearance e s).notices = s.notices ∧ (raiseClearance e s).cmon = s.cmon
      ∧ (raiseClearance e s).sge.lampLine = s.sge.lampLine ∧ SameOutsideGroups s (raiseClearance e s) := by
  rw [raiseClearance_eq]
  refine ⟨foldl_same (r := State.notices) (fun _ _ => by rfl) _ s, foldl_same (r := State.cmon) (fun _ _ => by rfl) _ s,
    foldl_same (r := fun u => u.sge.lampLine) (fun _ _ => by rfl) _ s,
    SameOutsideGroups.foldl _ (fun u b => sameOutsideGroups_onGrp u b _) _ s⟩

/-- A group on its way out of OPEN, before its change of state: what it held is gone, the leaving notice is sent, and the
clearance of the groups that conflict with it raised. -/
def leaving (g : GroupId) (s : State) : State :=
  let u := (s.onGrp g fun r => { r with closePending := false, hold := false, mgRem := 0, gapTimer := 0 }).push (.left g)
  raiseClearance g (if (s.grp g).hold then u.push .retest else u)

theorem leaveOpen_eq (g : GroupId) (s : State) : leaveOpen g s =
    if (s.groupDef g).close = 0 then enterClosed g (leaving g s)
    else changeGroup g (fun r => { r with state := .closing, phaseTimer := (s.groupDef g).close, minDone := false })
      (leaving g s) := rfl

theorem sameOutsideGroups_leaving (g : GroupId) (s : State) : SameOutsideGroups s (leaving g s) := by
  unfold leaving
  refine SameOutsideGroups.trans ?_ (raiseClearance_rest g _).2.2.2
  split <;> rfl

theorem sameOutsideGroups_leaveOpen (g : GroupId) (s : State) : SameOutsideGroups s (leaveOpen g s) := by
  rw [leaveOpen_eq]
  exact SameOutsideGroups.ite (fun _ => (sameOutsideGroups_leaving g s).trans (sameOutsideGroups_enterClosed g _))
    fun _ => (sameOutsideGroups_leaving g s).trans (sameOutsideGroups_changeGroup g _ _)

theorem leaving_grp (g b : GroupId) (s : State) : (leaving g s).grp b =
    let r := if b = g then { s.grp b with closePending := false, hold := false, mgRem := 0, gapTimer := 0 } else s.grp b
    if GroupSet.has (s.conflicts g) b = true then { r with cr := max (s.grp b).cr (s.ig g b) } else r := by
  let f (r : GroupRec) : GroupRec := { r with closePending := false, hold := false, mgRem := 0, gapTimer := 0 }
  have key (u : State) (hu : u.sge = (s.onGrp g f).sge) (hpts : u.pts = s.pts) : (raiseClearance g u).grp b =
      let r := if b = g then f (s.grp b) else s.grp b
      if GroupSet.has (s.conflicts g) b = true then { r with cr := max (s.grp b).cr (s.ig g b) } else r := by
    have hgrp : u.grp b = if b = g then f (s.grp b) else s.grp b := by
      have : u.grp b = (s.onGrp g f).grp b := by simp only [State.grp, hu]
      rw [this]
      split
      · next e => rw [e, State.grp_onGrp_self]
      · next e => exact State.grp_onGrp_ne s (Ne.symm e) f
    have hcr : (u.grp b).cr = (s.grp b).cr := by rw [hgrp]; split <;> rfl
    rw [raiseClearance_grp, hcr, hgrp]
    simp only [State.conflicts, State.ig, hpts]
    rfl
  refine key _ ?_ ?_ <;> split <;> rfl

theorem leaving_grp_self (hg : GroupSet.has (s.conflicts g) g = false) : (leaving g s).grp g =
    { s.grp g with closePending := false, hold := false, mgRem := 0, gapTimer := 0 } := by
  rw [leaving_grp]
  simp [hg]

theorem leaving_grp_ne {b : GroupId} (hb : b ≠ g) : (leaving g s).grp b =
    if GroupSet.has (s.conflicts g) b = true then { s.grp b with cr := max (s.grp b).cr (s.ig g b) } else s.grp b := by
  rw [leaving_grp]
  simp [hb]

theorem leaving_cmon (g : GroupId) (s : State) : (leaving g s).cmon = s.cmon := by
  unfold leaving
  rw [(raiseClearance_rest g _).2.1]
  split <;> rfl

theorem leaving_notices (g : GroupId) (s : State) : (leaving g s).notices =
    s.notices ++ [.left g] ++ if (s.grp g).hold = true then [.retest] else [] := by
  unfold leaving
  rw [(raiseClearance_rest g _).1]
  split <;> simp

theorem leaving_lampLine (g : GroupId) (s : State) : (leaving g s).sge.lampLine = s.sge.lampLine := by
  unfold leaving
  rw [(raiseClearance_rest g _).2.2.1]
  split <;> rfl

/-- The other groups at a leaving: the clearance of those that conflict is raised. -/
theorem leaveOpen_ne {b : GroupId} (hb : b ≠ g) (s : State) :
    (leaveOpen g s).grp b = (if GroupSet.has (s.conflicts g) b = true then
        { s.grp b with cr := max (s.grp b).cr (s.ig g b) } else s.grp b)
      ∧ (leaveOpen g s).mon b = s.mon b := by
  have hmon : (leaving g s).mon b = s.mon b := by simp only [State.mon, leaving_cmon]
  rw [leaveOpen_eq]
  split
  · exact ⟨(enterClosed_grp_ne hb _).trans (leaving_grp_ne hb), (enterClosed_mon_ne hb _).trans hmon⟩
  · exact ⟨(changeGroup_grp_ne hb _ _).trans (leaving_grp_ne hb), (changeGroup_mon_ne hb _ _).trans hmon⟩

/-- The lamp command that shows a group just changed. -/
theorem lampFor_onGrp (g : GroupId) (f : GroupRec → GroupRec) (s : State) : lampFor (s.onGrp g f) g =
    { group := g
      aspect := if s.present g then aspectOf (s.kind g) (f (s.grp g)).state else .allOff
      wait := (f (s.grp g)).wait && (f (s.grp g)).state ≠ .flash && (f (s.grp g)).state ≠ .dark } := by
  simp only [lampFor, State.grp_onGrp_self]
  rfl

/-- Settles O35. -/
theorem leavingOpenRaisesClearance : Obligations.LeavingOpenRaisesClearance := by
  intro s g
  refine ⟨fun hg => ⟨fun hc => ?closing, fun hc => ?closed, fun b hb => leaveOpen_ne hb s, sameOutsideGroups_leaveOpen g s⟩,
    fun hst hpt => ?due, fun hnd => ?notDue⟩
  case closing =>
    have hself := leaving_grp_self hg
    have hout := sameOutsideGroups_leaving g s
    rw [leaveOpen_eq, if_neg hc.ne', changeGroup_grp_self, changeGroup_notices, changeGroup_lampLine, lampFor_onGrp, hself,
      leaving_notices, leaving_lampLine, hout.present, hout.kind]
    exact ⟨rfl, rfl, by simp⟩
  case closed =>
    have hself := leaving_grp_self hg
    have hout := sameOutsideGroups_leaving g s
    rw [leaveOpen_eq, if_pos hc, enterClosed_grp_self, enterClosed_notices, hself, leaving_notices]
    refine ⟨rfl, rfl, ?_⟩
    change (changeGroup g _ (leaving g s)).sge.lampLine = _
    rw [changeGroup_lampLine, lampFor_onGrp, hself, leaving_lampLine, hout.present, hout.kind]
    simp
  case due =>
    refine ⟨enterClosed g s.begun, ?_, enterClosed_grp_self g s.begun, fun h hh => ⟨enterClosed_grp_ne hh s.begun,
      enterClosed_mon_ne hh s.begun⟩, enterClosed_notices g s.begun, ?_, (sameOutsideGroups_begun s).trans (sameOutsideGroups_enterClosed g _)⟩
    · have : closingDue s.begun g = true := by
        have h1 : (s.begun.grp g).state = .closing := hst
        have h2 : (s.begun.grp g).phaseTimer = 0 := hpt
        simp [closingDue, h1, h2]
      exact congrArg (fun u => Host.Outcome.next (settle Config.reactionBound u)) (if_pos this)
    · change (changeGroup g _ s.begun).sge.lampLine = _
      rw [changeGroup_lampLine, lampFor_onGrp]
      simp
      exact ⟨rfl, rfl⟩
  case notDue =>
    have : ¬ closingDue s.begun g = true := by
      simp only [closingDue, Bool.and_eq_true, decide_eq_true_eq]
      exact hnd
    exact congrArg (fun u => Host.Outcome.next (settle Config.reactionBound u)) (if_neg this)

end Sys2Proof.Machine
end

section
/-! ### Min completion, the entry into OPEN, and the commands (R7 to R18) -/

namespace Sys2Proof.Machine

variable {s : State} {g : GroupId}

/-- An event performs its effect when it is due. -/
theorem perform_due {due : State → Bool} {f : State → State} (h : due s.begun = true) :
    perform (fun s => whenDue (due s) f s) s = settle Config.reactionBound (f s.begun) :=
  congrArg (settle Config.reactionBound) (if_pos h)

theorem perform_notDue {due : State → Bool} {f : State → State} (h : ¬ due s.begun = true) :
    perform (fun s => whenDue (due s) f s) s = settle Config.reactionBound s.begun :=
  congrArg (settle Config.reactionBound) (if_neg h)

theorem openingDue_iff : openingDue s g = true ↔ (s.grp g).state = .opening ∧ (s.grp g).phaseTimer = 0 := by
  simp [openingDue]

theorem minDue_iff : minDue s g = true ↔ (s.grp g).state = .opened ∧ (s.grp g).mgRem = 0 ∧ (s.grp g).minDone = false := by
  simp [minDue, and_assoc]

theorem extending_iff :
    extending s g = true ↔ (s.grp g).state = .opened ∧ (s.grp g).minDone = true ∧ (s.grp g).ext = .running := by
  simp [extending, and_assoc]

theorem gapDue_iff : gapDue s g = true ↔
    ((s.grp g).state = .opened ∧ (s.grp g).minDone = true ∧ (s.grp g).ext = .running)
      ∧ (s.grp g).gapTimer = 0 ∧ (s.grp g).extInput = false := by
  rw [← extending_iff]
  simp [gapDue, and_assoc]

theorem maxDue_iff : maxDue s g = true ↔
    ((s.grp g).state = .opened ∧ (s.grp g).minDone = true ∧ (s.grp g).ext = .running)
      ∧ (s.grp g).effMaxg ≤ (s.grp g).openElapsed := by
  rw [← extending_iff]
  simp [maxDue]

/-! #### Min completion -/

/-- The record of a group at its min completion, under the GAP of the plan and with or without an extending detector (R14). -/
def GroupRec.completed (extends? : Bool) (gap : Nat) (r : GroupRec) : GroupRec :=
  if r.openElapsed ≥ r.effMaxg then { r with minDone := true, ext := .maxed }
  else if !extends? || gap = 0 then { r with minDone := true, ext := .gapped }
  else { r with minDone := true, gapTimer := gap }

theorem GroupRec.completed_eq (b : Bool) (gap : Nat) (r : GroupRec) : r.completed b gap =
    if r.effMaxg ≤ r.openElapsed then { r with minDone := true, ext := .maxed }
    else if b = false ∨ gap = 0 then { r with minDone := true, ext := .gapped }
    else { r with minDone := true, gapTimer := gap } := by
  simp [GroupRec.completed]

/-- A group past its min completion, SEQ told, and a close command held not yet taken. -/
def minCompleted (g : GroupId) (s : State) : State :=
  (s.onGrp g (GroupRec.completed (s.hasExtender g) (s.times g).gap)).push .retest

theorem minComplete_eq (g : GroupId) (s : State) : minComplete g s =
    if (s.grp g).closePending = true then leaveOpen g (minCompleted g s) else minCompleted g s := rfl

theorem sameOutsideGroups_minCompleted (g : GroupId) (s : State) : SameOutsideGroups s (minCompleted g s) := rfl

theorem minCompleted_grp_self (g : GroupId) (s : State) :
    (minCompleted g s).grp g = (s.grp g).completed (s.hasExtender g) (s.times g).gap :=
  State.grp_onGrp_self s g _

theorem minCompleted_grp_ne {b : GroupId} (hb : b ≠ g) (s : State) : (minCompleted g s).grp b = s.grp b :=
  State.grp_onGrp_ne s (Ne.symm hb) _

theorem minCompleted_notices (g : GroupId) (s : State) : (minCompleted g s).notices = s.notices ++ [.retest] := rfl

/-- Settles O34. -/
theorem minCompletionAndFinalStatus : Obligations.MinCompletionAndFinalStatus := by
  intro s g
  refine ⟨fun hst hrem hmin => ?min, fun hn => ?notMin, fun hst hmin hext => ⟨fun hgap hin => ?gap, fun hn => ?notGap, fun hn => ?notMax,
    fun hmax => ?max⟩, fun hn => ⟨?noGap, ?noMax⟩⟩
  case min =>
    refine congrArg Host.Outcome.next ((perform_due (minDue_iff.mpr ⟨hst, hrem, hmin⟩)).trans ?_)
    have : minCompleted g s.begun = { s with
        sge := { s.sge with
          lampLine := [], recs := s.sge.recs.set g ((s.grp g).completed (s.hasExtender g) (s.times g).gap) }
        notices := s.notices ++ [.retest] } := rfl
    rw [minComplete_eq, this, GroupRec.completed_eq]
    rfl
  case notMin => exact congrArg Host.Outcome.next (perform_notDue fun h => hn (minDue_iff.mp h))
  case gap => exact congrArg Host.Outcome.next (perform_due (gapDue_iff.mpr ⟨⟨hst, hmin, hext⟩, hgap, hin⟩))
  case notGap =>
    refine congrArg Host.Outcome.next (perform_notDue fun h => ?_)
    obtain ⟨-, hgap, hin⟩ := gapDue_iff.mp h
    obtain h | h := hn
    · exact h.ne' hgap
    · exact Bool.noConfusion (hin.symm.trans h)
  case notMax => exact congrArg Host.Outcome.next (perform_notDue fun h => hn.not_ge (maxDue_iff.mp h).2)
  case max => exact congrArg Host.Outcome.next (perform_due (maxDue_iff.mpr ⟨⟨hst, hmin, hext⟩, hmax⟩))
  case noGap => exact congrArg Host.Outcome.next (perform_notDue fun h => hn (gapDue_iff.mp h).1)
  case noMax => exact congrArg Host.Outcome.next (perform_notDue fun h => hn (maxDue_iff.mp h).1)

/-! #### The entry into OPEN -/

/-- The effective MING and MAXG of an opening of the group as it stands (R18). -/
def openingTimes (g : GroupId) (s : State) : Nat × Nat := effectiveTimings (s.kind g) (s.times g) (s.grp g).override

/-- The record of a group that enters OPEN on the timings. -/
def GroupRec.atOpening (e : Nat × Nat) (r : GroupRec) : GroupRec :=
  { r with
    state := .opened, openPending := false, override := none, phaseTimer := 0, openElapsed := 0, mgRem := e.1
    gapTimer := 0, ext := .running, effMing := e.1, effMaxg := e.2, minDone := false }

/-- A group in OPEN with its entry noticed, and its min completion, which an effective MING of 0 brings at once, to come. -/
def entering (g : GroupId) (s : State) : State :=
  ((changeGroup g (fun r => r.atOpening (effectiveTimings (s.kind g) (s.times g) r.override)) s).push (.entered g)).push .watch

theorem enterOpen_eq (g : GroupId) (s : State) : enterOpen g s =
    if ((entering g s).grp g).effMing = 0 then minComplete g (entering g s) else entering g s := rfl

theorem entering_grp_self (g : GroupId) (s : State) : (entering g s).grp g = (s.grp g).atOpening (openingTimes g s) :=
  changeGroup_grp_self g _ s

theorem entering_grp_ne {b : GroupId} (hb : b ≠ g) (s : State) : (entering g s).grp b = s.grp b := changeGroup_grp_ne hb _ s

theorem entering_mon_ne {b : GroupId} (hb : b ≠ g) (s : State) : (entering g s).mon b = s.mon b := changeGroup_mon_ne hb _ s

theorem entering_notices (g : GroupId) (s : State) : (entering g s).notices = s.notices ++ [.entered g, .watch] := by
  simp [entering, changeGroup_notices]

theorem sameOutsideGroups_entering (g : GroupId) (s : State) : SameOutsideGroups s (entering g s) := rfl

theorem entering_lampLine (g : GroupId) (s : State) : (entering g s).sge.lampLine = s.sge.lampLine ++
    [{ group := g, aspect := if s.present g then aspectOf (s.kind g) .opened else .allOff, wait := (s.grp g).wait }] := by
  change (changeGroup g _ s).sge.lampLine = _
  rw [changeGroup_lampLine, lampFor_onGrp]
  simp [GroupRec.atOpening]

/-- A group past its entry into OPEN, and past the min completion that an effective MING of 0 brings with it. -/
def entered (g : GroupId) (s : State) : State :=
  if (openingTimes g s).1 = 0 then minCompleted g (entering g s) else entering g s

theorem sameOutsideGroups_entered (g : GroupId) (s : State) : SameOutsideGroups s (entered g s) :=
  SameOutsideGroups.ite (fun _ => (sameOutsideGroups_entering g s).trans (sameOutsideGroups_minCompleted g _))
    fun _ => sameOutsideGroups_entering g s

theorem enterOpen_eq_entered (g : GroupId) (s : State) : enterOpen g s =
    if (openingTimes g s).1 = 0 ∧ (s.grp g).closePending = true then leaveOpen g (entered g s) else entered g s := by
  have hming : ((entering g s).grp g).effMing = (openingTimes g s).1 := by rw [entering_grp_self]; rfl
  have hclose : ((entering g s).grp g).closePending = (s.grp g).closePending := by rw [entering_grp_self]; rfl
  rw [enterOpen_eq, minComplete_eq, hming, hclose, entered]
  by_cases h : (openingTimes g s).1 = 0 <;> simp [h]

theorem entered_ne {b : GroupId} (hb : b ≠ g) (s : State) :
    (entered g s).grp b = s.grp b ∧ (entered g s).mon b = s.mon b := by
  unfold entered
  split
  · exact ⟨(minCompleted_grp_ne hb _).trans (entering_grp_ne hb s), entering_mon_ne hb s⟩
  · exact ⟨entering_grp_ne hb s, entering_mon_ne hb s⟩

theorem entered_lampLine (g : GroupId) (s : State) : (entered g s).sge.lampLine = (entering g s).sge.lampLine := by
  unfold entered
  split <;> rfl

theorem SameOutsideGroups.hasExtender {s u : State} (h : SameOutsideGroups s u) (g : GroupId) :
    u.hasExtender g = s.hasExtender g := by
  unfold SameOutsideGroups at h
  rw [← h]
  rfl

theorem entered_grp_self_of_ming_zero (h : (openingTimes g s).1 = 0) : (entered g s).grp g =
    { (s.grp g).atOpening (openingTimes g s) with
      minDone := true
      ext := if (openingTimes g s).2 = 0 then .maxed
        else if s.hasExtender g = false ∨ (s.times g).gap = 0 then .gapped else .running
      gapTimer := if (openingTimes g s).2 = 0 ∨ s.hasExtender g = false ∨ (s.times g).gap = 0 then 0 else (s.times g).gap } := by
  have hout := sameOutsideGroups_entering g s
  rw [entered, if_pos h, minCompleted_grp_self, entering_grp_self, hout.hasExtender, hout.times]
  by_cases hmax : (openingTimes g s).2 = 0
  · simp [GroupRec.completed, GroupRec.atOpening, hmax]
  · by_cases hx : s.hasExtender g = false ∨ (s.times g).gap = 0
    · simp [GroupRec.completed, GroupRec.atOpening, hmax, hx]
    · simp [GroupRec.completed, GroupRec.atOpening, hmax, hx]

/-- Settles O33. -/
theorem openingExpiryEntersOpen : Obligations.OpeningExpiryEntersOpen := by
  intro s g r t ming maxg opened
  have htimes : openingTimes g s.begun = (ming, maxg) := by
    change effectiveTimings (s.kind g) (s.times g) (s.grp g).override = _
    simp only [ming, maxg, r, t]
    cases (s.grp g).override <;> rfl
  have hopened : opened = (s.grp g).atOpening (ming, maxg) := rfl
  clear_value opened ming maxg
  have hming : (openingTimes g s.begun).1 = ming := by rw [htimes]
  have hmaxg : (openingTimes g s.begun).2 = maxg := by rw [htimes]
  refine ⟨fun hst hpt => ⟨entered g s.begun, ?effect, fun hpos => ?timed, fun hzero => ?atOnce, fun h hh => entered_ne hh s.begun,
    ?lamp, (sameOutsideGroups_begun s).trans (sameOutsideGroups_entered g _)⟩, fun hn => ?notDue⟩
  case effect =>
    refine congrArg Host.Outcome.next ((perform_due (openingDue_iff.mpr ⟨hst, hpt⟩)).trans ?_)
    rw [enterOpen_eq_entered, hming]
    rfl
  case timed =>
    rw [entered, if_neg (by rw [hming]; exact hpos.ne'), entering_grp_self, entering_notices, htimes, hopened]
    exact ⟨rfl, rfl⟩
  case atOnce =>
    have hz : (openingTimes g s.begun).1 = 0 := by rw [hming, hzero]
    have hnotices : (entered g s.begun).notices = s.notices ++ [.entered g, .watch] ++ [.retest] := by
      rw [entered, if_pos hz, minCompleted_notices, entering_notices]
      rfl
    rw [entered_grp_self_of_ming_zero hz, htimes, hopened, hnotices, List.append_assoc]
    exact ⟨rfl, rfl⟩
  case lamp =>
    rw [entered_lampLine, entering_lampLine]
    rfl
  case notDue => exact congrArg Host.Outcome.next (perform_notDue fun h => hn (openingDue_iff.mp h))

end Sys2Proof.Machine
end

section
/-! ### Open and close commands, admission, and the repetition of lamp commands (R5, R7, R8, R11) -/

namespace Sys2Proof.Machine

variable {s : State} {g : GroupId}

/-! #### Commands -/

/-- Writing back the record a group has changes nothing. -/
theorem onGrp_self {f : GroupRec → GroupRec} (h : f (s.grp g) = s.grp g) : s.onGrp g f = s := by
  have hset : s.sge.recs.set g (f s.sge.recs[g]) = s.sge.recs := by
    rw [show f s.sge.recs[g] = s.sge.recs[g] from h]
    exact Vector.set_getElem_self _
  change { s with sge := { s.sge with recs := s.sge.recs.set g (f s.sge.recs[g]) } } = s
  rw [hset]

section Commands

variable {o : Option Override}

theorem commands_of_absent (hp : s.present g = false) : openCommand g o s = s ∧ closeCommand g s = s :=
  ⟨if_pos (by simp [hp]), if_pos (by simp [hp])⟩

variable (hp : s.present g = true)
include hp

theorem commands_of_dark_or_flash (h : (s.grp g).state = .dark ∨ (s.grp g).state = .flash) :
    openCommand g o s = s ∧ closeCommand g s = s := by
  rw [openCommand, closeCommand, if_neg (by simp [hp]), if_neg (by simp [hp])]
  obtain h | h := h <;> rw [h] <;> exact ⟨rfl, rfl⟩

theorem openCommand_closed (h : (s.grp g).state = .closed) :
    openCommand g o s = admitWaiting (s.onGrp g fun r => { r with openPending := true, override := o }) := by
  rw [openCommand, if_neg (by simp [hp]), h]

theorem openCommand_closing (h : (s.grp g).state = .closing) :
    openCommand g o s = s.onGrp g fun r => { r with openPending := true, override := o } := by
  rw [openCommand, if_neg (by simp [hp]), h]

theorem openCommand_opening_or_opened (h : (s.grp g).state = .opening ∨ (s.grp g).state = .opened) :
    openCommand g o s = s.onGrp g fun r => { r with closePending := false } := by
  rw [openCommand, if_neg (by simp [hp])]
  obtain h | h := h <;> rw [h]

theorem closeCommand_opened (h : (s.grp g).state = .opened) : closeCommand g s =
    if (s.grp g).mgRem > 0 then s.onGrp g fun r => { r with closePending := true }
    else if (s.grp g).minDone then leaveOpen g s
    else minComplete g (s.onGrp g fun r => { r with closePending := true }) := by
  rw [closeCommand, if_neg (by simp [hp]), h]

theorem closeCommand_opening (h : (s.grp g).state = .opening) :
    closeCommand g s = s.onGrp g fun r => { r with closePending := true } := by
  rw [closeCommand, if_neg (by simp [hp]), h]

theorem closeCommand_closed_or_closing (h : (s.grp g).state = .closed ∨ (s.grp g).state = .closing) : closeCommand g s =
    s.onGrp g fun r => if r.openPending then { r with openPending := false, override := none } else r := by
  rw [closeCommand, if_neg (by simp [hp])]
  obtain h | h := h <;> rw [h]

end Commands

theorem leaving_grp_final (g : GroupId) (s : State) :
    ((leaving g s).grp g).closePending = false ∧ ((leaving g s).grp g).ext = (s.grp g).ext := by
  rw [leaving_grp]
  dsimp only
  rw [if_pos rfl]
  split <;> exact ⟨rfl, rfl⟩

/-- A group that has left OPEN holds no close command and keeps its extension status. -/
theorem leaveOpen_grp_final (g : GroupId) (s : State) :
    ((leaveOpen g s).grp g).closePending = false ∧ ((leaveOpen g s).grp g).ext = (s.grp g).ext := by
  rw [leaveOpen_eq, ← (leaving_grp_final g s).1, ← (leaving_grp_final g s).2]
  split
  · rw [enterClosed_grp_self]
    exact ⟨rfl, rfl⟩
  · rw [changeGroup_grp_self]
    exact ⟨rfl, rfl⟩

theorem GroupRec.completed_ext (b : Bool) (gap : Nat) (r : GroupRec) : (r.completed b gap).ext =
    if r.effMaxg ≤ r.openElapsed then .maxed else if b = false ∨ gap = 0 then .gapped else r.ext := by
  rw [GroupRec.completed_eq]
  split
  · rfl
  · split <;> rfl

/-- A close command that waits for the min completion is taken with it. -/
theorem minComplete_onGrp_closePending (g : GroupId) (s : State) :
    let u := minComplete g (s.onGrp g fun r => { r with closePending := true })
    (u.grp g).closePending = false
      ∧ (u.grp g).ext = if (s.grp g).effMaxg ≤ (s.grp g).openElapsed then .maxed
          else if s.hasExtender g = false ∨ (s.times g).gap = 0 then .gapped else (s.grp g).ext := by
  have hout : SameOutsideGroups s (s.onGrp g fun r => { r with closePending := true }) := rfl
  dsimp only
  rw [minComplete_eq, if_pos (by rw [State.grp_onGrp_self]), (leaveOpen_grp_final g _).1, (leaveOpen_grp_final g _).2,
    minCompleted_grp_self, GroupRec.completed_ext, State.grp_onGrp_self, hout.hasExtender, hout.times]
  exact ⟨rfl, rfl⟩

/-- Settles O37. -/
theorem openAndCloseCommandsByState : Obligations.OpenAndCloseCommandsByState := by
  intro s g o
  refine ⟨fun hn => ?ignored, fun hp => ?present⟩
  case ignored =>
    cases hp : s.present g with
    | false => exact commands_of_absent hp
    | true => exact commands_of_dark_or_flash hp (hn.resolve_left (by simp [hp]))
  case present =>
    refine ⟨fun h => openCommand_closed hp h, fun h => openCommand_closing hp h, fun h => openCommand_opening_or_opened hp h,
      fun h hrem hmin => ?_, fun h hrem hmin => ?_, fun h hrem => ?_, fun h => closeCommand_opening hp h,
      fun h hpend => ?_, fun h hpend => ?_⟩
    · rw [closeCommand_opened hp h, if_neg (by simp [hrem]), if_pos hmin]
    · rw [closeCommand_opened hp h, if_neg (by simp [hrem]), if_neg (by simp [hmin])]
      exact ⟨rfl, minComplete_onGrp_closePending g s⟩
    · rw [closeCommand_opened hp h, if_pos hrem]
      rfl
    · have : (if (s.grp g).openPending = true then { s.grp g with openPending := false, override := none } else s.grp g)
          = { s.grp g with openPending := false, override := none } := if_pos hpend
      rw [closeCommand_closed_or_closing hp h, ← this]
      rfl
    · rw [closeCommand_closed_or_closing hp h]
      exact onGrp_self (if_neg (by simp [hpend]))

/-! #### The repetition of lamp commands -/

theorem sendLamp_lampFor (g b : GroupId) (s : State) : lampFor (sendLamp g s) b = lampFor s b := rfl

theorem sendLamp_mon (g b : GroupId) (s : State) : ((sendLamp g s).mon b).go = (s.mon b).go
    ∧ ((sendLamp g s).mon b).silence = (s.mon b).silence ∧ ((sendLamp g s).mon b).scr = (s.mon b).scr := by
  have hmon : (sendLamp g s).mon b = ((s.onSge fun e => { e with
      lamps := e.lamps.set g (lampFor s g), lampLine := e.lampLine ++ [lampFor s g] }).onMon g fun m => { m with
        goTimer := if (s.onSge fun e => { e with
          lamps := e.lamps.set g (lampFor s g), lampLine := e.lampLine ++ [lampFor s g] }).goDiffers g then m.goTimer else 0
        aspectTimer := if (s.onSge fun e => { e with
          lamps := e.lamps.set g (lampFor s g), lampLine := e.lampLine ++ [lampFor s g] }).aspectDiffers g
            then m.aspectTimer else 0
        redTimer := if (s.onSge fun e => { e with
          lamps := e.lamps.set g (lampFor s g), lampLine := e.lampLine ++ [lampFor s g] }).redOutDiffers g
            then m.redTimer else 0 }).mon b := rfl
  rw [hmon]
  by_cases hb : g = b
  · subst hb
    rw [State.mon_onMon_self]
    exact ⟨rfl, rfl, rfl⟩
  · rw [State.mon_onMon_ne _ hb]
    exact ⟨rfl, rfl, rfl⟩

/-- The lamp commands of a list of groups go out in its order, each showing its group as it stands. -/
theorem sendLamps_lampLine (l : List GroupId) (s : State) :
    (l.foldl (fun s g => sendLamp g s) s).sge.lampLine = s.sge.lampLine ++ l.map (lampFor s) := by
  induction l generalizing s with
  | nil => simp
  | cons g l ih =>
    rw [List.foldl_cons, ih]
    change (s.sge.lampLine ++ [lampFor s g]) ++ l.map (lampFor s) = _
    simp

theorem sendLamps_lamps (l : List GroupId) (s : State) (b : GroupId) :
    (l.foldl (fun s g => sendLamp g s) s).sge.lamps[b] = if b ∈ l then lampFor s b else s.sge.lamps[b] := by
  induction l generalizing s with
  | nil => rfl
  | cons g l ih =>
    have hlamps : (sendLamp g s).sge.lamps = s.sge.lamps.set g (lampFor s g) := rfl
    simp only [List.foldl_cons, ih, sendLamp_lampFor, hlamps]
    by_cases hb : b = g
    · subst hb
      simp
    · have : (g : Nat) ≠ b := fun e => hb (Fin.ext e.symm)
      simp [hb, this]

/-- Settles O38. -/
theorem lampRepeatSendsEveryGroup : Obligations.LampRepeatSendsEveryGroup := by
  intro s lamp
  let u : State := s.begun.onSge fun e => { e with lampRepeat := Config.lampRepeatPeriod }
  have hlamp : lampFor u = lamp := by
    funext g
    simp only [lampFor, lamp]
    simp
    exact ⟨rfl, rfl⟩
  have hexec : exec .lampCommandRepeat s = .next (repeatLamps s.begun) := rfl
  refine ⟨groupIds.foldl (fun s g => sendLamp g s) u, hexec, ?_, fun g => ?_, ?_, ?_, ?_, fun g => ?_, ?_⟩
  · rw [sendLamps_lampLine, hlamp]
    rfl
  · rw [sendLamps_lamps, if_pos (mem_groupIds g), hlamp]
  · exact foldl_same (r := fun v => v.sge.recs) (fun _ _ => by rfl) groupIds u
  · exact foldl_same (r := fun v => v.sge.lampRepeat) (fun _ _ => by rfl) groupIds u
  · exact foldl_same (r := State.notices) (fun _ _ => by rfl) groupIds u
  · exact ⟨foldl_same (r := fun v => (v.mon g).go) (fun v b => (sendLamp_mon b g v).1) groupIds u,
      foldl_same (r := fun v => (v.mon g).silence) (fun v b => (sendLamp_mon b g v).2.1) groupIds u,
      foldl_same (r := fun v => (v.mon g).scr) (fun v b => (sendLamp_mon b g v).2.2) groupIds u⟩
  · exact SameOutsideGroups.trans (show SameOutsideGroups s u from rfl)
      (SameOutsideGroups.foldl _ (fun v g => sameOutsideGroups_sendLamp g v) groupIds u)

end Sys2Proof.Machine
end

section
/-! ### Admission in number order (R8) -/

namespace Sys2Proof.Machine

variable {s t : State} {g h : GroupId}

/-- The clearance of a record raised, or as it was, and nothing else. -/
def GroupRec.Raised (a b : GroupRec) : Prop := ∃ c, a.cr ≤ c ∧ b = { a with cr := c }

theorem GroupRec.Raised.refl (a : GroupRec) : a.Raised a := ⟨a.cr, Nat.le_refl _, rfl⟩

theorem GroupRec.Raised.trans {a b c : GroupRec} (h : a.Raised b) (k : b.Raised c) : a.Raised c := by
  obtain ⟨x, hx, rfl⟩ := h
  obtain ⟨y, hy, rfl⟩ := k
  exact ⟨y, hx.trans hy, rfl⟩

/-- What a raised record shares with the record before. -/
theorem GroupRec.Raised.reads {a b : GroupRec} (h : a.Raised b) : b.state = a.state ∧ b.openPending = a.openPending
    ∧ b.closePending = a.closePending ∧ b.phaseTimer = a.phaseTimer ∧ b.openElapsed = a.openElapsed ∧ a.cr ≤ b.cr := by
  obtain ⟨c, hc, rfl⟩ := h
  exact ⟨rfl, rfl, rfl, rfl, rfl, hc⟩

/-! #### One admission -/

theorem leaveOpen_other (hb : h ≠ g) (s : State) : (s.grp h).Raised ((leaveOpen g s).grp h)
    ∧ (GroupSet.has (s.conflicts g) h = false → (leaveOpen g s).grp h = s.grp h) := by
  rw [(leaveOpen_ne hb s).1]
  split
  · next hc => exact ⟨⟨_, le_max_left _ _, rfl⟩, fun hn => by simp [hc] at hn⟩
  · exact ⟨.refl _, fun _ => rfl⟩

theorem leaveOpen_grp_openPending (g : GroupId) (s : State) : ((leaveOpen g s).grp g).openPending = (s.grp g).openPending := by
  have hleaving : ((leaving g s).grp g).openPending = (s.grp g).openPending := by
    rw [leaving_grp]
    dsimp only
    rw [if_pos rfl]
    split <;> rfl
  rw [leaveOpen_eq, ← hleaving]
  split
  · rw [enterClosed_grp_self]
  · rw [changeGroup_grp_self]

theorem leaveOpen_notices (g : GroupId) (s : State) : s.notices <+: (leaveOpen g s).notices := by
  have hleaving : s.notices <+: (leaving g s).notices := by
    rw [leaving_notices, List.append_assoc]
    exact List.prefix_append ..
  rw [leaveOpen_eq]
  split
  · rw [enterClosed_notices]
    exact hleaving.trans (List.prefix_append ..)
  · exact hleaving

/-- The record of a group just entered into OPEN. -/
theorem entered_grp_final (g : GroupId) (s : State) : ((entered g s).grp g).state = .opened
    ∧ ((entered g s).grp g).openPending = false ∧ ((entered g s).grp g).openElapsed = 0 := by
  unfold entered
  split
  · rw [minCompleted_grp_self, entering_grp_self, GroupRec.completed_eq]
    split
    · exact ⟨rfl, rfl, rfl⟩
    · split <;> exact ⟨rfl, rfl, rfl⟩
  · rw [entering_grp_self]
    exact ⟨rfl, rfl, rfl⟩

theorem entered_notices (g : GroupId) (s : State) : s.notices ++ [.entered g, .watch] <+: (entered g s).notices := by
  unfold entered
  split
  · rw [minCompleted_notices, entering_notices]
    exact List.prefix_append ..
  · rw [entering_notices]

theorem enterOpen_other (hb : h ≠ g) (s : State) : (s.grp h).Raised ((enterOpen g s).grp h)
    ∧ (GroupSet.has (s.conflicts g) h = false → (enterOpen g s).grp h = s.grp h) := by
  have hent := (entered_ne hb s).1
  rw [enterOpen_eq_entered]
  split
  · have := leaveOpen_other hb (entered g s)
    rwa [hent, (sameOutsideGroups_entered g s).conflicts] at this
  · rw [hent]
    exact ⟨.refl _, fun _ => rfl⟩

theorem sameOutsideGroups_enterOpen (g : GroupId) (s : State) : SameOutsideGroups s (enterOpen g s) := by
  rw [enterOpen_eq_entered]
  exact SameOutsideGroups.ite (fun _ => (sameOutsideGroups_entered g s).trans (sameOutsideGroups_leaveOpen g _))
    fun _ => sameOutsideGroups_entered g s

theorem enterOpen_notices (g : GroupId) (s : State) : s.notices ++ [.entered g, .watch] <+: (enterOpen g s).notices := by
  rw [enterOpen_eq_entered]
  split
  · exact (entered_notices g s).trans (leaveOpen_notices g _)
  · exact entered_notices g s

theorem enterOpen_grp_openPending (g : GroupId) (s : State) : ((enterOpen g s).grp g).openPending = false := by
  rw [enterOpen_eq_entered]
  split
  · rw [leaveOpen_grp_openPending, (entered_grp_final g s).2.1]
  · exact (entered_grp_final g s).2.1

theorem admitGroup_other (hb : h ≠ g) (s : State) : (s.grp h).Raised ((admitGroup g s).grp h)
    ∧ (GroupSet.has (s.conflicts g) h = false → (admitGroup g s).grp h = s.grp h) := by
  unfold admitGroup
  dsimp only
  split
  · exact enterOpen_other hb s
  · have : ((changeGroup g (fun r => { r with
        state := .opening, openPending := false, phaseTimer := (s.groupDef g).opent }) s).push .watch).grp h = s.grp h :=
      changeGroup_grp_ne hb _ s
    rw [this]
    exact ⟨.refl _, fun _ => rfl⟩

theorem sameOutsideGroups_admitGroup (g : GroupId) (s : State) : SameOutsideGroups s (admitGroup g s) :=
  SameOutsideGroups.ite (fun _ => sameOutsideGroups_enterOpen g s) fun _ => rfl

theorem admitGroup_notices (g : GroupId) (s : State) : s.notices <+: (admitGroup g s).notices := by
  unfold admitGroup
  dsimp only
  split
  · exact (List.prefix_append ..).trans (enterOpen_notices g s)
  · exact List.prefix_append ..

/-- What an admission makes of its group. -/
theorem admitGroup_self (g : GroupId) (s : State) : ((admitGroup g s).grp g).openPending = false
    ∧ (0 < (s.groupDef g).opent → ((admitGroup g s).grp g).state = .opening
        ∧ ((admitGroup g s).grp g).phaseTimer = (s.groupDef g).opent)
    ∧ ((s.groupDef g).opent = 0 → (s.grp g).closePending = false → ((admitGroup g s).grp g).state = .opened
        ∧ ((admitGroup g s).grp g).openElapsed = 0 ∧ .entered g ∈ (admitGroup g s).notices) := by
  unfold admitGroup
  dsimp only
  split
  · next h0 =>
    refine ⟨enterOpen_grp_openPending g s, fun hpos => absurd h0 hpos.ne', fun _ hc => ?_⟩
    have hmem : .entered g ∈ (enterOpen g s).notices := (enterOpen_notices g s).subset (by simp)
    have hent : enterOpen g s = entered g s := by
      rw [enterOpen_eq_entered, if_neg (by simp [hc])]
    obtain ⟨hstate, -, helapsed⟩ := entered_grp_final g s
    rw [hent] at hmem ⊢
    exact ⟨hstate, helapsed, hmem⟩
  · next h0 =>
    have : ((changeGroup g (fun r => { r with
        state := .opening, openPending := false, phaseTimer := (s.groupDef g).opent }) s).push .watch).grp g
          = { s.grp g with state := .opening, openPending := false, phaseTimer := (s.groupDef g).opent } :=
      changeGroup_grp_self g _ s
    rw [this]
    exact ⟨rfl, fun _ => ⟨rfl, rfl⟩, fun hz => absurd hz h0⟩

/-! #### Admission over a list of groups -/

/-- The group is admitted if it meets the conditions. -/
def admitStep (s : State) (g : GroupId) : State := if canAdmit s g then admitGroup g s else s

theorem admitWaiting_eq (s : State) : admitWaiting s = groupIds.foldl admitStep s := rfl

theorem sameOutsideGroups_admitStep (s : State) (g : GroupId) : SameOutsideGroups s (admitStep s g) :=
  SameOutsideGroups.ite (fun _ => sameOutsideGroups_admitGroup g s) fun _ => rfl

theorem admitStep_other (hb : h ≠ g) (s : State) : (s.grp h).Raised ((admitStep s g).grp h) := by
  unfold admitStep
  split
  · exact (admitGroup_other hb s).1
  · exact .refl _

theorem admitStep_notices (s : State) (g : GroupId) : s.notices <+: (admitStep s g).notices := by
  unfold admitStep
  split
  · exact admitGroup_notices g s
  · exact List.prefix_rfl

theorem foldl_admitStep_notices (l : List GroupId) (s : State) : s.notices <+: (l.foldl admitStep s).notices := by
  induction l generalizing s with
  | nil => exact List.prefix_rfl
  | cons g l ih => exact (admitStep_notices s g).trans (ih _)

/-- A group that is not of the list has at most its clearance raised. -/
theorem foldl_admitStep_other {l : List GroupId} (hl : h ∉ l) (s : State) : (s.grp h).Raised ((l.foldl admitStep s).grp h) := by
  induction l generalizing s with
  | nil => exact .refl _
  | cons g l ih =>
    obtain ⟨hg, hl⟩ := not_or.mp fun e => hl (List.mem_cons.mpr e)
    exact (admitStep_other hg s).trans (ih hl _)

/-- `t` is `s` with some groups of `l` admitted: every one of them met the conditions in `s`, and a group beyond `l` that none of
them conflicts with is as it was. -/
structure Admitting (s : State) (l : List GroupId) (t : State) : Prop where
  outside : SameOutsideGroups s t
  raised : ∀ h, (s.grp h).Raised (t.grp h) ∨ (canAdmit s h = true ∧ h ∈ l)
  same : ∀ g ∉ l, (∀ h ∈ l, canAdmit s h = true → GroupSet.has (s.conflicts h) g = false) → t.grp g = s.grp g

/-- A group that meets the conditions after some admissions met them before: admissions raise clearances, and set more groups
moving. -/
theorem Admitting.canAdmit {l : List GroupId} (ha : Admitting s l t) (hc : canAdmit t g = true) : canAdmit s g = true := by
  obtain hr | ⟨hg, -⟩ := ha.raised g
  · obtain ⟨hstate, hpend, -, -, -, hcr⟩ := hr.reads
    obtain ⟨hp, hst, ho, hle, hfree⟩ := canAdmit_iff.mp hc
    refine canAdmit_iff.mpr ⟨ha.outside.present g ▸ hp, hstate ▸ hst, hpend ▸ ho, ?_, fun h hh => ?_⟩
    · rw [ha.outside.groupDef] at hle
      exact hcr.trans hle
    · obtain hr | ⟨hh', -⟩ := ha.raised h
      · rw [← hr.reads.1]
        exact hfree h (by rwa [ha.outside.conflicts])
      · rw [(canAdmit_iff.mp hh').2.1]
        rfl
  · exact hg

theorem Admitting.step {l : List GroupId} (ha : Admitting s l t) (g : GroupId) : Admitting s (l ++ [g]) (admitStep t g) := by
  refine ⟨ha.outside.trans (sameOutsideGroups_admitStep t g), fun h => ?_, fun b hb hfree => ?_⟩
  · by_cases hg : h = g
    · subst hg
      by_cases hc : Machine.canAdmit t h = true
      · exact .inr ⟨ha.canAdmit hc, by simp⟩
      · rw [admitStep, if_neg hc]
        exact (ha.raised h).imp_right fun ⟨h1, h2⟩ => ⟨h1, by simp [h2]⟩
    · obtain hr | ⟨h1, h2⟩ := ha.raised h
      · exact .inl (hr.trans (admitStep_other hg t))
      · exact .inr ⟨h1, by simp [h2]⟩
  · simp only [List.mem_append, List.mem_singleton, not_or] at hb
    rw [← ha.same b hb.1 fun h hh => hfree h (by simp [hh])]
    unfold admitStep
    split
    · next hc =>
      refine (admitGroup_other hb.2 t).2 ?_
      rw [ha.outside.conflicts]
      exact hfree g (by simp) (ha.canAdmit hc)
    · rfl

theorem admitting_foldl (l : List GroupId) (s : State) : Admitting s l (l.foldl admitStep s) := by
  induction l using List.reverseRecOn with
  | nil => exact ⟨rfl, fun h => .inl (.refl _), fun _ _ _ => rfl⟩
  | append_singleton l g ih =>
    rw [List.foldl_append]
    exact ih.step g

/-- The groups before a group in number order, and those after it. -/
theorem groupIds_split (g : GroupId) : ∃ l₁ l₂, groupIds = l₁ ++ g :: l₂ ∧ (∀ h, h ∈ l₁ ↔ h < g) ∧ g ∉ l₂ ∧ ∀ h < g, h ∉ l₂ := by
  obtain ⟨l₁, l₂, hl⟩ := List.append_of_mem (mem_groupIds g)
  have hsorted : (l₁ ++ g :: l₂).Pairwise (· < ·) := hl ▸ List.pairwise_lt_finRange 24
  obtain ⟨-, hright, hleft⟩ := List.pairwise_append.mp hsorted
  have hafter : ∀ h ∈ l₂, g < h := (List.pairwise_cons.mp hright).1
  have hbefore : ∀ h ∈ l₁, h < g := fun h hh => hleft h hh g List.mem_cons_self
  refine ⟨l₁, l₂, hl, fun h => ⟨hbefore h, fun hlt => ?_⟩, fun hm => lt_irrefl g (hafter g hm),
    fun h hlt hm => lt_asymm hlt (hafter h hm)⟩
  have hm : h ∈ l₁ ++ g :: l₂ := hl ▸ mem_groupIds h
  obtain hm | hm := List.mem_append.mp hm
  · exact hm
  · obtain rfl | hm := List.mem_cons.mp hm
    · exact absurd hlt (lt_irrefl h)
    · exact absurd hlt (lt_asymm (hafter h hm))

/-- A group that meets the conditions, with no such group of lower number in conflict with it, is admitted. -/
theorem admitWaiting_admits (hg : canAdmit s g = true)
    (hfirst : ∀ h < g, canAdmit s h = true →
      GroupSet.has (s.conflicts g) h = false ∧ GroupSet.has (s.conflicts h) g = false) :
    ∃ t, (t.grp g) = s.grp g ∧ SameOutsideGroups s t ∧ ((admitGroup g t).grp g).Raised ((admitWaiting s).grp g)
      ∧ (admitGroup g t).notices <+: (admitWaiting s).notices := by
  obtain ⟨l₁, l₂, hl, hbefore, hafter, -⟩ := groupIds_split g
  have ha := admitting_foldl l₁ s
  have hnot : g ∉ l₁ := fun hm => lt_irrefl g ((hbefore g).mp hm)
  have hsame := ha.same g hnot fun h hh hc => (hfirst h ((hbefore h).mp hh) hc).2
  refine ⟨l₁.foldl admitStep s, hsame, ha.outside, ?_⟩
  have hc : canAdmit (l₁.foldl admitStep s) g = true := by
    obtain ⟨hp, hst, ho, hle, hfree⟩ := canAdmit_iff.mp hg
    refine canAdmit_iff.mpr ⟨by rwa [ha.outside.present], by rwa [hsame], by rwa [hsame], ?_, fun h hh => ?_⟩
    · rwa [hsame, ha.outside.groupDef]
    · rw [ha.outside.conflicts] at hh
      obtain hr | ⟨h1, h2⟩ := ha.raised h
      · rw [hr.reads.1]
        exact hfree h hh
      · rw [(hfirst h ((hbefore h).mp h2) h1).1] at hh
        cases hh
  rw [admitWaiting_eq, hl, List.foldl_append, List.foldl_cons, admitStep, if_pos hc]
  exact ⟨foldl_admitStep_other hafter _, foldl_admitStep_notices l₂ _⟩

/-- A group waits on beside a group of lower number that has been admitted and conflicts with it. -/
theorem admitWaiting_keeps (hlt : h < g) (hg : canAdmit s g = true) (hc : GroupSet.has (s.conflicts g) h = true)
    (hmoving : ((admitWaiting s).grp h).state.moving = true) : (s.grp g).Raised ((admitWaiting s).grp g) := by
  obtain ⟨l₁, l₂, hl, hbefore, hafter, hlower⟩ := groupIds_split g
  have ha := admitting_foldl l₁ s
  have hnot : g ∉ l₁ := fun hm => lt_irrefl g ((hbefore g).mp hm)
  have hu : admitWaiting s = l₂.foldl admitStep (admitStep (l₁.foldl admitStep s) g) := by
    rw [admitWaiting_eq, hl, List.foldl_append, List.foldl_cons]
  have hkept := foldl_admitStep_other hnot s
  generalize l₁.foldl admitStep s = t at ha hu hkept
  rw [hu] at hmoving ⊢
  have hstate : (t.grp h).state.moving = true := by
    have h1 := admitStep_other hlt.ne t
    have h2 := foldl_admitStep_other (hlower h hlt) (admitStep t g)
    exact (congrArg GroupState.moving (h2.reads.1.trans h1.reads.1)).symm.trans hmoving
  have hno : ¬ canAdmit t g = true := fun e => by
    obtain ⟨-, -, -, -, hfree⟩ := canAdmit_iff.mp e
    rw [hfree h (by rw [ha.outside.conflicts]; exact hc)] at hstate
    cases hstate
  have hstep : admitStep t g = t := if_neg hno
  have hafter := foldl_admitStep_other hafter (admitStep t g)
  rw [hstep] at hafter ⊢
  exact hkept.trans hafter

theorem foldl_admitStep_none (hn : ∀ g, ¬ canAdmit s g = true) (l : List GroupId) : l.foldl admitStep s = s := by
  induction l with
  | nil => rfl
  | cons g l ih => rw [List.foldl_cons, admitStep, if_neg (hn g), ih]

theorem GroupState.moving_eq_false_iff {x : GroupState} : x.moving = false ↔ x ≠ .opening ∧ x ≠ .opened ∧ x ≠ .closing := by
  cases x <;> decide

theorem begun_grp (s : State) (g : GroupId) : s.begun.grp g = s.grp g := rfl

theorem admitting_admitWaiting (s : State) : Admitting s groupIds (admitWaiting s) := by
  rw [admitWaiting_eq]
  exact admitting_foldl groupIds s

/-- Settles O36. -/
theorem clearanceCountdownAdmitsInOrder : Obligations.ClearanceCountdownAdmitsInOrder := by
  intro s c admissible
  have hadm (g : GroupId) : admissible g ↔ canAdmit s.begun g = true := by
    have hb := sameOutsideGroups_begun s
    rw [canAdmit_iff]
    simp only [GroupState.moving_eq_false_iff, begun_grp, hb.present, hb.groupDef, hb.conflicts, admissible]
  have hout : SameOutsideGroups s (admitWaiting s.begun) :=
    (sameOutsideGroups_begun s).trans (admitting_admitWaiting s.begun).outside
  refine ⟨admitWaiting s.begun, rfl, fun g hg => ?changed, fun g hg hfirst => ?admits, fun g h hlt hg hh hc hmoving => ?keeps,
    fun hn => ?none, hout⟩
  case changed =>
    obtain hr | ⟨hc, -⟩ := (admitting_admitWaiting s.begun).raised g
    · exact absurd hr.reads.1 hg
    · exact (hadm g).mpr hc
  case admits =>
    obtain ⟨t, hsame, ht, hr, hpre⟩ := admitWaiting_admits ((hadm g).mp hg) fun h hlt hc => hfirst h hlt ((hadm h).mpr hc)
    obtain ⟨hstate, hpend, -, htimer, helapsed, -⟩ := hr.reads
    obtain ⟨hself, hopening, hopened⟩ := admitGroup_self g t
    rw [ht.groupDef, hsame] at *
    rw [hstate, hpend, htimer, helapsed]
    refine ⟨hself, hopening, fun h0 hclose => ?_⟩
    obtain ⟨h1, h2, h3⟩ := hopened h0 hclose
    exact ⟨h1, h2, hpre.subset h3⟩
  case keeps =>
    have hm : ((admitWaiting s.begun).grp h).state.moving = true := by
      obtain e | e := hmoving <;> rw [e] <;> rfl
    obtain ⟨hstate, hopen, -⟩ := (admitWaiting_keeps hlt ((hadm g).mp hg) hc hm).reads
    obtain ⟨-, hclosed, hpend, -⟩ := hg
    exact ⟨hstate.trans hclosed, hopen.trans hpend⟩
  case none =>
    rw [admitWaiting_eq]
    exact foldl_admitStep_none (fun g e => hn g ((hadm g).mpr e)) groupIds

end Sys2Proof.Machine
end

section
/-! ## The receiver and the transmitter (R195 to R199) -/

namespace Sys2Proof.Machine

variable {s : State}

theorem exec_linkByte (b : Byte) (fe : Bool) (s : State) :
    exec (.linkByte b fe) s = .next (settle Config.reactionBound (receiveByte b fe s.begun)) := rfl

/-! ### A byte and a gap -/

section Hunting

variable (h : s.lnk.rx = .hunting)
include h

theorem receiveByte_hunting_start : receiveByte 0xA5 false s = setRx (.assembling [0xA5]) s := by
  unfold receiveByte
  rw [h]
  rfl

theorem receiveByte_hunting_other {b : Byte} {fe : Bool} (hb : b ≠ 0xA5 ∨ fe = true) : receiveByte b fe s = s := by
  unfold receiveByte
  rw [h]
  refine if_neg ?_
  obtain hb | hb := hb
  · rw [startByte, decide_eq_false hb]
    exact Bool.false_ne_true
  · simp [hb]

theorem receiveGap_hunting : receiveGap s = s := by
  unfold receiveGap
  rw [h]

end Hunting

section Assembling

variable {l : List Byte} (h : s.lnk.rx = .assembling l)
include h

theorem receiveByte_framingError (b : Byte) : receiveByte b true s = setRx .hunting s := by
  unfold receiveByte
  rw [h]
  rfl

theorem receiveByte_lenTooLarge {b : Byte} (hlen : lenTooLarge (l ++ [b]) = true) : receiveByte b false s = setRx .hunting s := by
  unfold receiveByte
  rw [h]
  simp only [Bool.false_eq_true, if_false, hlen, if_true]

theorem receiveByte_complete {b : Byte} (hlen : lenTooLarge (l ++ [b]) = false) (hc : frameComplete (l ++ [b]) = true) :
    receiveByte b false s = completeFrame (l ++ [b]) (setRx .hunting s) := by
  unfold receiveByte
  rw [h]
  simp only [Bool.false_eq_true, if_false, hlen, hc, if_true]

theorem receiveByte_assembling {b : Byte} (hlen : lenTooLarge (l ++ [b]) = false) (hc : frameComplete (l ++ [b]) = false) :
    receiveByte b false s = setRx (.assembling (l ++ [b])) s := by
  unfold receiveByte
  rw [h]
  simp only [Bool.false_eq_true, if_false, hlen, hc]

theorem receiveGap_assembling : receiveGap s = setRx .hunting s := by
  unfold receiveGap
  rw [h]

end Assembling

/-! ### The transmitter -/

theorem exec_transmitComplete (s : State) : exec .transmitComplete s = .next (transmitDone s.begun) := rfl

theorem transmitDone_idle (h : s.lnk.tx = none) : transmitDone s = s := if_neg (by simp [h])

theorem transmitDone_sending (h : s.lnk.tx ≠ none) : transmitDone s = s.onLnk Lnk.complete :=
  if_pos (Option.isSome_iff_ne_none.mpr h)

theorem Lnk.complete_of_reply {l : Lnk} {r : Reply} {rest : List Reply} (h : l.replies = r :: rest) :
    l.complete = { l with replies := rest, tx := some (.reply r) } := by
  simp only [Lnk.complete, Lnk.begin', h]

theorem Lnk.complete_of_report {l : Lnk} {r : Report} {rest : List Report} (h : l.replies = []) (hr : l.reports = r :: rest) :
    l.complete = { l with reports := rest, tx := some (.report r l.loss), loss := false } := by
  simp only [Lnk.complete, Lnk.begin', h, hr]

theorem Lnk.complete_of_empty {l : Lnk} (h : l.replies = []) (hr : l.reports = []) : l.complete = { l with tx := none } := by
  simp only [Lnk.complete, Lnk.begin', h, hr]

/-- Settles O30. -/
theorem receiverAssemblesAndTransmitterPrefersReplies : Obligations.ReceiverAssemblesAndTransmitterPrefersReplies := by
  refine ⟨by decide +kernel, rfl, fun s => ⟨fun h => ?hunting, fun l h => ?assembling⟩, fun s => ⟨fun h => ?idle, fun h => ?sending⟩⟩
  case hunting =>
    have h : s.begun.lnk.rx = .hunting := h
    refine ⟨?_, fun b fe hb => ?_, ?_⟩
    · rw [exec_linkByte, receiveByte_hunting_start h]
      rfl
    · rw [exec_linkByte, receiveByte_hunting_other h hb]
    · exact congrArg Host.Outcome.next (receiveGap_hunting h)
  case assembling =>
    have h : s.begun.lnk.rx = .assembling l := h
    refine ⟨fun b => ?_, fun b h1 hb => ?_, fun b h1 hb => ?_, fun b start len rest hl hne => ?_, ?_⟩
    · rw [exec_linkByte, receiveByte_framingError h]
      rfl
    · obtain ⟨x, rfl⟩ := List.length_eq_one_iff.mp h1
      rw [exec_linkByte, receiveByte_lenTooLarge h (by simpa [lenTooLarge] using hb)]
      rfl
    · obtain ⟨x, rfl⟩ := List.length_eq_one_iff.mp h1
      rw [exec_linkByte, receiveByte_assembling h (by simpa [lenTooLarge] using hb) (by simp [frameComplete])]
      rfl
    · subst hl
      have hlen : lenTooLarge (start :: len :: rest ++ [b]) = false := by cases rest <;> rfl
      rw [exec_linkByte, receiveByte_assembling h hlen (by simpa [frameComplete] using hne)]
      rfl
    · exact congrArg Host.Outcome.next (receiveGap_assembling h)
  case idle => exact congrArg Host.Outcome.next (transmitDone_idle (s := s.begun) h)
  case sending =>
    rw [exec_transmitComplete, transmitDone_sending (s := s.begun) h]
    refine ⟨fun r rest hr => ?_, fun r rest hr hrep => ?_, fun hr hrep => ?_⟩
    · exact congrArg (fun l => Host.Outcome.next { s.begun with lnk := l }) (Lnk.complete_of_reply (l := s.lnk) hr)
    · exact congrArg (fun l => Host.Outcome.next { s.begun with lnk := l }) (Lnk.complete_of_report (l := s.lnk) hr hrep)
    · exact congrArg (fun l => Host.Outcome.next { s.begun with lnk := l }) (Lnk.complete_of_empty (l := s.lnk) hr hrep)

/-! ### The checks of a received request (R197) -/

theorem bodyLength_unknown {kind : Byte} (h : kind = 0 ∨ 0x1D < kind.toNat) (body : List Byte) : bodyLength kind body = none := by
  have hk : kind.toNat = 0 ∨ 29 < kind.toNat := h.imp_left fun e => by rw [e]; rfl
  unfold bodyLength
  split
  case h_30 => rfl
  all_goals omega

/-- Settles O32. -/
theorem badFramesChangeNothingElse : Obligations.BadFramesChangeNothingElse := by
  refine ⟨fun start len kind tag body lo hi s hlen hcrc => ?crc, fun kind tag body s hk => ?unknown,
    fun kind tag body s n hn hbad => ?malformed⟩
  case crc =>
    simp only [completeFrame, ← hlen, List.take_left, List.drop_left]
    exact if_neg hcrc
  case unknown =>
    unfold receiveRequest
    rw [bodyLength_unknown hk]
  case malformed =>
    unfold receiveRequest
    rw [hn]
    dsimp only
    by_cases hlen : n = some body.length
    · rw [if_neg (not_not_intro hlen), hbad.resolve_left (not_not_intro hlen)]
    · rw [if_pos hlen]

end Sys2Proof.Machine
end

section
/-! ## Reading back what a request was sent as (R197, R206)

A reader reads the bytes of a value when it takes the value from their front, whatever follows. The readers of `Link` read the
bytes of `Encode`, part by part. -/

namespace Sys2Proof.Machine

/-- The reader takes the value from the front of its bytes. -/
def Reads {α : Type} (r : Reader α) (bytes : List Byte) (x : α) : Prop := ∀ l, r (bytes ++ l) = some (x, l)

theorem Reads.nil_append {α : Type} {r : Reader α} {bytes : List Byte} {x : α} (h : Reads r bytes x) : r bytes = some (x, []) := by
  simpa using h []

/-! ### Numbers, flags, sets and enumerations -/

theorem reads_u8 {n : Nat} (h : inByte n = true) : Reads Reader.u8 (byte1 n) n := by
  intro l
  have h : n < 256 := by simpa [inByte] using h
  simp [Reader.u8, byte1, Nat.mod_eq_of_lt h]

theorem reads_u16 {n : Nat} (h : inTwoBytes n = true) : Reads Reader.u16 (byte2 n) n := by
  intro l
  have h : n < 65536 := by simpa [inTwoBytes] using h
  have : n % 256 + 256 * (n / 256 % 256) = n := by omega
  simp [Reader.u16, byte2, this]

theorem reads_flag (b : Bool) : Reads Reader.flag (byteFlag b) b := by
  intro l
  cases b <;> rfl

theorem reads_groups (x : GroupSet) : Reads Reader.groups (byteSet x) x := by
  intro l
  have hx : x.toNat < 16777216 := x.isLt
  have : x.toNat % 256 + 256 * (x.toNat / 256 % 256) + 65536 * (x.toNat / 65536 % 256) = x.toNat := by omega
  simp [Reader.groups, byteSet, this]

theorem reads_enum {α : Type} {f : Nat → Option α} {n : Nat} {x : α} (h : inByte n = true) (hf : f n = some x) :
    Reads (Reader.enum f) (byte1 n) x := by
  intro l
  simp [Reader.enum, reads_u8 h l, hf]

theorem reads_opt16 {o : Option Nat} (h : optInTwoBytes o = true) : Reads Reader.opt16 (byteOpt2 o) o := by
  intro l
  have hn : inTwoBytes (o.getD 0) = true := by
    cases o with
    | none => rfl
    | some n => simpa [optInTwoBytes] using h
  simp only [Reader.opt16, byteOpt2, List.append_assoc, reads_flag _ _, reads_u16 hn _, Option.bind_eq_bind, Option.bind_some]
  cases o <;> rfl

theorem reads_sources (x : SourceSet) : Reads Reader.sources (byte1 x.toNat) x := by
  intro l
  have hx : x.toNat < 2 ^ 7 := x.isLt
  have hbit : (BitVec.ofNat 8 x.toNat).getLsbD 7 = false := by
    simp [BitVec.getLsbD_ofNat, Nat.testBit_lt_two_pow hx]
  have hset : (BitVec.ofNat 8 x.toNat).setWidth 7 = x := by
    apply BitVec.eq_of_toNat_eq
    simp
  simp only [Reader.sources, byte1, List.cons_append, List.nil_append, hbit, Bool.false_eq_true, if_false, hset]

/-! ### Things one after another -/

theorem bytesOf_append {α : Type} (f : α → List Byte) (l m : List α) : bytesOf f (l ++ m) = bytesOf f l ++ bytesOf f m := by
  simp [bytesOf]

theorem bytesOf_singleton {α : Type} (f : α → List Byte) (x : α) : bytesOf f [x] = f x := by simp [bytesOf]

theorem reads_vec {α β : Type} {f : Reader α} {bytes : β → List Byte} {value : β → α} {n : Nat} (v : Vector β n)
    (h : ∀ x ∈ v.toList, Reads f (bytes x) (value x)) : Reads (Reader.vec f n) (bytesOf bytes v.toList) (v.map value) := by
  induction n with
  | zero =>
    intro l
    obtain rfl : v = #v[] := Vector.eq_empty
    simp [Reader.vec, bytesOf]
  | succ n ih =>
    intro l
    obtain ⟨w, x, rfl⟩ : ∃ (w : Vector β n) (x : β), v = w.push x := ⟨v.pop, v.back, (Vector.push_pop_back v).symm⟩
    have hlist : (w.push x).toList = w.toList ++ [x] := Vector.toList_push
    rw [hlist] at h ⊢
    have hx := h x (by simp)
    have hw := ih w fun y hy => h y (by simp [hy])
    rw [bytesOf_append, bytesOf_singleton, List.append_assoc]
    simp only [Reader.vec, hw _, hx _, Option.bind_eq_bind, Option.bind_some, Vector.map_push]
    rfl

theorem reads_vec_self {α : Type} {f : Reader α} {bytes : α → List Byte} {n : Nat} (v : Vector α n)
    (h : ∀ x ∈ v.toList, Reads f (bytes x) x) : Reads (Reader.vec f n) (bytesOf bytes v.toList) v := by
  simpa using reads_vec (value := id) v h

/-! ### The parts of sections -/

theorem reads_groupTimes {t : GroupTimes} (h : t.fits = true) : Reads Reader.groupTimes
    (byte2 t.ming ++ byte2 t.maxg ++ byte1 t.gap ++ byte2 t.maxwait ++ byteFlag t.recallOn) t := by
  intro l
  simp only [GroupTimes.fits, Bool.and_eq_true] at h
  obtain ⟨⟨⟨hming, hmaxg⟩, hgap⟩, hmaxwait⟩ := h
  simp only [Reader.groupTimes, List.append_assoc, reads_u16 hming _, reads_u16 hmaxg _, reads_u8 hgap _, reads_u16 hmaxwait _,
    reads_flag _ _, Option.bind_eq_bind, Option.bind_some]
  rfl

theorem reads_seqEntry {e : RawEntry} (h : inByte e.stage = true) : Reads Reader.seqEntry (bytesRawEntry e) e := by
  intro l
  simp only [Reader.seqEntry, bytesRawEntry, List.append_assoc, reads_u8 h _, reads_flag _ _, Option.bind_eq_bind, Option.bind_some]
  rfl

theorem reads_sequence {q : RawSequence} (h : q.fits = true) : Reads Reader.sequence (bytesRawSequence q) q := by
  intro l
  simp only [RawSequence.fits, Bool.and_eq_true, decide_eq_true_eq, List.all_eq_true] at h
  obtain ⟨⟨⟨⟨hcount, hlen⟩, hentries⟩, hstart⟩, hresume⟩ := h
  have hv := reads_vec_self (f := Reader.seqEntry) (bytes := bytesRawEntry) (⟨q.entries.toArray, by simpa using hlen⟩ : Vector RawEntry 16)
    fun e he => reads_seqEntry (hentries e (by simpa using he))
  have hmode : Reads (Reader.enum SeqMode.ofCode) (byte1 q.mode.code) q.mode := by
    cases q.mode <;> exact reads_enum rfl rfl
  have hlist : (⟨q.entries.toArray, by simpa using hlen⟩ : Vector RawEntry 16).toList = q.entries := rfl
  rw [hlist] at hv
  simp only [Reader.sequence, bytesRawSequence, List.append_assoc, reads_u8 hcount _, hv _, hmode _, reads_u8 hstart _,
    reads_u8 hresume _, Option.bind_eq_bind, Option.bind_some]
  rfl

theorem reads_detector {d : RawDetector} (h : d.fits = true) : Reads Reader.detector (bytesRawDetector d) d := by
  intro l
  simp only [RawDetector.fits, Bool.and_eq_true] at h
  obtain ⟨⟨⟨happ, hon⟩, hoff⟩, hring⟩ := h
  have hkind : Reads (Reader.enum DetKind.ofCode) (byte1 d.kind.code) d.kind := by
    cases d.kind <;> exact reads_enum rfl rfl
  have hmode : Reads (Reader.enum FaultMode.ofCode) (byte1 d.faultMode.code) d.faultMode := by
    cases d.faultMode <;> exact reads_enum rfl rfl
  simp only [Reader.detector, bytesRawDetector, List.append_assoc, hkind _, reads_groups _ _, reads_u8 happ _, hmode _,
    reads_u16 hon _, reads_u16 hoff _, reads_u8 hring _, reads_flag _ _, Option.bind_eq_bind, Option.bind_some]
  rfl

theorem reads_approach {a : RawApproach} (h : a.fits = true) : Reads Reader.approach (bytesRawApproach a) a := by
  intro l
  simp only [RawApproach.fits, Bool.and_eq_true] at h
  obtain ⟨⟨⟨⟨⟨⟨hgroup, hstage⟩, hrun⟩, hext⟩, htmax⟩, hrecovery⟩, hguard⟩ := h
  simp only [Reader.approach, bytesRawApproach, List.append_assoc, reads_flag _ _, reads_u8 hgroup _, reads_u8 hstage _,
    reads_u16 hrun _, reads_u16 hext _, reads_u16 htmax _, reads_u16 hrecovery _, reads_u8 hguard _, Option.bind_eq_bind,
    Option.bind_some]
  rfl

theorem reads_groupDef {d : GroupDef} (h : d.fits = true) : Reads Reader.groupDef (bytesGroupDef d) d := by
  intro l
  simp only [GroupDef.fits, Bool.and_eq_true] at h
  obtain ⟨hclose, hopent⟩ := h
  have hkind : Reads (Reader.enum Kind.ofCode) (byte1 d.kind.code) d.kind := by
    cases d.kind <;> exact reads_enum rfl rfl
  simp only [Reader.groupDef, bytesGroupDef, List.append_assoc, reads_flag _ _, hkind _, reads_u8 hclose _, reads_u8 hopent _,
    Option.bind_eq_bind, Option.bind_some]
  rfl

theorem reads_monitorStart {m : MonitorStart} (h : m.fits = true) : Reads Reader.monitorStart (bytesMonitor m) m := by
  intro l
  simp only [MonitorStart.fits, Bool.and_eq_true] at h
  obtain ⟨⟨hmtol, hflash⟩, hclear⟩ := h
  simp only [Reader.monitorStart, bytesMonitor, List.append_assoc, reads_sources _ _, reads_u8 hmtol _, reads_u16 hflash _,
    reads_u8 hclear _, reads_flag _ _, Option.bind_eq_bind, Option.bind_some]
  rfl

/-! ### A row of the intergreen matrix -/

theorem has_only (g h : GroupId) : GroupSet.has (GroupSet.only g) h = decide (g = h) := by
  rw [GroupSet.has, GroupSet.only, BitVec.getLsbD_ofNat, Nat.testBit_two_pow]
  simp [h.isLt, Fin.ext_iff]

theorem has_put_true (x : GroupSet) (g h : GroupId) : GroupSet.has (GroupSet.put x g true) h = (GroupSet.has x h || decide (g = h)) := by
  rw [← has_only]
  simp [GroupSet.put, GroupSet.has]

theorem has_foldl_put (p : GroupId → Bool) (l : List GroupId) (x : GroupSet) (h : GroupId) :
    GroupSet.has (l.foldl (fun x g => if p g then GroupSet.put x g true else x) x) h
      = (GroupSet.has x h || (decide (h ∈ l) && p h)) := by
  induction l generalizing x with
  | nil => simp
  | cons g l ih =>
    rw [List.foldl_cons, ih]
    by_cases hg : h = g
    · subst hg
      cases hp : p h <;> simp [has_put_true]
    · cases hp : p g <;> simp [has_put_true, hg, Ne.symm hg]

theorem reads_igRow {r : IgRow} (h : r.fits = true) : Reads Reader.igRow (bytesIgRow r) r := by
  intro l
  have hv := reads_vec (f := Reader.u8) (bytes := fun e : Option Nat => byte1 (e.getD 0)) (value := fun e => e.getD 0) r
    fun e he => reads_u8 (by
      have := List.all_eq_true.mp h e he
      cases e with
      | none => rfl
      | some n => simpa using this)
  simp only [Reader.igRow, bytesIgRow, List.append_assoc, reads_groups _ _, hv _, Option.bind_eq_bind, Option.bind_some,
    has_foldl_put (fun g => (r[g]).isSome)]
  refine congrArg (fun x => some (x, l)) (Vector.ext fun i hi => ?_)
  have hmem : (⟨i, hi⟩ : GroupId) ∈ groupIds := mem_groupIds _
  cases hr : r[i] <;> simp [hr, hmem, GroupSet.has]

/-! ### Sections -/

theorem reads_planSection {c : PlanSectionArg} (h : c.fits = true) :
    Reads (Reader.planSection (planSectionName c)) (bytesPlanArg c) c := by
  intro l
  cases c with
  | stages v =>
    exact congrArg (Option.map fun x => (PlanSectionArg.stages x.1, x.2)) (reads_vec_self v (fun x _ => reads_groups x) l)
  | sequence q => exact congrArg (Option.map fun x => (PlanSectionArg.sequence x.1, x.2)) (reads_sequence h l)
  | groupTimesA v =>
    exact congrArg (Option.map fun x => (PlanSectionArg.groupTimesA x.1, x.2))
      (reads_vec_self v (fun x hx => reads_groupTimes (List.all_eq_true.mp h x hx)) l)
  | groupTimesB v =>
    exact congrArg (Option.map fun x => (PlanSectionArg.groupTimesB x.1, x.2))
      (reads_vec_self v (fun x hx => reads_groupTimes (List.all_eq_true.mp h x hx)) l)
  | detectorsA v =>
    exact congrArg (Option.map fun x => (PlanSectionArg.detectorsA x.1, x.2))
      (reads_vec_self v (fun x hx => reads_detector (List.all_eq_true.mp h x hx)) l)
  | detectorsB v =>
    exact congrArg (Option.map fun x => (PlanSectionArg.detectorsB x.1, x.2))
      (reads_vec_self v (fun x hx => reads_detector (List.all_eq_true.mp h x hx)) l)
  | priority v =>
    exact congrArg (Option.map fun x => (PlanSectionArg.priority x.1, x.2))
      (reads_vec_self v (fun x hx => reads_approach (List.all_eq_true.mp h x hx)) l)

theorem reads_tableSection {c : TableSectionArg} (h : c.fits = true) :
    Reads (Reader.tableSection (tableSectionName c)) (bytesTableArg c) c := by
  intro l
  cases c with
  | groups v =>
    exact congrArg (Option.map fun x => (TableSectionArg.groups x.1, x.2))
      (reads_vec_self v (fun x hx => reads_groupDef (List.all_eq_true.mp h x hx)) l)
  | conflicts v =>
    exact congrArg (Option.map fun x => (TableSectionArg.conflicts x.1, x.2)) (reads_vec_self v (fun x _ => reads_groups x) l)
  | ig k v =>
    exact congrArg (Option.map fun x => (TableSectionArg.ig k x.1, x.2))
      (reads_vec_self v (fun x hx => reads_igRow (List.all_eq_true.mp h x hx)) l)
  | monitorStart m => exact congrArg (Option.map fun x => (TableSectionArg.monitorStart x.1, x.2)) (reads_monitorStart h l)

theorem reads_planSectionName (k : PlanSectionName) : Reads (Reader.enum PlanSectionName.ofCode) (byte1 (PlanSectionName.code k)) k := by
  cases k <;> exact reads_enum rfl rfl

theorem reads_tableSectionName (k : TableSectionName) : Reads (Reader.enum TableSectionName.ofCode) (byte1 (TableSectionName.code k)) k := by
  cases k with
  | ig k => fin_cases k <;> exact reads_enum rfl rfl
  | _ => exact reads_enum rfl rfl

theorem reads_tableCopy (c : TableCopy) : Reads (Reader.enum TableCopy.ofCode) (byte1 (TableCopy.code c)) c := by
  cases c <;> exact reads_enum rfl rfl

end Sys2Proof.Machine
end

section
/-! ## A frame delivers the request it carries (R195 to R197) -/

namespace Sys2Proof.Machine

/-- The bytes of a well-formed request are read back as the request. -/
theorem readRequest_requestOf {i : Instr} (hw : i.wellFormed = true) {code tag : Byte} {body : List Byte}
    (h : requestOf i = some (code, tag, body)) : readRequest code tag body = some i := by
  cases i
  all_goals simp only [requestOf, reduceCtorEq, Option.some.injEq, Prod.mk.injEq] at h
  all_goals obtain ⟨rfl, rfl, rfl⟩ := h
  all_goals simp only [Instr.wellFormed, Bool.and_eq_true] at hw
  case status => rfl
  case trams => rfl
  case calls => rfl
  case stack => rfl
  case faultClear => rfl
  case restart => rfl
  case tableCommit => rfl
  case tableLock => rfl
  case tableUnlock => rfl
  case planRead tag slot k => simp [readRequest, reads_u8 hw _, (reads_planSectionName k).nil_append]
  case tableRead tag c k => simp [readRequest, reads_tableCopy c _, (reads_tableSectionName k).nil_append]
  case manualPost tag stage hold => simp [readRequest, reads_u8 hw.1 _, (reads_u16 hw.2).nil_append]
  case detectorMask tag d set => simp [readRequest, reads_u8 hw _, (reads_flag set).nil_append]
  case tramIn tag a vehicle eta =>
    simp [readRequest, List.append_assoc, reads_u8 hw.1.1 _, reads_opt16 hw.1.2 _, (reads_opt16 hw.2).nil_append]
  case callPlace tag id level target eta hold =>
    obtain ⟨⟨⟨⟨hid, hlevel⟩, htarget⟩, heta⟩, hhold⟩ := hw
    simp [readRequest, List.append_assoc, reads_u8 hid _, reads_u8 hlevel _, reads_u8 htarget _, reads_u16 heta _,
      (reads_u16 hhold).nil_append]
  case planSection tag c => simp [readRequest, reads_planSectionName _ _, (reads_planSection hw).nil_append]
  case tableSection tag c => simp [readRequest, reads_tableSectionName _ _, (reads_tableSection hw).nil_append]
  all_goals simp [readRequest, (reads_u8 hw).nil_append]

/-- The body of a request has the length its code asks for. -/
theorem bodyLength_requestOf {i : Instr} (hw : i.wellFormed = true) {code tag : Byte} {body : List Byte}
    (h : requestOf i = some (code, tag, body)) : bodyLength code body = some (some body.length) := by
  cases i
  case planSection t c => exact Laws.BodyLength.planSection t c hw _ _ _ h
  case tableSection t c => exact Laws.BodyLength.tableSection t c hw _ _ _ h
  all_goals simp only [requestOf, reduceCtorEq, Option.some.injEq, Prod.mk.injEq] at h
  all_goals obtain ⟨rfl, rfl, rfl⟩ := h
  all_goals rfl

/-- No body of a request is longer than 193 bytes. -/
theorem length_le_of_bodyLength {code : Byte} {body : List Byte} (h : bodyLength code body = some (some body.length)) :
    body.length ≤ 193 := by
  have hplan (k : PlanSectionName) : planSectionLength k ≤ 192 := by cases k <;> decide
  have htable (k : TableSectionName) : tableSectionLength k ≤ 162 := by
    cases k with
    | ig k => exact Nat.le_refl _
    | _ => decide
  unfold bodyLength at h
  split at h
  case h_22 =>
    obtain ⟨k, -, hk⟩ := Option.map_eq_some_iff.mp (Option.some.inj h)
    have := hplan k
    omega
  case h_24 =>
    obtain ⟨k, -, hk⟩ := Option.map_eq_some_iff.mp (Option.some.inj h)
    have := htable k
    omega
  all_goals simp only [Option.some.injEq, reduceCtorEq] at h
  all_goals omega

/-! ### The frame byte by byte -/

theorem receiveRequest_requestOf {i : Instr} (hw : i.wellFormed = true) {code tag : Byte} {body : List Byte}
    (h : requestOf i = some (code, tag, body)) (s : State) : receiveRequest code tag body s = dispatch i s := by
  unfold receiveRequest
  rw [bodyLength_requestOf hw h, readRequest_requestOf hw h]
  exact if_neg (not_not_intro rfl)

/-- A frame as its START byte, its LEN and the rest. -/
theorem frameBytes_eq (code tag : Byte) (body : List Byte) : frameBytes code tag body =
    startByte :: BitVec.ofNat 8 body.length :: code :: tag :: (body
      ++ [(crc (BitVec.ofNat 8 body.length :: code :: tag :: body)).setWidth 8,
        (crc (BitVec.ofNat 8 body.length :: code :: tag :: body) >>> 8).setWidth 8]) := by
  simp [frameBytes, byte1]

theorem toNat_len {body : List Byte} (h : body.length ≤ 193) : (BitVec.ofNat 8 body.length).toNat = body.length := by
  rw [BitVec.toNat_ofNat]
  exact Nat.mod_eq_of_lt (by omega)

theorem completeFrame_frameBytes {code tag : Byte} {body : List Byte} (h : body.length ≤ 193) (s : State) :
    completeFrame (frameBytes code tag body) s = receiveRequest code tag body s := by
  rw [frameBytes_eq]
  simp only [completeFrame, toNat_len h, List.take_left, List.drop_left]
  exact if_pos trivial

/-- The beginnings of a frame: none is one whose LEN is too large, and only the whole is complete. -/
theorem frame_beginnings {code tag : Byte} {body : List Byte} (h : body.length ≤ 193) {p q : List Byte}
    (hp : p ++ q = frameBytes code tag body) :
    lenTooLarge p = false ∧ (q ≠ [] → frameComplete p = false) ∧ (q = [] → frameComplete p = true) := by
  rw [frameBytes_eq] at hp
  have hlen := congrArg List.length hp
  simp only [List.length_append, List.length_cons, List.length_nil] at hlen
  match p, hp with
  | [], _ => exact ⟨rfl, fun _ => rfl, fun hq => by simp [hq] at hlen⟩
  | [x], _ =>
    refine ⟨rfl, fun _ => rfl, fun hq => ?_⟩
    simp [hq] at hlen
  | x :: y :: rest, hp =>
    obtain ⟨-, hp⟩ := List.cons.inj hp
    obtain ⟨rfl, -⟩ := List.cons.inj hp
    have hcount : rest.length + q.length = body.length + 4 := by simp at hlen; omega
    refine ⟨?_, fun hq => ?_, fun hq => ?_⟩
    · cases rest with
      | nil =>
        have := toNat_len h
        simp only [lenTooLarge, this, decide_eq_false_iff_not]
        omega
      | cons => rfl
    · have := List.length_pos_iff.mpr hq
      simp only [frameComplete, toNat_len h, decide_eq_false_iff_not]
      omega
    · subst hq
      simp only [frameComplete, toNat_len h, decide_eq_true_eq]
      simpa using hcount

/-- The bytes of a frame that are still to come, received by a receiver that holds those before them. -/
theorem receiveBytes_rest {code tag : Byte} {body : List Byte} (h : body.length ≤ 193) (q : List Byte) :
    ∀ (p : List Byte) (s : State), p ++ q = frameBytes code tag body → q ≠ [] → s.lnk.rx = .assembling p →
      receiveBytes q s = completeFrame (frameBytes code tag body) (setRx .hunting s) := by
  induction q with
  | nil => exact fun _ _ _ hq => absurd rfl hq
  | cons b q ih =>
    intro p s hp _ hrx
    have hp' : (p ++ [b]) ++ q = frameBytes code tag body := by simpa using hp
    obtain ⟨hlen, hmore, hdone⟩ := frame_beginnings h hp'
    change receiveBytes q (receiveByte b false s) = _
    by_cases hq : q = []
    · subst hq
      rw [receiveByte_complete hrx hlen (hdone rfl), show p ++ [b] = frameBytes code tag body by simpa using hp']
      rfl
    · rw [receiveByte_assembling hrx hlen (hmore hq), ih (p ++ [b]) _ hp' hq rfl]
      rfl

/-! ### What the request's own command does -/

section Notices

variable (tag : Byte) (s : State)

theorem takeDetector_notices (d : Nat) : (takeDetector tag d s).notices = s.notices := by
  unfold takeDetector
  split <;> rfl

theorem planRead_notices (n : SlotNo) : (planRead s n).notices = s.notices := by
  unfold planRead readSlot
  split
  · rfl
  · split
    · rfl
    · dsimp only
      split
      · rfl
      · split <;> rfl

theorem takePlanRead_notices (slot : Nat) (k : PlanSectionName) : (takePlanRead tag slot k s).notices = s.notices := by
  unfold takePlanRead
  split
  · rfl
  · exact planRead_notices s _

theorem ite_notices {c : Prop} [Decidable c] {u v : State} (hu : u.notices = s.notices) (hv : v.notices = s.notices) :
    (if c then u else v).notices = s.notices := by
  split
  · exact hu
  · exact hv

theorem takeFaultClear_notices : (takeFaultClear tag s).notices = s.notices := by
  unfold takeFaultClear
  refine ite_notices s rfl ?_
  split
  · rfl
  · exact ite_notices s rfl (ite_notices s rfl rfl)

theorem takePlanSection_notices (c : PlanSectionArg) : (takePlanSection tag c s).notices = s.notices := by
  unfold takePlanSection
  refine ite_notices s rfl ?_
  split
  · rfl
  · split
    · rfl
    · exact ite_notices s rfl rfl

theorem takePlanStore_notices (slot : Nat) : (takePlanStore tag slot s).notices = s.notices := by
  unfold takePlanStore
  split
  · rfl
  · split
    · rfl
    · refine ite_notices s rfl (ite_notices s rfl (ite_notices s rfl ?_))
      split
      · rfl
      · split <;> rfl

theorem takeTableCommit_notices : (takeTableCommit tag s).notices = s.notices := by
  unfold takeTableCommit
  refine ite_notices s rfl (ite_notices s rfl (ite_notices s rfl ?_))
  split
  · rfl
  · split <;> rfl

theorem takeStartPlanSet_notices (slot : Nat) : (takeStartPlanSet tag slot s).notices = s.notices := by
  unfold takeStartPlanSet
  split
  · rfl
  · exact ite_notices s rfl rfl

end Notices

/-- A request's own command dispatches it, and works its notices off or sends none. -/
theorem exec_of_requestOf {i : Instr} {x : Byte × Byte × List Byte} (h : requestOf i = some x) (s : State) :
    exec i s = .next (settle Config.reactionBound (dispatch i s.begun))
      ∨ (exec i s = .next (dispatch i s.begun) ∧ (dispatch i s.begun).notices = s.notices) := by
  have ite {c : Prop} [Decidable c] {u v : State} (hu : u.notices = s.notices) (hv : v.notices = s.notices) :=
    ite_notices s (c := c) hu hv
  cases i with
  | status | trams | calls | stack | tableLock => exact .inr ⟨rfl, rfl⟩
  | groups | faults | tableRead | linkSet | tableUnlock => exact .inr ⟨rfl, ite rfl rfl⟩
  | tableSection => exact .inr ⟨rfl, ite rfl (ite rfl rfl)⟩
  | protectSet => exact .inr ⟨rfl, ite rfl (ite rfl (ite rfl rfl))⟩
  | detector => exact .inr ⟨rfl, takeDetector_notices ..⟩
  | planRead => exact .inr ⟨rfl, takePlanRead_notices ..⟩
  | faultClear => exact .inr ⟨rfl, takeFaultClear_notices ..⟩
  | planSection => exact .inr ⟨rfl, takePlanSection_notices ..⟩
  | planStore => exact .inr ⟨rfl, takePlanStore_notices ..⟩
  | tableCommit => exact .inr ⟨rfl, takeTableCommit_notices ..⟩
  | startPlanSet => exact .inr ⟨rfl, takeStartPlanSet_notices ..⟩
  | modeRequest | manualPost | planSelect | demandPlace | detectorMask | tramIn | tramOut | callPlace | callCancel | restart =>
    exact .inl rfl
  | _ => cases h

theorem settle_of_no_notices {s : State} (h : s.notices = []) (fuel : Nat) : settle fuel s = s := by
  cases fuel with
  | zero => rfl
  | succ fuel => unfold settle; rw [h]

/-- Settles O31. -/
theorem frameDeliversItsRequest : Obligations.FrameDeliversItsRequest := by
  intro i frame s hw hframe
  obtain ⟨⟨code, tag, body⟩, hreq, rfl⟩ := Option.map_eq_some_iff.mp hframe
  have hlen := length_le_of_bodyLength (bodyLength_requestOf hw hreq)
  have hcomplete (u : State) : completeFrame (frameBytes code tag body) u = dispatch i u := by
    rw [completeFrame_frameBytes hlen, receiveRequest_requestOf hw hreq]
  refine ⟨fun hrx => ?_, fun front b hfront hrx => ?_⟩
  · have hcons := frameBytes_eq code tag body
    have hstart : receiveBytes (frameBytes code tag body) s
        = receiveBytes (frameBytes code tag body).tail (setRx (.assembling [startByte]) s) := by
      rw [hcons]
      exact congrArg (receiveBytes _) (receiveByte_hunting_start hrx)
    rw [hstart, receiveBytes_rest hlen (frameBytes code tag body).tail [startByte] (setRx (.assembling [startByte]) s)
      (by rw [hcons]; rfl) (by rw [hcons]; exact List.cons_ne_nil _ _) rfl, hcomplete]
    have : setRx .hunting (setRx (.assembling [startByte]) s) = s := by
      change { s with lnk := { s.lnk with rx := .hunting } } = s
      rw [← hrx]
    rw [this]
  · intro h u
    have hbyte : exec (.linkByte b false) s = .next (settle Config.reactionBound u) := by
      have hp : (front ++ [b]) ++ [] = frameBytes code tag body := by rw [List.append_nil]; exact hfront.symm
      obtain ⟨htoo, -, hdone⟩ := frame_beginnings hlen hp
      rw [exec_linkByte, receiveByte_complete (s := s.begun) hrx htoo (hdone rfl), ← hfront, hcomplete]
      rfl
    have hexec := exec_of_requestOf hreq h
    refine ⟨hbyte, hexec, fun hn => ?_⟩
    obtain he | ⟨he, hu⟩ := hexec
    · rw [hbyte, he]
    · rw [hbyte, he, settle_of_no_notices (hu.trans hn)]

end Sys2Proof.Machine
end

section
/-! ## One tenth (section 2.1)

Every timer moves in `advance`; `tick` puts the events that have fallen due into the queue, in some order. -/

namespace Sys2Proof.Machine

variable (s : State)

/-! ### Every timer -/

theorem grp_tick (g : GroupId) : (tick s).grp g = (s.grp g).tick (s.times g).gap := by
  simp [tick, freeOrder, advance, State.grp, State.begun]
  rfl

theorem det_tick (d : DetId) : (tick s).det d = (s.det d).tick := by
  simp [tick, freeOrder, advance, State.det, State.begun]

theorem dem_tick (g : GroupId) :
    (tick s).dem g = if waitsRise s.jmc.mode = true then (s.dem g).tick else s.dem g := by
  have : (tick s).dem g = (if waitsRise s.jmc.mode = true then s.seq.demand.map Demand.tick else s.seq.demand)[g] := rfl
  rw [this]
  split
  · exact Vector.getElem_map ..
  · rfl

theorem app_tick (a : ApproachId) : (tick s).app a = (s.app a).tick := by
  simp [tick, freeOrder, advance, State.app, State.begun]

theorem cap_tick (a : ApproachId) : (tick s).cap a = (s.cap a).tick := by
  simp [tick, freeOrder, advance, State.cap, State.begun]

theorem mon_tick (g : GroupId) : (tick s).mon g = tickMon s.begun g (s.mon g) := by
  simp [tick, freeOrder, advance, State.mon, State.begun]

theorem waitsRise_iff {m : Mode} : waitsRise m = true ↔ m ≠ .dark ∧ m ≠ .flash := by simp [waitsRise]

/-- Settles O5. -/
theorem tenthMovesEveryTimer : Obligations.TenthMovesEveryTimer := by
  intro s hp
  refine ⟨tick s, step_nil hp, fun g => ?groups, fun d => det_tick s d, rfl, rfl, rfl, rfl, fun g => ?demand, rfl, ?hold, rfl, rfl,
    rfl, fun a => app_tick s a, rfl, fun a n h => ?loaded, fun a h => ?cap, rfl, rfl, rfl, fun g => ?monitor, ?drop, rfl, rfl, rfl, rfl,
    rfl, rfl, rfl, rfl⟩
  case groups =>
    rw [grp_tick]
    simp only [GroupRec.tick, Bool.or_eq_true, decide_eq_true_eq]
  case demand =>
    rw [dem_tick]
    by_cases hm : s.jmc.mode ≠ .dark ∧ s.jmc.mode ≠ .flash
    · rw [if_pos (waitsRise_iff.mpr hm), Demand.tick]
      exact if_congr ⟨fun h => ⟨hm.1, hm.2, h⟩, fun h => h.2.2⟩ rfl rfl
    · rw [if_neg fun e => hm (waitsRise_iff.mp e), if_neg fun h => hm ⟨h.1, h.2.1⟩]
  case hold =>
    change (if s.stageRunning = true then _ else _) = _
    exact if_congr (by simp [State.stageRunning]) rfl rfl
  case loaded => rw [cap_tick, h]; rfl
  case cap =>
    rw [cap_tick]
    obtain h | h := h <;> rw [h] <;> rfl
  case monitor => exact mon_tick s g
  case drop =>
    change dropTimerNext s = _
    rw [dropTimerNext]
    exact if_congr (by simp) rfl rfl

end Sys2Proof.Machine
end

section
/-! ### The events that fall due -/

namespace Sys2Proof.Machine

/-- A free order of a list is a permutation of it. -/
theorem arrange_perm {α : Type} (fuel k : Nat) (l : List α) : (arrange fuel k l).Perm l := by
  induction fuel generalizing k l with
  | zero => rfl
  | succ fuel ih =>
    match l with
    | [] => rfl
    | [x] => rfl
    | x :: y :: l =>
      have hi : Config.tieBreak k % (x :: y :: l).length < (x :: y :: l).length := Nat.mod_lt _ (by simp)
      change List.Perm (_ :: arrange fuel (k + 1) _) _
      rw [List.getD_eq_getElem _ _ hi]
      exact ((ih _ _).cons _).trans (List.getElem_cons_eraseIdx_perm hi)

theorem has_ofList (l : List GroupId) (g : GroupId) : GroupSet.has (GroupSet.ofList l) g = true ↔ g ∈ l := by
  have h := has_foldl_put (fun _ => true) l 0 g
  simp only [if_true, Bool.and_true] at h
  rw [GroupSet.ofList, h]
  simp [GroupSet.has]

theorem mem_dueIf {due : Bool} {i j : Instr} : i ∈ dueIf due j ↔ due = true ∧ i = j := by
  cases due <;> simp [dueIf]

section Due

variable {old s : State} {i : Instr}

theorem mem_dueEvents : i ∈ dueEvents old s ↔
    (∃ g, i ∈ groupEvents old s g) ∨ (∃ g, i ∈ monitorEvents old s g) ∨ (∃ a, i ∈ approachEvents old s a)
      ∨ (∃ c ∈ s.pri.calls, (c.state = .serving ∧ c.remaining = 0) ∧ .callHoldExpiry c.id = i)
      ∨ (∃ d, i ∈ detectorEvents s d) ∨ i ∈ otherEvents old s := by
  simp [dueEvents, mem_groupIds, approachIds, detIds, or_assoc, and_assoc]

theorem mem_groupEvents {g : GroupId} : i ∈ groupEvents old s g ↔
    (((old.grp g).cr > 0 ∧ ((s.grp g).cr = 0 ∨ (s.grp g).cr = (s.groupDef g).opent)) ∧ i = .clearanceCountdown g)
      ∨ (openingDue s g = true ∧ i = .openingExpiry g) ∨ (minDue s g = true ∧ i = .minCompletion g)
      ∨ (gapDue s g = true ∧ i = .gapTimerExpiry g) ∨ (maxDue s g = true ∧ i = .maxGreenReached g)
      ∨ (closingDue s g = true ∧ i = .closingExpiry g) ∨ (becomesOverdue old s g = true ∧ i = .groupOverdue g) := by
  simp only [groupEvents, List.mem_append, mem_dueIf, or_assoc, Bool.and_eq_true, Bool.or_eq_true, decide_eq_true_eq]

theorem mem_monitorEvents {g : GroupId} : i ∈ monitorEvents old s g ↔
    (occursAmong s (mismatchConds g) = true ∧ i = .mismatchTimerExceeds g)
      ∨ (occursAmong s [.senseSilent g] = true ∧ i = .senseSilence g)
      ∨ (((old.mon g).go = true ∧ (old.mon g).scr > s.monitorStart.mtol ∧ (s.mon g).scr = s.monitorStart.mtol)
        ∧ i = .shadowClearanceFallsToMtol g) := by
  simp only [monitorEvents, List.mem_append, mem_dueIf, or_assoc, Bool.and_eq_true, decide_eq_true_eq, and_assoc]

theorem mem_approachEvents {a : ApproachId} : i ∈ approachEvents old s a ↔
    (((s.appSet a).present = true ∧ ∃ r ∈ (s.app a).queue, (s.appSet a).tmax ≤ r.age) ∧ i = .tramTimeout a)
      ∨ (recoveryDue s a = true ∧ i = .recoveryExpiry a) ∨ (guardDue old a = true ∧ i = .guardExpiry a)
      ∨ (capDue s a = true ∧ i = .capExpiry a) := by
  simp only [approachEvents, List.mem_append, mem_dueIf, or_assoc]
  refine or_congr_left ?_
  by_cases hp : (s.appSet a).present = true
  · rw [if_pos hp, List.mem_map, and_iff_right hp]
    constructor
    · rintro ⟨r, hr, rfl⟩
      obtain ⟨hr, hage⟩ := List.mem_filter.mp hr
      exact ⟨⟨r, hr, by simpa using hage⟩, rfl⟩
    · rintro ⟨⟨r, hr, hage⟩, rfl⟩
      exact ⟨r, List.mem_filter.mpr ⟨hr, by simpa using hage⟩, rfl⟩
  · simp [hp]

theorem mem_detectorEvents {d : DetId} : i ∈ detectorEvents s d ↔
    (silenceDue s d = true ∧ i = .silenceConfirmed d) ∨ (stuckDue s d = true ∧ i = .stuckLimitReached d) := by
  simp only [detectorEvents, List.mem_append, mem_dueIf]

theorem mem_otherEvents : i ∈ otherEvents old s ↔
    (verificationDue s = true ∧ i = .verificationEnd) ∨ (s.sge.lampRepeat = 0 ∧ i = .lampCommandRepeat)
      ∨ (endCountdownDue s = true ∧ i = .endCountdownExpiry)
      ∨ ((manualHoldDue s = true ∧ manualHoldDue old = false) ∧ i = .manualHoldExpiry)
      ∨ (startFlashingDue s = true ∧ i = .startFlashingExpiry) ∨ (allRedDue s = true ∧ i = .allRedExpiry)
      ∨ (comparisonDue s = true ∧ i = .integrityComparison) ∨ (safeDropDue s = true ∧ i = .safeDrop)
      ∨ (windowDue old = true ∧ i = .restartWindowEnd) ∨ ((planWrite? s).isSome = true ∧ i = .planWriteDone)
      ∨ ((tableWrite? s).isSome = true ∧ i = .tableWriteDone) ∨ (s.ruling ≠ s.pri.rulingHeld ∧ i = .ageReversesOrder) := by
  simp only [otherEvents, List.mem_append, mem_dueIf, or_assoc, Bool.and_eq_true, decide_eq_true_eq, Bool.not_eq_true']

/-! What each event's command is due by -/

theorem mem_dueEvents_group (g : GroupId) :
    (.clearanceCountdown g ∈ dueEvents old s ↔
        (old.grp g).cr > 0 ∧ ((s.grp g).cr = 0 ∨ (s.grp g).cr = (s.groupDef g).opent))
      ∧ (.openingExpiry g ∈ dueEvents old s ↔ openingDue s g = true)
      ∧ (.closingExpiry g ∈ dueEvents old s ↔ closingDue s g = true)
      ∧ (.minCompletion g ∈ dueEvents old s ↔ minDue s g = true)
      ∧ (.gapTimerExpiry g ∈ dueEvents old s ↔ gapDue s g = true)
      ∧ (.maxGreenReached g ∈ dueEvents old s ↔ maxDue s g = true)
      ∧ (.groupOverdue g ∈ dueEvents old s ↔ becomesOverdue old s g = true)
      ∧ (.mismatchTimerExceeds g ∈ dueEvents old s ↔ occursAmong s (mismatchConds g) = true)
      ∧ (.senseSilence g ∈ dueEvents old s ↔ occursAmong s [.senseSilent g] = true)
      ∧ (.shadowClearanceFallsToMtol g ∈ dueEvents old s ↔
        (old.mon g).go = true ∧ (old.mon g).scr > s.monitorStart.mtol ∧ (s.mon g).scr = s.monitorStart.mtol) := by
  simp [mem_dueEvents, mem_groupEvents, mem_monitorEvents, mem_approachEvents, mem_detectorEvents, mem_otherEvents]

theorem mem_dueEvents_approach (a : ApproachId) :
    (.tramTimeout a ∈ dueEvents old s ↔ (s.appSet a).present = true ∧ ∃ r ∈ (s.app a).queue, (s.appSet a).tmax ≤ r.age)
      ∧ (.recoveryExpiry a ∈ dueEvents old s ↔ recoveryDue s a = true)
      ∧ (.guardExpiry a ∈ dueEvents old s ↔ guardDue old a = true)
      ∧ (.capExpiry a ∈ dueEvents old s ↔ capDue s a = true) := by
  simp [mem_dueEvents, mem_groupEvents, mem_monitorEvents, mem_approachEvents, mem_detectorEvents, mem_otherEvents]

theorem mem_dueEvents_detector (d : DetId) :
    (.silenceConfirmed d ∈ dueEvents old s ↔ silenceDue s d = true)
      ∧ (.stuckLimitReached d ∈ dueEvents old s ↔ stuckDue s d = true) := by
  simp [mem_dueEvents, mem_groupEvents, mem_monitorEvents, mem_approachEvents, mem_detectorEvents, mem_otherEvents]

theorem mem_dueEvents_call (id : Nat) :
    .callHoldExpiry id ∈ dueEvents old s ↔ ∃ c ∈ s.pri.calls, c.id = id ∧ c.state = .serving ∧ c.remaining = 0 := by
  simp [mem_dueEvents, mem_groupEvents, mem_monitorEvents, mem_approachEvents, mem_detectorEvents, mem_otherEvents, and_comm,
    and_assoc, and_left_comm]

theorem mem_dueEvents_other :
    (.verificationEnd ∈ dueEvents old s ↔ verificationDue s = true)
      ∧ (.lampCommandRepeat ∈ dueEvents old s ↔ s.sge.lampRepeat = 0)
      ∧ (.endCountdownExpiry ∈ dueEvents old s ↔ endCountdownDue s = true)
      ∧ (.manualHoldExpiry ∈ dueEvents old s ↔ manualHoldDue s = true ∧ manualHoldDue old = false)
      ∧ (.startFlashingExpiry ∈ dueEvents old s ↔ startFlashingDue s = true)
      ∧ (.allRedExpiry ∈ dueEvents old s ↔ allRedDue s = true)
      ∧ (.integrityComparison ∈ dueEvents old s ↔ comparisonDue s = true)
      ∧ (.safeDrop ∈ dueEvents old s ↔ safeDropDue s = true)
      ∧ (.restartWindowEnd ∈ dueEvents old s ↔ windowDue old = true)
      ∧ (.planWriteDone ∈ dueEvents old s ↔ (planWrite? s).isSome = true)
      ∧ (.tableWriteDone ∈ dueEvents old s ↔ (tableWrite? s).isSome = true)
      ∧ (.ageReversesOrder ∈ dueEvents old s ↔ s.ruling ≠ s.pri.rulingHeld) := by
  simp [mem_dueEvents, mem_groupEvents, mem_monitorEvents, mem_approachEvents, mem_detectorEvents, mem_otherEvents]

/-- The command of an event that a tenth can bring: no request, no reset, no event of a line. -/
def Instr.ofTenth : Instr → Bool
  | .verificationEnd | .silenceConfirmed _ | .stuckLimitReached _ | .clearanceCountdown _ | .openingExpiry _ | .minCompletion _
  | .gapTimerExpiry _ | .maxGreenReached _ | .closingExpiry _ | .lampCommandRepeat | .groupOverdue _ | .endCountdownExpiry
  | .manualHoldExpiry | .tramTimeout _ | .recoveryExpiry _ | .guardExpiry _ | .capExpiry _ | .callHoldExpiry _
  | .startFlashingExpiry | .allRedExpiry | .mismatchTimerExceeds _ | .senseSilence _ | .integrityComparison | .safeDrop
  | .restartWindowEnd | .planWriteDone | .tableWriteDone | .shadowClearanceFallsToMtol _ | .ageReversesOrder => true
  | _ => false

theorem ofTenth_of_mem_dueEvents (h : i ∈ dueEvents old s) : Instr.ofTenth i = true := by
  rw [mem_dueEvents] at h
  obtain ⟨g, h⟩ | ⟨g, h⟩ | ⟨a, h⟩ | ⟨c, -, -, rfl⟩ | ⟨d, h⟩ | h := h
  · obtain ⟨-, rfl⟩ | ⟨-, rfl⟩ | ⟨-, rfl⟩ | ⟨-, rfl⟩ | ⟨-, rfl⟩ | ⟨-, rfl⟩ | ⟨-, rfl⟩ := mem_groupEvents.mp h <;> rfl
  · obtain ⟨-, rfl⟩ | ⟨-, rfl⟩ | ⟨-, rfl⟩ := mem_monitorEvents.mp h <;> rfl
  · obtain ⟨-, rfl⟩ | ⟨-, rfl⟩ | ⟨-, rfl⟩ | ⟨-, rfl⟩ := mem_approachEvents.mp h <;> rfl
  · rfl
  · obtain ⟨-, rfl⟩ | ⟨-, rfl⟩ := mem_detectorEvents.mp h <;> rfl
  · obtain ⟨-, rfl⟩ | ⟨-, rfl⟩ | ⟨-, rfl⟩ | ⟨-, rfl⟩ | ⟨-, rfl⟩ | ⟨-, rfl⟩ | ⟨-, rfl⟩ | ⟨-, rfl⟩ | ⟨-, rfl⟩ | ⟨-, rfl⟩ | ⟨-, rfl⟩
      | ⟨-, rfl⟩ := mem_otherEvents.mp h <;> rfl

theorem requestFrame_of_ofTenth (h : Instr.ofTenth i = true) : requestFrame i = none := by
  cases i with
  | status | groups | detector | trams | calls | faults | stack | planRead | tableRead | modeRequest | manualPost | planSelect
  | demandPlace | detectorMask | tramIn | tramOut | callPlace | callCancel | faultClear | restart | linkSet | planSection
  | planStore | tableSection | tableCommit | tableLock | tableUnlock | protectSet | startPlanSet => cases h
  | _ => rfl

end Due

/-! The conditions written out -/

theorem closingDue_iff {s : State} {g : GroupId} :
    closingDue s g = true ↔ (s.grp g).state = .closing ∧ (s.grp g).phaseTimer = 0 := by
  simp [closingDue]

theorem occursAmong_iff {s : State} {l : List Cond} :
    occursAmong s l = true ↔ ∃ x ∈ l, s.condCounts x = true ∧ x ∉ s.cmon.counted := by
  simp [occursAmong]

theorem mem_mismatchConds {x : Cond} {g : GroupId} :
    x ∈ mismatchConds g ↔ x = .goMismatch g ∨ x = .aspectMismatch g ∨ x = .redOut g := by
  simp [mismatchConds]

theorem silenceDue_iff {s : State} {d : DetId} : silenceDue s d = true ↔
    30 ≤ (s.det d).silence ∧ ((s.det d).silent = false ∨ (s.det d).settled = false) := by
  simp [silenceDue, Config.detectorSilence]

theorem stuckDue_iff {s : State} {d : DetId} : stuckDue s d = true ↔ (s.detSet d).kind ≠ .unused
    ∧ (((s.det d).occupied = true ∧ (s.detSet d).stuckOn ≠ 0 ∧ (s.detSet d).stuckOn ≤ (s.det d).sinceChange
        ∧ (s.det d).stuckOn = false)
      ∨ ((s.det d).occupied = false ∧ (s.detSet d).stuckOff ≠ 0 ∧ (s.detSet d).stuckOff ≤ (s.det d).sinceChange
        ∧ (s.det d).stuckOff = false)) := by
  by_cases hk : (s.detSet d).kind = .unused
  · simp [stuckDue, retestStuck, hk]
  · simp [stuckDue, retestStuck, hk, and_assoc]

theorem manualHoldDue_iff {s : State} : manualHoldDue s = true ↔ s.jmc.mode = .manual ∧ s.seq.manualHold = some 0 := by
  simp [manualHoldDue]

theorem becomesOverdue_iff {old s : State} {g : GroupId} : becomesOverdue old s g = true ↔
    (s.dem g).latched = true ∧ (s.grp g).state ≠ .opened ∧ (s.times g).maxwait ≠ 0 ∧ (s.times g).maxwait < (s.dem g).wait
      ∧ old.overdue g = false := by
  simp [becomesOverdue, State.waitsTooLong, and_assoc]

theorem advance_pending (s : State) : (advance s).pending = s.pending := rfl

theorem tick_pending (s : State) : (tick s).pending =
    s.pending ++ arrange (dueEvents s (advance s.begun)).length (advance s.begun).tie (dueEvents s (advance s.begun)) := by
  simp only [tick, freeOrder, advance_pending, State.begun_pending]

theorem tick_eq (s : State) : tick s = { advance s.begun with
    tie := (tick s).tie, pending := (tick s).pending
    seq := { (advance s.begun).seq with
      overdueAwaited := GroupSet.ofList (groupIds.filter (becomesOverdue s (advance s.begun))) } } := rfl

/-- What a tenth leaves as it is of what the events are due by. -/
theorem advance_reads (s : State) : let u := advance s.begun
    (u.time = s.time + 1 ∧ u.pins = s.pins ∧ u.lnk = s.lnk ∧ u.sge.lampLine = [])
      ∧ (∀ g, u.groupDef g = s.groupDef g ∧ u.times g = s.times g) ∧ (∀ d, u.detSet d = s.detSet d)
      ∧ (∀ a, u.appSet a = s.appSet a) ∧ u.monitorStart = s.monitorStart ∧ u.cmon.counted = s.cmon.counted
      ∧ u.jmc.mode = s.jmc.mode ∧ u.jmc.phase = s.jmc.phase ∧ u.pts.tables = s.pts.tables
      ∧ u.pri.rulingHeld = s.pri.rulingHeld :=
  ⟨⟨rfl, rfl, rfl, rfl⟩, fun _ => ⟨rfl, rfl⟩, fun _ => rfl, fun _ => rfl, rfl, rfl, rfl, rfl, rfl, rfl⟩

/-- `tick s` reads as the advanced state but for the queue, the free choices read and the events SEQ has yet to take. -/
theorem reads_of_eq {t u : State} {k : Nat} {l : List Instr} {w : GroupSet}
    (h : t = { u with tie := k, pending := l, seq := { u.seq with overdueAwaited := w } }) :
    (t.time = u.time ∧ t.pins = u.pins ∧ t.lnk = u.lnk ∧ t.sge = u.sge ∧ t.seq.overdueAwaited = w)
      ∧ (∀ g, t.grp g = u.grp g ∧ t.dem g = u.dem g ∧ t.mon g = u.mon g) ∧ (∀ d, t.det d = u.det d)
      ∧ (∀ a, t.app a = u.app a ∧ t.cap a = u.cap a) ∧ t.pri = u.pri ∧ t.jmc = u.jmc ∧ t.pts = u.pts ∧ t.cmon = u.cmon
      ∧ (t.seq.h = u.seq.h ∧ t.seq.manualHold = u.seq.manualHold) ∧ (∀ x, t.condCounts x = u.condCounts x)
      ∧ (∀ x, t.condPresent x = u.condPresent x) ∧ t.ruling = u.ruling := by
  subst h
  exact ⟨⟨rfl, rfl, rfl, rfl, rfl⟩, fun _ => ⟨rfl, rfl, rfl⟩, fun _ => rfl, fun _ => ⟨rfl, rfl⟩, rfl, rfl, rfl, rfl, ⟨rfl, rfl⟩,
    fun _ => rfl, fun _ => rfl, rfl⟩

/-- Settles O4. The tenth queues `dueEvents`, in the order the free choice gives; each clause is when its event is among them. -/
theorem idleTenthQueuesEveryDueEvent : Obligations.IdleTenthQueuesEveryDueEvent := by
  intro s hp
  refine ⟨tick s, step_nil hp, ?_⟩
  have hperm : (tick s).pending.Perm (dueEvents s (advance s.begun)) := by
    rw [tick_pending, hp, List.nil_append]
    exact arrange_perm _ _ _
  obtain ⟨⟨htime, hpins, hlnk, hsge, hawaited⟩, hgroup, hdet, happ, hpri, hjmc, hpts, hcmon, ⟨hh, hhold⟩, hcounts, hpresent, hruling⟩ :=
    reads_of_eq (tick_eq s)
  obtain ⟨⟨atime, apins, alnk, alamp⟩, adef, adet, aapp, amon, acounted, amode, aphase, atables, aheld⟩ := advance_reads s
  generalize tick s = t at *
  generalize advance s.begun = u at *
  have hmem (i : Instr) : i ∈ t.pending ↔ i ∈ dueEvents s u := hperm.mem_iff
  have htenth {i : Instr} (h : i ∈ t.pending) : Instr.ofTenth i = true := ofTenth_of_mem_dueEvents ((hmem i).mp h)
  refine ⟨hperm, htime.trans atime, hpins.trans apins, hlnk.trans alnk, hsge ▸ alamp, ?_⟩
  intro due
  have hdue (i : Instr) : due i ↔ i ∈ dueEvents s u := hmem i
  refine ⟨fun g => ?group, fun d => ?detector, fun a => ?approach, fun id => ?call, ?other⟩
  case group =>
    obtain ⟨h1, h2, h3, h4, h5, h6, h7, h8, h9, h10⟩ := mem_dueEvents_group (old := s) (s := u) g
    obtain ⟨hgrp, hdem, hmon⟩ := hgroup g
    obtain ⟨adef, atimes⟩ := adef g
    simp only [hdue, h1, h2, h3, h4, h5, h6, h7, h8, h9, h10, openingDue_iff, closingDue_iff, minDue_iff, gapDue_iff, maxDue_iff,
      becomesOverdue_iff, mem_mismatchConds, occursAmong_iff, hgrp, hdem, hmon, adef, atimes, amon, hcounts, acounted,
      hawaited, has_ofList, List.mem_filter, mem_groupIds, true_and, List.mem_singleton, exists_eq_left, gt_iff_lt, and_self]
  case detector =>
    obtain ⟨h1, h2⟩ := mem_dueEvents_detector (old := s) (s := u) d
    simp only [hdue, h1, h2, silenceDue_iff, stuckDue_iff, hdet, adet, and_self]
  case approach =>
    obtain ⟨h1, h2, h3, h4⟩ := mem_dueEvents_approach (old := s) (s := u) a
    simp only [hdue, h1, h2, h3, h4, recoveryDue, guardDue, capDue, Bool.and_eq_true, decide_eq_true_eq, happ, aapp, and_self]
  case call => rw [hdue, mem_dueEvents_call, hpri]
  case other =>
    obtain ⟨h1, h2, h3, h4, h5, h6, h7, h8, h9, h10, h11, h12⟩ := mem_dueEvents_other (old := s) (s := u)
    simp only [hdue, h1, h2, h3, h4, h5, h6, h7, h8, h9, h10, h11, h12]
    refine ⟨?verify, by rw [hsge], ?countdown, ?hold, ?start, ?red, ?compare, ?drop, ?window, ?plan, ?tables, by rw [hruling, aheld],
      fun i h => requestFrame_of_ofTenth (ofTenth_of_mem_dueEvents h), fun h => ?_, fun h => ?_, fun h => ?_, fun _ _ h => ?_,
      fun _ _ _ _ h => ?_, fun _ _ _ _ _ _ h => ?_⟩
    case verify => rw [verificationDue, decide_eq_true_iff, hpts]
    case countdown => rw [endCountdownDue, decide_eq_true_iff, hh]
    case hold =>
      rw [manualHoldDue_iff, ← Bool.not_eq_true, manualHoldDue_iff, amode, hhold]
      exact ⟨fun ⟨⟨h1, h2⟩, h3⟩ => ⟨h1, h2, fun e => h3 ⟨h1, e⟩⟩, fun ⟨h1, h2, h3⟩ => ⟨⟨h1, h2⟩, fun e => h3 e.2⟩⟩
    case start => simp only [startFlashingDue, Bool.and_eq_true, decide_eq_true_eq, and_assoc, amode, aphase, hjmc]
    case red => simp only [allRedDue, Bool.and_eq_true, decide_eq_true_eq, and_assoc, amode, aphase, hjmc]
    case compare => simp only [comparisonDue, Bool.and_eq_true, decide_eq_true_eq, atables, hcmon]
    case drop =>
      simp only [safeDropDue, Bool.and_eq_true, decide_eq_true_eq, State.goMismatchPresent, List.any_eq_true, mem_groupIds, true_and,
        and_assoc, amode, hcmon, hpresent, Config.safeDropTime, ge_iff_le]
    case window => rw [windowDue, decide_eq_true_iff]
    case plan =>
      rw [Option.isSome_iff_exists, Prod.exists, hpts]
      exact exists_congr fun n => exists_congr fun p => planWrite?_eq_some
    case tables =>
      rw [Option.isSome_iff_exists, hpts, ← amode]
      refine ⟨fun ⟨x, hx⟩ => ?_, fun ⟨hm, x, hx⟩ => ⟨x, tableWrite?_of_due hx hm⟩⟩
      obtain ⟨hw, hm⟩ := tableWrite?_eq_some hx
      exact ⟨hm, x, hw⟩
    all_goals cases ofTenth_of_mem_dueEvents h

end Sys2Proof.Machine
end

section
/-! ### DEMAND_PLACE and MANUAL_POST (R67, R69, R156, R157) -/

namespace Sys2Proof.Machine

variable {s : State} {g : GroupId} (tag : Byte)

theorem exec_demandPlace (n : Nat) (s : State) :
    exec (.demandPlace tag n) s = .next (settle Config.reactionBound (takeDemandPlace tag n s.begun)) := rfl

theorem takeDemandPlace_range {n : Nat} (h : n = 0 ∨ 24 < n) (s : State) :
    takeDemandPlace tag n s = s.reply 0x0D tag .range := by
  simp only [takeDemandPlace, groupNumbered, numbered_eq_none h]

theorem takeDemandPlace_number (g : GroupId) (s : State) : takeDemandPlace tag (number g) s =
    if s.present g = false then s.reply 0x0D tag .invalid
    else if (s.grp g).state = .opened then s.reply 0x0D tag .ok [0]
    else latch g .link (s.reply 0x0D tag .ok [1]) := by
  simp only [takeDemandPlace, groupNumbered, numbered_number, Bool.not_eq_true']
  rfl

/-- A source other than BUTTON lights no wait indicator. -/
theorem latch_of_latched {src : DemandSource} (hsrc : src ≠ .button) (h : (s.dem g).latched = true) : latch g src s =
    (s.onDem g fun e => { e with sources := DemandSet.add (s.dem g).sources src }).push .choose := by
  rw [latch, if_neg (by simp [hsrc]), if_pos h]
  rfl

theorem latch_of_not_latched {src : DemandSource} (hsrc : src ≠ .button) (h : (s.dem g).latched = false) : latch g src s =
    ((s.onDem g fun _ => { latched := true, sources := DemandSet.add 0 src, wait := 0 }).report (.demandLatched g src)).push
      .choose := by
  rw [latch, if_neg (by simp [hsrc]), if_neg (by simp [h])]

/-- Settles O39. -/
theorem demandPlaceLatchesOutsideOpen : Obligations.DemandPlaceLatchesOutsideOpen := by
  intro tag s
  refine ⟨fun n hn => ?range, fun g hp => ?absent, fun g hp hst => ?opened, fun g hp hst => ?closed⟩
  case range => rw [exec_demandPlace, takeDemandPlace_range tag hn]
  case absent => rw [exec_demandPlace, takeDemandPlace_number, if_pos (show s.begun.present g = false from hp)]
  case opened =>
    rw [exec_demandPlace, takeDemandPlace_number, if_neg (show ¬ s.begun.present g = false from by simp [show s.begun.present g = true from hp]),
      if_pos (show (s.begun.grp g).state = .opened from hst)]
  case closed =>
    intro r
    rw [exec_demandPlace, takeDemandPlace_number, if_neg (show ¬ s.begun.present g = false from by simp [show s.begun.present g = true from hp]),
      if_neg (show ¬ (s.begun.grp g).state = .opened from hst)]
    refine ⟨fun hl => ?_, fun hl => ?_⟩
    · rw [latch_of_not_latched (by decide) (show (r.dem g).latched = false from hl)]
      rfl
    · rw [latch_of_latched (by decide) (show (r.dem g).latched = true from hl)]
      rfl

theorem exec_manualPost (n hold : Nat) (s : State) :
    exec (.manualPost tag n hold) s = .next (settle Config.reactionBound (takeManualPost tag n hold s.begun)) := rfl

theorem takeManualPost_range {n : Nat} (hold : Nat) (h : n = 0 ∨ 16 < n) (s : State) :
    takeManualPost tag n hold s = s.reply 0x0B tag .range := by
  simp only [takeManualPost, stageNumbered, numbered_eq_none h]

theorem clampTo_zero (hi v : Nat) : clampTo 0 hi v = min v hi := by simp [clampTo]

theorem takeManualPost_number (t : StageId) (hold : Nat) (s : State) : takeManualPost tag (number t) hold s =
    if s.jmc.mode ≠ .manual then s.reply 0x0B tag .wrongMode
    else if s.seq.manualSlot.isSome = true then s.reply 0x0B tag .full
    else ((s.reply 0x0B tag (if hold ≤ 1200 then .ok else .clamped)).onSeq fun q =>
      { q with manualSlot := some (t, min hold 1200) }).push .choose := by
  simp only [takeManualPost, stageNumbered, numbered_number, clampTo_zero, min_eq_left_iff]

/-- Settles O40. -/
theorem manualPostFillsTheSlot : Obligations.ManualPostFillsTheSlot := by
  intro tag hold s
  refine ⟨fun n hn => ?range, fun t hm => ?wrongMode, fun t hm hf => ?full, fun t hm hf => ?taken, fun hm hh => ?due, fun hn => ?notDue⟩
  case range => rw [exec_manualPost, takeManualPost_range tag hold hn]
  case wrongMode => rw [exec_manualPost, takeManualPost_number, if_pos (show s.begun.jmc.mode ≠ .manual from hm)]
  case full =>
    rw [exec_manualPost, takeManualPost_number, if_neg (not_not_intro (show s.begun.jmc.mode = .manual from hm)),
      if_pos (show s.begun.seq.manualSlot.isSome = true from hf)]
  case taken =>
    rw [exec_manualPost, takeManualPost_number, if_neg (not_not_intro (show s.begun.jmc.mode = .manual from hm)),
      if_neg (by simp [hf])]
    rfl
  case due => exact congrArg Host.Outcome.next (perform_due (manualHoldDue_iff.mpr ⟨hm, hh⟩))
  case notDue => exact congrArg Host.Outcome.next (perform_notDue fun h => hn (manualHoldDue_iff.mp h))

end Sys2Proof.Machine
end

section
/-! ## What the operations of the Priority Unit leave alone (chapters 5 and 6)

`PriActs A C` bounds what one of them can do: outside the unit no more than `SameOutsidePriority` allows, in the queues no more
than serving the head of an approach in `A`, in the episodes of the others no more than ending them, in the call table nothing unless `C`, on the link nothing but reports, and of the
notices it sends more but takes back none. -/

namespace Sys2Proof.Machine

variable {s t u : State}

theorem SameOutsidePriority.refl (s : State) : SameOutsidePriority s s :=
  ⟨⟨rfl, rfl, rfl, rfl⟩, ⟨rfl, rfl, rfl⟩, rfl, rfl, fun _ => rfl⟩

theorem SameOutsidePriority.trans (h : SameOutsidePriority s t) (k : SameOutsidePriority t u) : SameOutsidePriority s u := by
  obtain ⟨⟨h1, h2, h3, h4⟩, ⟨h5, h6, h7⟩, h8, h9, h10⟩ := h
  obtain ⟨⟨k1, k2, k3, k4⟩, ⟨k5, k6, k7⟩, k8, k9, k10⟩ := k
  refine ⟨⟨k1.trans h1, k2.trans h2, k3.trans h3, k4.trans h4⟩, ⟨k5.trans h5, k6.trans h6, k7.trans h7⟩, ?_, k9.trans h9,
    fun g => ?_⟩
  · rw [← h8, ← k8]
  · rw [← h10 g, ← k10 g]

/-- An update of the parts that the Priority Unit may write. -/
theorem SameOutsidePriority.of_eq (hsge : u.sge = t.sge) (hblocks : u.dti = t.dti ∧ u.cmon = t.cmon ∧ u.jmc = t.jmc ∧ u.pts = t.pts)
    (hkept : u.time = t.time ∧ u.pins = t.pins ∧ u.pending = t.pending)
    (hseq : { u.seq with h := t.seq.h, mark := t.seq.mark, level := t.seq.level } = t.seq) : SameOutsidePriority t u := by
  refine ⟨hblocks, hkept, hseq, by rw [hsge], fun g => ?_⟩
  have : u.grp g = t.grp g := by rw [State.grp, State.grp, hsge]
  rw [this]

/-- The link's queues after reports depend on the link and the time alone. -/
theorem foldl_report_lnk_congr (l : List ReportBody) (hl : t.lnk = u.lnk) (ht : t.time = u.time) :
    (l.foldl State.report t).lnk = (l.foldl State.report u).lnk := by
  induction l generalizing t u with
  | nil => exact hl
  | cons b l ih => exact ih (by rw [State.report_lnk, State.report_lnk, hl, ht]) ht

theorem foldl_report_time (l : List ReportBody) (s : State) : (l.foldl State.report s).time = s.time := by
  induction l generalizing s with
  | nil => rfl
  | cons b l ih => exact ih (s.report b)

/-- The queue as it is, or with another state of its head. -/
def HeadServed (q q' : List TramRec) : Prop :=
  q' = q ∨ ∃ h rest st, q = h :: rest ∧ q' = { h with state := st } :: rest

theorem HeadServed.trans {p q r : List TramRec} (h : HeadServed p q) (k : HeadServed q r) : HeadServed p r := by
  obtain rfl | ⟨x, rest, st, rfl, rfl⟩ := h
  · exact k
  · obtain rfl | ⟨y, rest', st', e, rfl⟩ := k
    · exact .inr ⟨x, rest, st, rfl, rfl⟩
    · obtain ⟨rfl, rfl⟩ := List.cons.inj e
      exact .inr ⟨x, rest, st', rfl, rfl⟩

theorem HeadServed.tags {q q' : List TramRec} (h : HeadServed q q') : q'.map TramRec.tag = q.map TramRec.tag := by
  obtain rfl | ⟨x, rest, st, rfl, rfl⟩ := h <;> rfl

structure PriActs (A : ApproachId → Prop) (C : Prop) (s t : State) : Prop where
  outside : SameOutsidePriority s t
  queues : ∀ b, (t.app b).queue = (s.app b).queue ∨ A b ∧ HeadServed (s.app b).queue (t.app b).queue
  episodes : ∀ b, A b ∨ (t.app b).episode = (s.app b).episode ∨ (t.app b).episode = .idle
  calls : C ∨ t.pri.calls = s.pri.calls
  held : t.pri.rulingHeld = s.pri.rulingHeld
  notices : s.notices <+: t.notices
  reports : ∃ l : List ReportBody, t.lnk = (l.foldl State.report s).lnk

namespace PriActs

variable {A : ApproachId → Prop} {C : Prop}

theorem refl (s : State) : PriActs A C s s := ⟨.refl s, fun _ => .inl rfl, fun _ => .inr (.inl rfl), .inr rfl, rfl, List.prefix_rfl, [], rfl⟩

theorem trans (h : PriActs A C s t) (k : PriActs A C t u) : PriActs A C s u := by
  obtain ⟨l, hl⟩ := h.reports
  obtain ⟨m, hm⟩ := k.reports
  refine ⟨h.outside.trans k.outside, fun b => ?_, fun b => ?_, ?_, k.held.trans h.held, h.notices.trans k.notices, l ++ m, ?_⟩
  · obtain hb | ⟨hA, hb⟩ := h.queues b
    · rw [← hb]
      exact k.queues b
    · obtain kb | ⟨-, kb⟩ := k.queues b
      · rw [kb]
        exact .inr ⟨hA, hb⟩
      · exact .inr ⟨hA, hb.trans kb⟩
  · obtain hb | hb | hb := k.episodes b
    · exact .inl hb
    · rw [hb]
      exact h.episodes b
    · exact .inr (.inr hb)
  · obtain hc | hc := h.calls
    · exact .inl hc
    · exact k.calls.imp id fun kc => kc.trans hc
  · have htime := foldl_report_time l s
    rw [hm, List.foldl_append]
    exact foldl_report_lnk_congr m hl (h.outside.kept.1.trans htime.symm)

theorem foldl {α : Type} (h : PriActs A C s t) (f : State → α → State) (l : List α)
    (hf : ∀ u, ∀ x ∈ l, PriActs A C s u → PriActs A C s (f u x)) : PriActs A C s (l.foldl f t) := by
  induction l generalizing t with
  | nil => exact h
  | cons x l ih =>
    exact ih (hf t x (List.mem_cons_self ..) h) fun u y hy hu => hf u y (List.mem_cons_of_mem x hy) hu

theorem ite {c : Prop} [Decidable c] {t u : State} (ht : c → PriActs A C s t) (hu : ¬ c → PriActs A C s u) :
    PriActs A C s (if c then t else u) := by
  split
  · exact ht ‹_›
  · exact hu ‹_›

section

variable (h : PriActs A C s t)
include h

/-- An update that leaves the queues, the calls and the link as they were. -/
theorem of_outside {u : State} (ho : SameOutsidePriority t u) (hq : ∀ b, (u.app b).queue = (t.app b).queue)
    (he : ∀ b, (u.app b).episode = (t.app b).episode ∨ (u.app b).episode = .idle)
    (hc : u.pri.calls = t.pri.calls) (hr : u.pri.rulingHeld = t.pri.rulingHeld) (hn : t.notices <+: u.notices) (hl : u.lnk = t.lnk) :
    PriActs A C s u :=
  h.trans ⟨ho, fun b => .inl (hq b), fun b => .inr (he b), .inr hc, hr, hn, [], hl⟩

theorem push (n : Notice) : PriActs A C s (t.push n) :=
  h.of_outside (.of_eq rfl ⟨rfl, rfl, rfl, rfl⟩ ⟨rfl, rfl, rfl⟩ rfl) (fun _ => rfl) (fun _ => .inl rfl) rfl rfl (List.prefix_append _ _) rfl

theorem tie (n : Nat) : PriActs A C s { t with tie := n } :=
  h.of_outside (.of_eq rfl ⟨rfl, rfl, rfl, rfl⟩ ⟨rfl, rfl, rfl⟩ rfl) (fun _ => rfl) (fun _ => .inl rfl) rfl rfl List.prefix_rfl rfl

theorem report (b : ReportBody) : PriActs A C s (t.report b) :=
  h.trans ⟨.of_eq rfl ⟨rfl, rfl, rfl, rfl⟩ ⟨rfl, rfl, rfl⟩ rfl, fun _ => .inl rfl, fun _ => .inr (.inl rfl), .inr rfl, rfl, List.prefix_rfl, [b], rfl⟩

theorem onPri (f : Pri → Pri) (hq : (f t.pri).approaches = t.pri.approaches)
    (hc : (f t.pri).calls = t.pri.calls) (hr : (f t.pri).rulingHeld = t.pri.rulingHeld) : PriActs A C s (t.onPri f) :=
  h.of_outside (.of_eq rfl ⟨rfl, rfl, rfl, rfl⟩ ⟨rfl, rfl, rfl⟩ rfl) (fun b => congrArg (fun v => v[b].queue) hq)
    (fun b => .inl (congrArg (fun v => v[b].episode) hq)) hc hr List.prefix_rfl rfl

theorem onSeq (f : Seq → Seq) (hf : { f t.seq with h := t.seq.h, mark := t.seq.mark, level := t.seq.level } = t.seq) :
    PriActs A C s (t.onSeq f) :=
  h.of_outside (.of_eq rfl ⟨rfl, rfl, rfl, rfl⟩ ⟨rfl, rfl, rfl⟩ hf) (fun _ => rfl) (fun _ => .inl rfl) rfl rfl List.prefix_rfl rfl

theorem setCap (a : ApproachId) (c : Cap) : PriActs A C s (t.setCap a c) := h.onPri _ rfl rfl rfl

theorem setHolders (g : GroupId) (l : List Holder) : PriActs A C s (t.setHolders g l) := h.onPri _ rfl rfl rfl

theorem onApp (a : ApproachId) (f : Approach → Approach) (hf : (f (t.app a)).queue = (t.app a).queue)
    (he : (f (t.app a)).episode = .idle) : PriActs A C s (t.onApp a f) := by
  refine h.of_outside (.of_eq rfl ⟨rfl, rfl, rfl, rfl⟩ ⟨rfl, rfl, rfl⟩ rfl) (fun b => ?_) (fun b => ?_) rfl rfl List.prefix_rfl rfl
  all_goals by_cases hb : a = b
  · subst hb; rw [State.app_onApp_self, hf]
  · rw [State.app_onApp_ne _ hb]
  · subst hb; rw [State.app_onApp_self, he]; exact .inr rfl
  · rw [State.app_onApp_ne _ hb]; exact .inl rfl

theorem serve {a : ApproachId} (hA : A a) (f : Approach → Approach) (hf : HeadServed (t.app a).queue (f (t.app a)).queue) :
    PriActs A C s (t.onApp a f) := by
  refine h.trans ⟨.of_eq rfl ⟨rfl, rfl, rfl, rfl⟩ ⟨rfl, rfl, rfl⟩ rfl, fun b => ?_, fun b => ?_, .inr rfl, rfl, List.prefix_rfl, [], rfl⟩
  all_goals by_cases hb : a = b
  · subst hb; rw [State.app_onApp_self]; exact .inr ⟨hA, hf⟩
  · rw [State.app_onApp_ne _ hb]; exact .inl rfl
  · subst hb; exact .inl hA
  · rw [State.app_onApp_ne _ hb]; exact .inr (.inl rfl)

theorem onCall (hC : C) (id : Nat) (f : Call → Call) : PriActs A C s (t.onCall id f) :=
  h.trans ⟨.of_eq rfl ⟨rfl, rfl, rfl, rfl⟩ ⟨rfl, rfl, rfl⟩ rfl, fun _ => .inl rfl, fun _ => .inr (.inl rfl), .inl hC, rfl, List.prefix_rfl, [], rfl⟩

theorem onHold (g : GroupId) (b : Bool) : PriActs A C s (t.onGrp g fun r => { r with hold := b }) := by
  refine h.of_outside ⟨⟨rfl, rfl, rfl, rfl⟩, ⟨rfl, rfl, rfl⟩, rfl, rfl, fun x => ?_⟩ (fun _ => rfl) (fun _ => .inl rfl) rfl rfl List.prefix_rfl rfl
  by_cases hx : g = x
  · subst hx; rw [State.grp_onGrp_self]
  · rw [State.grp_onGrp_ne _ hx]

theorem holdGroup (g : GroupId) : PriActs A C s (holdGroup g t) := ite (fun _ => (h.onHold g true).push _) fun _ => h

theorem releaseGroup (g : GroupId) : PriActs A C s (releaseGroup g t) := ite (fun _ => (h.onHold g false).push _) fun _ => h

theorem clearEnd : PriActs A C s (clearEnd t) := h.onSeq _ rfl

theorem releaseNotice : PriActs A C s (releaseNotice t) := h.clearEnd.push _

theorem planningResult (n : Nat) (p : StageId) : PriActs A C s (planningResult n p t) := by
  have h1 := (h.onSeq (fun q => { q with h := some n, mark := some p }) rfl).push .choose
  exact ite (fun _ => ite (fun _ => h1.push _) fun _ => h1) fun _ => h

theorem levelNotice (l : Nat) : PriActs A C s (levelNotice l t) :=
  ite (fun _ => (h.onSeq (fun q => { q with level := max q.level l }) rfl).push _) fun _ => h

theorem reportTram (e : PriorityEvent) (a : ApproachId) (r : TramRec) (src : Option TramSource) (st : Option TramState) :
    PriActs A C s (reportTram e a r src st t) := h.report _

theorem reportCall (e : PriorityEvent) (id : Nat) : PriActs A C s (reportCall e id t) := h.report _

theorem priChanged : PriActs A C s (priChanged t) := h.push _

theorem episodeChanged : PriActs A C s (episodeChanged t) := (h.push _).push _

theorem addHolder (g : GroupId) (x : Holder) : PriActs A C s (addHolder g x t) :=
  ite (fun _ => (ite (fun _ => h) fun _ => h.setHolders g _).holdGroup g) fun _ => h

theorem removeHolder (g : GroupId) (x : Holder) : PriActs A C s (removeHolder g x t) := by
  have h1 := h.setHolders g ((t.holders g).filter (· ≠ x))
  exact ite (fun _ => ite (fun _ => h1.releaseGroup g) fun _ => h1) fun _ => h

theorem removeEverywhere (x : Holder) : PriActs A C s (removeEverywhere x t) :=
  h.foldl _ _ fun _ g _ hu => hu.removeHolder g x

theorem loadCap (a : ApproachId) : PriActs A C s (loadCap a t) :=
  ite (fun _ => (h.setCap a _).push _) fun _ => h.setCap a _

theorem startCap (a : ApproachId) : PriActs A C s (startCap a t) := ite (fun _ => h.loadCap a) fun _ => h.setCap a _

theorem capExpired (a : ApproachId) : PriActs A C s (capExpired a t) := by
  unfold Machine.capExpired
  refine ite (fun _ => ?_) fun _ => h
  dsimp only
  split
  · exact (h.setCap a _).removeHolder _ _
  · exact h.setCap a _

theorem unplan (a : ApproachId) : PriActs A C s (unplan a t) := ite (fun _ => (h.onApp a _ rfl rfl).push _) fun _ => h

theorem unplanRef (r : ReqRef) : PriActs A C s (unplanRef r t) := by
  cases r with
  | tram a n => exact h.unplan a
  | call id => exact h

theorem withdraw : PriActs A C s (withdraw t) := by
  unfold Machine.withdraw
  split
  · exact h
  · exact ((h.onPri _ rfl rfl rfl).releaseNotice).unplanRef _

theorem withdrawIf (r : ReqRef) : PriActs A C s (withdrawIf r t) := by
  unfold Machine.withdrawIf
  split
  · exact h
  · exact ite (fun _ => h.withdraw) fun _ => h

/-- A standing plan for another request is withdrawn. -/
theorem withdrawOther (r : ReqRef) : PriActs A C s
    (match t.pri.standing with
      | some p => if p.subject = r then t else Machine.withdraw t
      | none => t) := by
  split
  · exact ite (fun _ => h) fun _ => h.withdraw
  · exact h

end

section Serving

variable (h : PriActs A C s t)
include h

theorem serveHead {a : ApproachId} (hA : A a) : PriActs A C s (serveHead a t) := by
  unfold Machine.serveHead
  split
  · next x rest g hq hg =>
    exact (((((h.serve hA _ (.inr ⟨x, rest, .serving, hq, rfl⟩)).reportTram _ _ _ _ _).addHolder _ _).startCap _).episodeChanged)
  · exact h

theorem passToServing {a : ApproachId} (hA : A a) : PriActs A C s (passToServing a t) := by
  unfold Machine.passToServing
  split
  · exact ite (fun _ => h.serveHead hA) fun _ => h
  · exact h

theorem extendTram {a : ApproachId} (hA : A a) : PriActs A C s (extendTram a t) := by
  unfold Machine.extendTram
  split
  · exact h
  · refine ((((((h.withdrawOther _).serve hA _ (.inl rfl)).reportTram _ _ _ _ _).serveHead hA).onPri _ rfl rfl rfl).levelNotice _)

theorem offer {a : ApproachId} (hA : A a) : PriActs A C s (offer a t) := ite (fun _ => h.extendTram hA) fun _ => h

theorem lookAtHead {a : ApproachId} (hA : A a) : PriActs A C s (lookAtHead a t) := ite (fun _ => h.serveHead hA) fun _ => h.offer hA

theorem offerAmong (l : List ApproachId) (hA : ∀ a, A a) : PriActs A C s (offerAmong l t) :=
  (h.tie _).foldl _ _ fun _ a _ hu => hu.offer (hA a)

theorem serveCall (hC : C) (id : Nat) : PriActs A C s (serveCall id t) := by
  unfold Machine.serveCall
  split
  · exact h
  · exact (((h.onCall hC id _).reportCall _ _).foldl _ _ fun _ g _ hu => hu.addHolder g _).episodeChanged

theorem suspendCall (hC : C) (id : Nat) : PriActs A C s (suspendCall id t) :=
  ((h.removeEverywhere _).onCall hC id _).episodeChanged

end Serving

/-- Serving the request is within the bound. -/
def Allows (A : ApproachId → Prop) (C : Prop) : ReqRef → Prop
  | .tram a _ => A a
  | .call _ => C

section Planner

variable (h : PriActs A C s t) {r : ReqRef} (hr : Allows A C r)
include h hr

theorem notePlanned : PriActs A C s (notePlanned r t) := by
  unfold Machine.notePlanned
  split
  · split
    · exact ite (fun _ => ((h.serve hr _ (.inl rfl)).reportTram _ _ _ _ _).push _) fun _ => h
    · exact h
  · split
    · exact ite (fun _ => h) fun _ => (h.onCall hr _ _).reportCall _ _
    · exact h

theorem insertPlan : PriActs A C s (insertPlan r t) := by
  unfold Machine.insertPlan
  split
  · exact h
  · exact ((h.onPri _ rfl rfl rfl).notePlanned hr).planningResult _ _

theorem extendFor : PriActs A C s (extendFor r t) := by
  unfold Machine.extendFor
  split
  · exact h.extendTram hr
  · exact (((h.withdrawOther _).serveCall hr _).onPri _ rfl rfl rfl).levelNotice _

theorem plannerRun : PriActs A C s (plannerRun r t) :=
  ite (fun _ => ite (fun _ => h.withdraw.unplanRef r) fun _ => ite (fun _ => h.extendFor hr) fun _ => h.insertPlan hr) fun _ => h

end Planner

/-- The bound of an operation that may serve any request. -/
abbrev Any (s t : State) : Prop := PriActs (fun _ => True) True s t

theorem allows_any (r : ReqRef) : Allows (fun _ => True) True r := by cases r <;> trivial

/-- With another request ruling, SEQ's notice is the last thing a determination sends. -/
theorem exists_of_rulingChanged (force : Bool) {s : State} (hr : ∀ r, s.ruling = some r → Allows A C r)
    (h : s.ruling ≠ s.pri.rulingHeld) : ∃ u, Machine.determineRuling force s = u.push .choose
      ∧ PriActs A C (s.onPri fun p => { p with rulingHeld := s.ruling }) u := by
  have hplans (u : State) (n : Option ReqRef) :
      PriActs A C u (approachIds.foldl (fun s a => if headIs s a n then s else Machine.unplan a s) u) :=
    (refl u).foldl _ _ fun _ a _ hv => ite (fun _ => hv) fun _ => hv.unplan a
  have h1 := hplans (s.onPri fun p => { p with rulingHeld := s.ruling }) s.ruling
  unfold Machine.determineRuling
  dsimp only
  rw [if_neg h]
  refine ⟨_, rfl, ?_⟩
  split
  · exact h1.withdraw
  · next r hruling => exact ite (fun _ => h1.plannerRun (hr r hruling)) fun _ => h1.withdrawOther _

/-- Beyond the ruling request held, which becomes the one that rules. -/
theorem determineRuling_allowed (force : Bool) {s : State} (hr : ∀ r, s.ruling = some r → Allows A C r) :
    PriActs A C (s.onPri fun p => { p with rulingHeld := s.ruling }) (Machine.determineRuling force s) := by
  by_cases h : s.ruling = s.pri.rulingHeld
  · have hs : (s.onPri fun p => { p with rulingHeld := s.ruling }) = s := by rw [h]; rfl
    rw [hs]
    unfold Machine.determineRuling
    dsimp only
    rw [if_pos h]
    split
    · next r hruling => exact ite (fun _ => (refl s).plannerRun (hr r hruling)) fun _ => refl s
    · exact refl s
  · obtain ⟨u, hu, hacts⟩ := exists_of_rulingChanged force hr h
    rw [hu]
    exact hacts.push _

theorem determineRuling (force : Bool) (s : State) :
    Any (s.onPri fun p => { p with rulingHeld := s.ruling }) (Machine.determineRuling force s) :=
  determineRuling_allowed force fun r _ => allows_any r

theorem determineRuling_outside (force : Bool) (s : State) : SameOutsidePriority s (Machine.determineRuling force s) :=
  SameOutsidePriority.trans (.of_eq (u := s.onPri fun p => { p with rulingHeld := s.ruling }) rfl ⟨rfl, rfl, rfl, rfl⟩
    ⟨rfl, rfl, rfl⟩ rfl) (determineRuling force s).outside

end PriActs

end Sys2Proof.Machine
end

section
/-! ### Requests that join and leave: the link, the holders and the ruling request -/

namespace Sys2Proof.Machine

variable {s t : State}

/-! #### What sends no report -/

theorem ite_lnk {c : Prop} [Decidable c] {t u : State} (ht : t.lnk = s.lnk) (hu : u.lnk = s.lnk) :
    (if c then t else u).lnk = s.lnk := by
  split
  · exact ht
  · exact hu

theorem releaseGroup_lnk (g : GroupId) (s : State) : (releaseGroup g s).lnk = s.lnk := ite_lnk rfl rfl

theorem removeHolder_lnk (g : GroupId) (x : Holder) (s : State) : (removeHolder g x s).lnk = s.lnk :=
  ite_lnk (ite_lnk (releaseGroup_lnk g _) rfl) rfl

theorem removeEverywhere_lnk (x : Holder) (s : State) : (removeEverywhere x s).lnk = s.lnk :=
  foldl_same (r := State.lnk) (fun u g => removeHolder_lnk g x u) groupIds s

theorem unplan_lnk (a : ApproachId) (s : State) : (unplan a s).lnk = s.lnk := ite_lnk rfl rfl

theorem withdraw_lnk (s : State) : (withdraw s).lnk = s.lnk := by
  unfold withdraw
  split
  · rfl
  · next p _ =>
    cases p.subject with
    | tram a n => exact unplan_lnk a _
    | call id => rfl

theorem withdrawIf_lnk (r : ReqRef) (s : State) : (withdrawIf r s).lnk = s.lnk := by
  unfold withdrawIf
  split
  · rfl
  · exact ite_lnk (withdraw_lnk s) rfl

/-! #### The holders of a group (R129) -/

theorem holders_setHolders (s : State) (g h : GroupId) (l : List Holder) :
    (s.setHolders g l).holders h = if h = g then l else s.holders h := by
  by_cases hh : h = g
  · subst hh; simp [State.setHolders, State.holders]
  · have : (g : Nat) ≠ h := fun e => hh (Fin.ext e.symm)
    simp [State.setHolders, State.holders, hh, this]

theorem releaseGroup_holders (g h : GroupId) (s : State) : (releaseGroup g s).holders h = s.holders h := by
  unfold releaseGroup
  split <;> rfl

theorem holdGroup_holders (g h : GroupId) (s : State) : (holdGroup g s).holders h = s.holders h := by
  unfold holdGroup
  split <;> rfl

theorem removeHolder_holders (g h : GroupId) (x : Holder) (s : State) :
    (removeHolder g x s).holders h = if h = g then (s.holders h).filter (· ≠ x) else s.holders h := by
  unfold removeHolder
  split
  · dsimp only
    split
    · rw [releaseGroup_holders, holders_setHolders]
      split
      · next e => rw [e]
      · rfl
    · rw [holders_setHolders]
      split
      · next e => rw [e]
      · rfl
  · next hx =>
    split
    · next e =>
      subst e
      refine (List.filter_eq_self.mpr fun y hy => ?_).symm
      exact decide_eq_true fun e => hx (e ▸ hy)
    · rfl

theorem not_mem_foldl_removeHolder {g : GroupId} {x : Holder} (l : List GroupId) (s : State) (h : g ∈ l ∨ x ∉ s.holders g) :
    x ∉ (l.foldl (fun s g => removeHolder g x s) s).holders g := by
  induction l generalizing s with
  | nil => exact h.resolve_left (List.not_mem_nil)
  | cons y l ih =>
    refine ih _ ?_
    rw [removeHolder_holders]
    by_cases hy : g = y
    · rw [if_pos hy]
      exact .inr fun hm => of_decide_eq_true (List.mem_filter.mp hm).2 rfl
    · rw [if_neg hy]
      exact h.imp (fun hm => (List.mem_cons.mp hm).resolve_left hy) id

theorem not_mem_removeEverywhere (g : GroupId) (x : Holder) (s : State) : x ∉ (removeEverywhere x s).holders g :=
  not_mem_foldl_removeHolder groupIds s (.inl (mem_groupIds g))

/-! #### The tag of a record that joins (R95) -/

/-- With fewer than four records in the queue the tag found is one that no record holds, whatever the tag the search begins
with. -/
theorem freeTag_free (q : List TramRec) (t : Nat) (hq : q.length < 4) : freeTag (q.length + 1) q t ∉ q.map TramRec.tag := by
  by_cases ht : 1 ≤ t ∧ t ≤ 255
  · exact freeTag_not_held q t ht.1 ht.2 hq.le
  · intro h
    have hnext : nextTagOf t = 1 := by
      unfold nextTagOf
      split <;> omega
    have hsub : ((List.range (q.length + 1)).map (· + 1)) ⊆ q.map TramRec.tag := by
      intro x hx
      obtain ⟨k, hk, rfl⟩ := List.mem_map.mp hx
      rw [List.mem_range] at hk
      have hheld := held_of_freeTag_held _ q t h (k + 1) (by omega)
      rw [tagAfter, hnext, tagAfter_eq k 1 (by omega) (by omega)] at hheld
      rwa [show (1 + k - 1) % 255 + 1 = k + 1 by omega] at hheld
    have hnodup : ((List.range (q.length + 1)).map (· + 1)).Nodup :=
      List.nodup_range.map fun _ _ e => Nat.succ.inj e
    have := (hnodup.subperm hsub).length_le
    simp only [List.length_map, List.length_range] at this
    omega

theorem freeTag_of_free {q : List TramRec} {t : Nat} (h : ∀ r ∈ q, r.tag ≠ t) (n : Nat) : freeTag (n + 1) q t = t :=
  if_neg (by simpa using h)

/-! #### The ruling request (R90) -/

/-- What the ruling request reads of an approach's head. -/
def TramRec.ranks (r : TramRec) : Nat × TramState × Nat := (r.tag, r.state, r.age)

theorem tramWaiters_congr (hset : ∀ a, t.appSet a = s.appSet a) (hep : ∀ a, (t.app a).episode = (s.app a).episode)
    (hhead : ∀ a, (t.head? a).map TramRec.ranks = (s.head? a).map TramRec.ranks) : t.tramWaiters = s.tramWaiters := by
  refine List.filterMap_congr fun a _ => ?_
  have hr := hhead a
  rw [hset, hep]
  cases ht : t.head? a with
  | none =>
    rw [ht] at hr
    rw [Option.map_eq_none_iff.mp hr.symm]
  | some r =>
    rw [ht] at hr
    obtain ⟨r', hs, e⟩ := Option.map_eq_some_iff.mp hr.symm
    obtain ⟨e1, e2, e3⟩ : r'.tag = r.tag ∧ r'.state = r.state ∧ r'.age = r.age := by simpa [TramRec.ranks] using e
    rw [hs]
    dsimp only
    rw [e1, e2, e3]

theorem ruling_congr (hj : t.jmc.mode = s.jmc.mode) (htram : t.tramWaiters = s.tramWaiters)
    (hcall : t.pri.calls = s.pri.calls) : t.ruling = s.ruling := by
  rw [State.ruling, State.ruling, State.callWaiters, State.callWaiters, hj, htram, hcall]

theorem appSet_congr (hp : t.pts.activeCopy = s.pts.activeCopy) (hs : t.seq.activeSlot = s.seq.activeSlot) (a : ApproachId) :
    t.appSet a = s.appSet a := by
  rw [State.appSet, State.appSet, State.plan?, State.plan?, hp, hs]

end Sys2Proof.Machine
end

section
/-! ### TRAM_IN and TRAM_OUT (R95 to R103) -/

namespace Sys2Proof.Machine

variable {s : State} {a : ApproachId}

/-! #### The rows of the two requests -/

section Rows

variable (tag : Byte) (vehicle eta : Option Nat)

theorem exec_tramIn (n : Nat) (s : State) :
    exec (.tramIn tag n vehicle eta) s = .next (settle Config.reactionBound (takeTramIn tag n vehicle eta s.begun)) := rfl

theorem exec_tramOut (n : Nat) (s : State) :
    exec (.tramOut tag n) s = .next (settle Config.reactionBound (takeTramOut tag n s.begun)) := rfl

theorem takeTramIn_range {n : Nat} (h : n = 0 ∨ 4 < n) (s : State) :
    takeTramIn tag n vehicle eta s = s.reply 0x0F tag .range := by
  simp only [takeTramIn, approachNumbered, numbered_eq_none h]

theorem takeTramOut_range {n : Nat} (h : n = 0 ∨ 4 < n) (s : State) : takeTramOut tag n s = s.reply 0x10 tag .range := by
  simp only [takeTramOut, approachNumbered, numbered_eq_none h]

theorem takeTramIn_invalid (h : (s.appSet a).present = false) :
    takeTramIn tag (number a) vehicle eta s = s.reply 0x0F tag .invalid := by
  simp [takeTramIn, approachNumbered, numbered_number, h]

theorem takeTramOut_invalid (h : (s.appSet a).present = false) : takeTramOut tag (number a) s = s.reply 0x10 tag .invalid := by
  simp [takeTramOut, approachNumbered, numbered_number, h]

theorem clampEta_fst : (clampEta eta).1 = eta.map (min · 1200) := by cases eta <;> rfl

theorem clampEta_snd : (clampEta eta).2 = eta.any fun e => decide (1200 < e) := by cases eta <;> rfl

/-- The status of a check-in that is taken. -/
def tramInStatus (eta : Option Nat) : Status := if eta.any (fun e => decide (1200 < e)) then .clamped else .ok

variable (hp : (s.appSet a).present = true)
include hp

theorem takeTramIn_wrongMode (hn : s.jmc.mode ≠ .normal) (hm : s.jmc.mode ≠ .manual) :
    takeTramIn tag (number a) vehicle eta s = s.reply 0x0F tag .wrongMode := by
  simp [takeTramIn, approachNumbered, numbered_number, hp, hn, hm]

section Taken

variable (hm : s.jmc.mode = .normal ∨ s.jmc.mode = .manual)
include hm

theorem takeTramIn_seen {r : TramRec} (hr : tramToUpdate s a vehicle = some r) :
    takeTramIn tag (number a) vehicle none s = s.reply 0x0F tag .ok (byte1 r.tag) { updated := true } := by
  have hmode : ¬ (s.jmc.mode ≠ .normal ∧ s.jmc.mode ≠ .manual) := by tauto
  simp only [takeTramIn, approachNumbered, numbered_number, hp, hr, ← decide_not, ← Bool.decide_and, hmode, clampEta,
    Bool.not_true, Bool.false_eq_true, decide_false, if_false]

theorem takeTramIn_updated {r : TramRec} (hr : tramToUpdate s a vehicle = some r) (e : Nat) :
    takeTramIn tag (number a) vehicle (some e) s =
      updateEta a r (min e 1200) (s.reply 0x0F tag (tramInStatus (some e)) (byte1 r.tag) { updated := true }) := by
  have hmode : ¬ (s.jmc.mode ≠ .normal ∧ s.jmc.mode ≠ .manual) := by tauto
  simp only [takeTramIn, approachNumbered, numbered_number, hp, hr, ← decide_not, ← Bool.decide_and, hmode, clampEta,
    Bool.not_true, Bool.false_eq_true, decide_false, if_false, tramInStatus, Option.any_some, gt_iff_lt]

variable (hr : tramToUpdate s a vehicle = none)
include hr

theorem takeTramIn_full (hq : 4 ≤ (s.app a).queue.length) :
    takeTramIn tag (number a) vehicle eta s = s.reply 0x0F tag .full := by
  have hmode : ¬ (s.jmc.mode ≠ .normal ∧ s.jmc.mode ≠ .manual) := by tauto
  simp only [takeTramIn, approachNumbered, numbered_number, hp, hr, ← decide_not, ← Bool.decide_and, hmode,
    Bool.not_true, Bool.false_eq_true, decide_false, if_false, Config.queueCapacity, ge_iff_le, if_pos hq]

theorem takeTramIn_added (hq : (s.app a).queue.length < 4) :
    takeTramIn tag (number a) vehicle eta s =
      addTram a .link vehicle s.time ((eta.map (min · 1200)).getD (s.appSet a).run)
        (s.reply 0x0F tag (tramInStatus eta) (byte1 (newTag s a))) := by
  have hmode : ¬ (s.jmc.mode ≠ .normal ∧ s.jmc.mode ≠ .manual) := by tauto
  simp only [takeTramIn, approachNumbered, numbered_number, hp, hr, ← decide_not, ← Bool.decide_and, hmode,
    Bool.not_true, Bool.false_eq_true, decide_false, if_false, Config.queueCapacity, ge_iff_le, if_neg hq.not_ge,
    clampEta_fst, clampEta_snd, tramInStatus]

end Taken

theorem takeTramOut_none (hq : (s.app a).queue = []) : takeTramOut tag (number a) s =
    (s.reply 0x10 tag .notFound).report (.priorityEvent .checkoutUnexpected (.tram a) none (some .link) none none) := by
  have hh : s.head? a = none := by rw [State.head?, hq]; rfl
  simp only [takeTramOut, approachNumbered, numbered_number, hp, hh, Bool.not_true, Bool.false_eq_true, if_false]
  rfl

theorem takeTramOut_head {h : TramRec} {rest : List TramRec} (hq : (s.app a).queue = h :: rest) : takeTramOut tag (number a) s =
    removeHead a ((s.reply 0x10 tag .ok (byte1 h.tag)).report
      (.priorityEvent .checkedOut (.tram a) (some h.tag) (some .link) h.vehicle (some h.state))) := by
  have hh : s.head? a = some h := by rw [State.head?, hq]; rfl
  have hh' : (s.reply 0x10 tag .ok (byte1 h.tag)).head? a = some h := hh
  simp only [takeTramOut, approachNumbered, numbered_number, hp, hh, Bool.not_true, Bool.false_eq_true, if_false, checkOutHead, hh']
  rfl

end Rows

/-! #### A record joins -/

/-- The record that a check-in adds. -/
def addedTram (a : ApproachId) (src : TramSource) (vehicle : Option Nat) (time : JTime) (eta : Nat) (s : State) : TramRec :=
  { tag := newTag s a, source := src, vehicle := vehicle, checkIn := time, eta := eta, age := 0, state := .waiting }

/-- An approach with a record at the tail of its queue. -/
def Approach.joinedBy (r : TramRec) (x : Approach) : Approach :=
  { x with queue := x.queue ++ [r], nextTag := nextTagOf r.tag }

/-- A record at the tail of its queue, reported, with its approach's head not yet looked at. -/
def joined (a : ApproachId) (src : TramSource) (vehicle : Option Nat) (time : JTime) (eta : Nat) (s : State) : State :=
  (s.onApp a (Approach.joinedBy (addedTram a src vehicle time eta s))).report
      (.priorityEvent .checkedIn (.tram a) (some (newTag s a)) (some src) vehicle none)

theorem addTram_eq (a : ApproachId) (src : TramSource) (vehicle : Option Nat) (time : JTime) (eta : Nat) (s : State) :
    addTram a src vehicle time eta s =
      (if (s.app a).queue = [] then lookAtHead a (joined a src vehicle time eta s)
        else joined a src vehicle time eta s).push .redetermine := by
  simp only [← List.isEmpty_iff]
  rfl

theorem joined_app_self (a : ApproachId) (src : TramSource) (vehicle : Option Nat) (time : JTime) (eta : Nat) (s : State) :
    (joined a src vehicle time eta s).app a = (s.app a).joinedBy (addedTram a src vehicle time eta s) :=
  State.app_onApp_self s a (Approach.joinedBy (addedTram a src vehicle time eta s))

theorem joined_app_ne {b : ApproachId} (hb : b ≠ a) (src : TramSource) (vehicle : Option Nat) (time : JTime) (eta : Nat)
    (s : State) : (joined a src vehicle time eta s).app b = s.app b :=
  State.app_onApp_ne s (Ne.symm hb) (Approach.joinedBy (addedTram a src vehicle time eta s))

theorem newTag_free (hq : (s.app a).queue.length < 4) : ∀ r ∈ (s.app a).queue, r.tag ≠ newTag s a := fun _ hr e =>
  freeTag_free _ _ hq (List.mem_map.mpr ⟨_, hr, e⟩)

theorem newTag_of_free (h : ∀ r ∈ (s.app a).queue, r.tag ≠ (s.app a).nextTag) : newTag s a = (s.app a).nextTag :=
  freeTag_of_free h _

theorem sameOutsidePriority_onApp (s : State) (a : ApproachId) (f : Approach → Approach) : SameOutsidePriority s (s.onApp a f) :=
  .of_eq rfl ⟨rfl, rfl, rfl, rfl⟩ ⟨rfl, rfl, rfl⟩ rfl

theorem sameOutsidePriority_report (s : State) (b : ReportBody) : SameOutsidePriority s (s.report b) :=
  .of_eq rfl ⟨rfl, rfl, rfl, rfl⟩ ⟨rfl, rfl, rfl⟩ rfl

theorem sameOutsidePriority_begun (s : State) : SameOutsidePriority s s.begun :=
  ⟨⟨rfl, rfl, rfl, rfl⟩, ⟨rfl, rfl, rfl⟩, rfl, rfl, fun _ => rfl⟩

theorem sameOutsidePriority_reply (s : State) (code tag : Byte) (st : Status) (items : List Byte) (m : Markers) :
    SameOutsidePriority s (s.reply code tag st items m) :=
  .of_eq rfl ⟨rfl, rfl, rfl, rfl⟩ ⟨rfl, rfl, rfl⟩ rfl

/-! #### The head leaves -/

/-- What the head's leaving does besides its going: a plan for it is withdrawn, or its service ends (R103). -/
def headGone (a : ApproachId) (h : TramRec) (s : State) : State :=
  match h.state with
  | .waiting => unplan a (withdrawIf (.tram a h.tag) s)
  | .serving =>
    let s := s.setCap a .absent
    if takesOver s a then s
    else
      match s.tramGroup? a with
      | some g => removeHolder g (.approach a) s
      | none => s
  | .served => s

theorem removeHead_eq {h : TramRec} {rest : List TramRec} (hq : (s.app a).queue = h :: rest) :
    removeHead a s = priChanged (lookAtHead a (headGone a h (s.onApp a fun x => { x with queue := rest }))) := by
  unfold removeHead
  rw [hq]
  rfl

theorem priActs_headGone {A : ApproachId → Prop} {C : Prop} (a : ApproachId) (h : TramRec) (s : State) :
    PriActs A C s (headGone a h s) := by
  have hs := PriActs.refl (A := A) (C := C) s
  unfold headGone
  split
  · exact (hs.withdrawIf _).unplan a
  · dsimp only
    refine PriActs.ite (fun _ => hs.setCap a _) fun _ => ?_
    split
    · exact (hs.setCap a _).removeHolder _ _
    · exact hs.setCap a _
  · exact hs

theorem headGone_lnk (a : ApproachId) (h : TramRec) (s : State) : (headGone a h s).lnk = s.lnk := by
  unfold headGone
  split
  · rw [unplan_lnk, withdrawIf_lnk]
  · dsimp only
    refine ite_lnk rfl ?_
    split
    · exact removeHolder_lnk _ _ _
    · rfl
  · rfl

theorem lookAtHead_of_empty (h : (s.app a).queue = []) : lookAtHead a s = s := by
  have hh : s.head? a = none := by rw [State.head?, h]; rfl
  simp [lookAtHead, takesOver, offer, mayOffer, hh]

theorem headGone_queue (a b : ApproachId) (h : TramRec) (s : State) : ((headGone a h s).app b).queue = (s.app b).queue := by
  obtain hb | ⟨hf, -⟩ := (priActs_headGone (A := fun _ => False) (C := False) a h s).queues b
  · exact hb
  · exact hf.elim

/-- The head leaves its queue, and nothing else of the queues or of the calls changes but the state of the record then at the
front; what is reported besides, is so of that record. -/
theorem removeHead_spec {h : TramRec} {rest : List TramRec} (hq : (s.app a).queue = h :: rest) :
    SameOutsidePriority s (removeHead a s) ∧ ((removeHead a s).app a).queue.map TramRec.tag = rest.map TramRec.tag
      ∧ (∀ b, b ≠ a → ((removeHead a s).app b).queue = (s.app b).queue) ∧ (removeHead a s).pri.calls = s.pri.calls
      ∧ ∃ l : List ReportBody, (rest = [] → l = []) ∧ (removeHead a s).lnk = (l.foldl State.report s).lnk := by
  let v := s.onApp a fun x => { x with queue := rest }
  have hv : (v.app a).queue = rest := by rw [State.app_onApp_self]
  have hacts : PriActs (· = a) False v (removeHead a s) := by
    rw [removeHead_eq hq]
    exact ((priActs_headGone (A := (· = a)) (C := False) a h v).lookAtHead rfl).priChanged
  refine ⟨(sameOutsidePriority_onApp s a _).trans hacts.outside, ?_, fun b hb => ?_, hacts.calls.resolve_left id, ?_⟩
  · obtain e | ⟨-, e⟩ := hacts.queues a
    · rw [e, hv]
    · rw [e.tags, hv]
  · obtain e | ⟨e, -⟩ := hacts.queues b
    · rw [e, State.app_onApp_ne _ (Ne.symm hb)]
    · exact absurd e hb
  · by_cases hr : rest = []
    · refine ⟨[], fun _ => rfl, ?_⟩
      rw [removeHead_eq hq, lookAtHead_of_empty (by rw [headGone_queue, hv, hr])]
      exact headGone_lnk a h v
    · obtain ⟨l, hl⟩ := hacts.reports
      exact ⟨l, fun e => absurd e hr, hl.trans (foldl_report_lnk_congr l rfl rfl)⟩

end Sys2Proof.Machine
end

section
namespace Sys2Proof.Machine

theorem exec_congr {i : Instr} {s t u : State} (h : exec i s = .next (settle Config.reactionBound t)) (e : t = u) :
    exec i s = .next (settle Config.reactionBound u) := e ▸ h

variable {s : State} {a : ApproachId}

/-! #### An arrival countdown given again (R99, R119) -/

/-- The queue with the arrival countdown of the records of a tag replaced. -/
def withEta (tag eta : Nat) (q : List TramRec) : List TramRec := q.map fun y => if y.tag = tag then { y with eta := eta } else y

theorem withEta_of_not_mem {tag eta : Nat} {q : List TramRec} (h : ∀ y ∈ q, y.tag ≠ tag) : withEta tag eta q = q :=
  (List.map_congr_left fun y hy => if_neg (h y hy)).trans (List.map_id' q)

/-- With distinct tags one record alone is changed. -/
theorem withEta_split {r : TramRec} {before after : List TramRec} (eta : Nat)
    (hn : ((before ++ r :: after).map TramRec.tag).Nodup) :
    withEta r.tag eta (before ++ r :: after) = before ++ { r with eta := eta } :: after := by
  rw [List.map_append, List.map_cons, List.nodup_middle, List.nodup_cons, List.mem_append] at hn
  obtain ⟨hr, -⟩ := hn
  rw [not_or, List.mem_map, List.mem_map] at hr
  have hb : withEta r.tag eta before = before := withEta_of_not_mem fun y hy e => hr.1 ⟨y, hy, e⟩
  have ha : withEta r.tag eta after = after := withEta_of_not_mem fun y hy e => hr.2 ⟨y, hy, e⟩
  have hsplit : withEta r.tag eta (before ++ r :: after)
      = withEta r.tag eta before ++ { r with eta := eta } :: withEta r.tag eta after := by simp [withEta]
  rw [hsplit, hb, ha]

theorem tramToUpdate_of_split {v : Nat} {r : TramRec} {before after : List TramRec} (hq : (s.app a).queue = before ++ r :: after)
    (hr : r.vehicle = some v) (hb : ∀ x ∈ before, x.vehicle ≠ some v) : tramToUpdate s a (some v) = some r := by
  change (s.app a).queue.find? _ = _
  rw [hq, List.find?_append, List.find?_eq_none.mpr fun x hx => by simpa using hb x hx]
  simp [hr]

theorem tramToUpdate_none {vehicle : Option Nat} (h : ∀ v, vehicle = some v → ∀ x ∈ (s.app a).queue, x.vehicle ≠ some v) :
    tramToUpdate s a vehicle = none := by
  cases vehicle with
  | none => rfl
  | some v =>
    change (s.app a).queue.find? _ = _
    exact List.find?_eq_none.mpr fun x hx => by simpa using h v rfl x hx

/-- The state with the countdown replaced, the planner not yet run. -/
def etaReplaced (a : ApproachId) (r : TramRec) (eta : Nat) (s : State) : State :=
  s.onApp a fun x => { x with queue := withEta r.tag eta x.queue }

theorem updateEta_eq (a : ApproachId) (r : TramRec) (eta : Nat) (s : State) :
    updateEta a r eta s = etaReplaced a r eta s ∨ updateEta a r eta s = plannerRun (.tram a r.tag) (etaReplaced a r eta s) := by
  unfold updateEta
  dsimp only
  split
  · exact .inr rfl
  · exact .inl rfl

theorem priActs_updateEta (a : ApproachId) (r : TramRec) (eta : Nat) (s : State) :
    PriActs (· = a) False (etaReplaced a r eta s) (updateEta a r eta s) := by
  obtain h | h := updateEta_eq a r eta s
  · rw [h]
    exact PriActs.refl _
  · rw [h]
    exact (PriActs.refl _).plannerRun rfl

theorem etaReplaced_ruling (a : ApproachId) (r : TramRec) (eta : Nat) (s : State) : (etaReplaced a r eta s).ruling = s.ruling := by
  refine ruling_congr rfl (tramWaiters_congr (fun b => rfl) (fun b => ?_) fun b => ?_) rfl
  all_goals by_cases hb : a = b
  · subst hb
    rw [etaReplaced, State.app_onApp_self]
  · rw [etaReplaced, State.app_onApp_ne _ hb]
  · subst hb
    rw [State.head?, State.head?, etaReplaced, State.app_onApp_self, withEta, List.head?_map, Option.map_map]
    refine congrArg (Option.map · _) (funext fun y => ?_)
    dsimp only [Function.comp]
    split <;> rfl
  · rw [State.head?, State.head?, etaReplaced, State.app_onApp_ne _ hb]

/-- A record that does not rule has its countdown replaced and no more. -/
theorem updateEta_of_not_ruling {r : TramRec} (eta : Nat) (h : r.state ≠ .waiting ∨ s.ruling ≠ some (.tram a r.tag)) :
    updateEta a r eta s = etaReplaced a r eta s := by
  refine if_neg fun hc => ?_
  rw [Bool.and_eq_true, Bool.and_eq_true, Bool.and_eq_true, decide_eq_true_eq, decide_eq_true_eq, decide_eq_true_eq] at hc
  obtain ⟨⟨⟨hw, -⟩, hr⟩, -⟩ := hc
  exact h.elim (fun h => h hw) fun h => h ((etaReplaced_ruling a r eta s).symm.trans hr)

/-- A tram that rules is the head of its queue. -/
theorem head_of_ruling {tag : Nat} (h : s.ruling = some (.tram a tag)) : ∃ r, s.head? a = some r ∧ r.tag = tag := by
  by_cases hn : s.jmc.mode = .normal
  · obtain ⟨m, hm, hr, -⟩ := State.exists_waiter_of_ruling hn h
    obtain ⟨ref, level, age, num⟩ := m
    obtain rfl : ref = .tram a tag := hr
    rw [List.mem_append, State.mem_tramWaiters, State.mem_callWaiters] at hm
    obtain ⟨b, x, e, hb, -⟩ | ⟨c, -, e, -⟩ := hm
    · injection e with e1 e2
      subst e1
      exact ⟨x, hb, e2.symm⟩
    · cases e
  · rw [State.ruling_of_not_normal hn] at h
    cases h

theorem before_nil_of_head {r : TramRec} {before after : List TramRec} (hq : (s.app a).queue = before ++ r :: after)
    (hn : ((s.app a).queue.map TramRec.tag).Nodup) (h : ∃ x, s.head? a = some x ∧ x.tag = r.tag) : before = [] := by
  obtain ⟨x, hx, htag⟩ := h
  cases before with
  | nil => rfl
  | cons y l =>
    rw [State.head?, hq] at hx
    obtain rfl : y = x := Option.some.inj hx
    rw [hq, List.cons_append, List.map_cons, List.nodup_cons, htag] at hn
    exact absurd (List.mem_map.mpr ⟨r, by simp, rfl⟩) hn.1

/-- Settles O49. -/
theorem tramsCheckInAndOut : Obligations.TramsCheckInAndOut := by
  intro tag vehicle eta s
  refine ⟨fun n hn => ⟨?_, ?_⟩, fun a => ?approach⟩
  · rw [exec_tramIn, takeTramIn_range tag vehicle eta hn]
  · rw [exec_tramOut, takeTramOut_range tag hn]
  intro queue status
  refine ⟨fun hp => ⟨?_, ?_⟩, fun hp => ⟨fun hn hm => ?wrongMode, fun hm => ⟨fun v r before after hv hq hr hb => ⟨fun he => ?seen,
    fun e he => ?updated⟩, fun hnone => ⟨fun hlen => ?full, fun hlen => ?added⟩⟩, fun hq => ?unexpected, fun h rest hq => ?out⟩⟩
  · rw [exec_tramIn, takeTramIn_invalid tag vehicle eta (s := s.begun) hp]
  · rw [exec_tramOut, takeTramOut_invalid tag (s := s.begun) hp]
  case wrongMode => rw [exec_tramIn, takeTramIn_wrongMode tag vehicle eta (s := s.begun) hp hn hm]
  case seen =>
    subst hv he
    rw [exec_tramIn, takeTramIn_seen tag (some v) (s := s.begun) hp hm (tramToUpdate_of_split hq hr hb)]
    rfl
  case updated =>
    subst hv he
    change (s.app a).queue = _ at hq
    have hexec := exec_congr (exec_tramIn tag _ _ _ s)
      (takeTramIn_updated tag (some v) (s := s.begun) hp hm (tramToUpdate_of_split hq hr hb) e)
    let w := s.begun.reply 0x0F tag status [BitVec.ofNat 8 r.tag] { updated := true }
    have hw : SameOutsidePriority s w := (sameOutsidePriority_begun s).trans (sameOutsidePriority_reply _ _ _ _ _ _)
    have hacts := priActs_updateEta a r (min e 1200) w
    have hrule : w.ruling = s.ruling := rfl
    have hqueue : (etaReplaced a r (min e 1200) w).app a = { s.app a with queue := withEta r.tag (min e 1200) (s.app a).queue } :=
      State.app_onApp_self _ _ _
    refine ⟨updateEta a r (min e 1200) w, hexec, (hw.trans (sameOutsidePriority_onApp w a _)).trans hacts.outside, fun b hb => ?_,
      fun hn => ⟨fun h => ?_, fun hwait hrules => ?_⟩⟩
    · rw [(hacts.queues b).resolve_right fun h => hb h.1, etaReplaced, State.app_onApp_ne _ (Ne.symm hb)]
      rfl
    · rw [updateEta_of_not_ruling _ (by rw [hrule]; exact h), hqueue, hq, withEta_split _ (by rw [← hq]; exact hn)]
      exact ⟨rfl, rfl⟩
    · obtain rfl := before_nil_of_head hq hn (head_of_ruling hrules)
      have hsplit := withEta_split (before := []) (after := after) (r := r) (min e 1200) (by rw [← hq]; exact hn)
      obtain ⟨l, hl⟩ := hacts.reports
      refine ⟨rfl, ?_, l, hl.trans (foldl_report_lnk_congr l rfl rfl)⟩
      obtain hu | ⟨-, hu⟩ := hacts.queues a
      · exact ⟨r.state, by rw [hu, hqueue, hq, hsplit]; rfl⟩
      · rw [hqueue, hq, hsplit] at hu
        obtain hu | ⟨x, rest, st, hx, hu⟩ := hu
        · exact ⟨r.state, by rw [hu]; rfl⟩
        · obtain ⟨rfl, rfl⟩ := List.cons.inj hx
          exact ⟨st, hu⟩
  case full => rw [exec_tramIn, takeTramIn_full tag vehicle eta (s := s.begun) hp hm (tramToUpdate_none hnone) hlen]
  case added =>
    let w := s.begun.reply 0x0F tag status [BitVec.ofNat 8 (newTag s a)]
    let arrival := (eta.map (min · 1200)).getD (s.appSet a).run
    have hexec := exec_congr (exec_tramIn tag _ _ _ s)
      (takeTramIn_added tag vehicle eta (s := s.begun) hp hm (tramToUpdate_none hnone) hlen)
    refine ⟨newTag s a, joined a .link vehicle s.time arrival w, 
     exec_congr hexec (addTram_eq a .link vehicle s.time arrival w),
      newTag_free hlen, newTag_of_free, joined_app_self a _ _ _ _ w, fun b hb => joined_app_ne hb _ _ _ _ w, rfl, rfl, ?_⟩
    exact (((sameOutsidePriority_begun s).trans (sameOutsidePriority_reply _ _ _ _ _ _)).trans
      (sameOutsidePriority_onApp _ _ _)).trans (sameOutsidePriority_report _ _)
  case unexpected => rw [exec_tramOut, takeTramOut_none tag (s := s.begun) hp hq]
  case out =>
    let w := (s.begun.reply 0x10 tag .ok [BitVec.ofNat 8 h.tag]).report
      (.priorityEvent .checkedOut (.tram a) (some h.tag) (some .link) h.vehicle (some h.state))
    have hexec := exec_congr (exec_tramOut tag _ s)
      (takeTramOut_head tag (s := s.begun) hp hq)
    have hw : SameOutsidePriority s w :=
      ((sameOutsidePriority_begun s).trans (sameOutsidePriority_reply _ _ _ _ _ _)).trans (sameOutsidePriority_report _ _)
    obtain ⟨hout, htags, hothers, hcalls, l, hl, hlnk⟩ := removeHead_spec (s := w) hq
    exact ⟨removeHead a w, hexec, hw.trans hout, htags, hothers, hcalls, l, hl, hlnk⟩

end Sys2Proof.Machine
end

section
/-! ### CALL_PLACE and CALL_CANCEL (R109, R110, R112) -/

namespace Sys2Proof.Machine

variable {s : State}

theorem call?_isSome_iff {id : Nat} : (s.call? id).isSome = true ↔ ∃ c ∈ s.pri.calls, c.id = id := by
  simp [State.call?]

section Rows

variable (tag : Byte) {id level target eta hold : Nat}

theorem exec_callPlace (id level target eta hold : Nat) (s : State) : exec (.callPlace tag id level target eta hold) s =
    .next (settle Config.reactionBound (takeCallPlace tag id level target eta hold s.begun)) := rfl

theorem exec_callCancel (id : Nat) (s : State) :
    exec (.callCancel tag id) s = .next (settle Config.reactionBound (takeCallCancel tag id s.begun)) := rfl

theorem CallLevel.ofCode_eq_none {n : Nat} (h : 1 < n) : CallLevel.ofCode n = none := by
  obtain ⟨m, rfl⟩ := Nat.exists_eq_add_of_le' h
  rfl

theorem takeCallPlace_range (h : ¬ ((1 ≤ id ∧ id ≤ 255) ∧ level ≤ 1 ∧ 1 ≤ target ∧ target ≤ 16)) (s : State) :
    takeCallPlace tag id level target eta hold s = s.reply 0x11 tag .range := by
  unfold takeCallPlace
  split
  · next l t hl ht =>
    have hlevel : level ≤ 1 := by
      by_contra hc
      rw [CallLevel.ofCode_eq_none (by omega)] at hl
      cases hl
    have htarget : 1 ≤ target ∧ target ≤ 16 := by
      by_contra hc
      rw [stageNumbered, numbered_eq_none (by omega)] at ht
      cases ht
    exact if_pos (by simp only [Bool.or_eq_true, decide_eq_true_eq]; omega)
  · rfl

variable (hid : 1 ≤ id ∧ id ≤ 255) {l : CallLevel} (hl : CallLevel.ofCode level = some l) {t : StageId}
include hid hl

/-- The rows after the first, for a call in range. -/
theorem takeCallPlace_number (s : State) : takeCallPlace tag id level (number t) eta hold s =
    if s.jmc.mode ≠ .normal then s.reply 0x11 tag .wrongMode
    else if s.stageGroups t = 0 then s.reply 0x11 tag .invalid
    else if (s.call? id).isSome then s.reply 0x11 tag .duplicate
    else if s.pri.calls.length ≥ Config.queueCapacity then s.reply 0x11 tag .full
    else priChanged ((s.reply 0x11 tag (if callClamped l eta hold then .clamped else .ok)).onPri fun p =>
      { p with calls := p.calls ++ [placedCall id l t eta hold] }) := by
  have hrange : ¬ (decide (id < 1) || decide (id > 255)) = true := by
    simp only [Bool.or_eq_true, decide_eq_true_eq]
    omega
  simp only [takeCallPlace, hl, stageNumbered, numbered_number, if_neg hrange]

end Rows

/-- The two levels a call can be placed at. -/
theorem callLevel_cases {level : Nat} (h : level ≤ 1) : (level = 0 ∧ CallLevel.ofCode level = some .bus)
    ∨ (level = 1 ∧ CallLevel.ofCode level = some .emergency) := by
  interval_cases level
  · exact .inl ⟨rfl, rfl⟩
  · exact .inr ⟨rfl, rfl⟩

/-- The level a code in range names. -/
def codedLevel (level : Nat) : CallLevel := if level = 0 then .bus else .emergency

theorem ofCode_codedLevel {level : Nat} (h : level ≤ 1) : CallLevel.ofCode level = some (codedLevel level) := by
  obtain ⟨rfl, -⟩ | ⟨rfl, -⟩ := callLevel_cases h <;> rfl

theorem clampTo_ne_iff {lo hi v : Nat} (h : lo ≤ hi) : clampTo lo hi v ≠ v ↔ v < lo ∨ hi < v := by
  unfold clampTo
  omega

theorem callClamped_iff {level : Nat} (eta hold : Nat) (h : level ≤ 1) :
    callClamped (codedLevel level) eta hold = true ↔ hold < 50 ∨ 1200 < hold ∨ (level = 0 ∧ 1200 < eta) := by
  obtain ⟨rfl, -⟩ | ⟨rfl, -⟩ := callLevel_cases h
  · simp [callClamped, codedLevel, clampTo_ne_iff, or_assoc]
  · simp [callClamped, codedLevel, clampTo_ne_iff]

theorem placedCall_codedLevel {level : Nat} (h : level ≤ 1) (id : Nat) (t : StageId) (eta hold : Nat) :
    placedCall id (codedLevel level) t eta hold =
      { id := id, level := if level = 0 then .bus else .emergency, target := t
        eta := if level = 0 then min eta 1200 else 0
        hold := min (max hold 50) 1200, remaining := min (max hold 50) 1200, age := 0
        state := .waiting, servingStage := none, planned := false } := by
  obtain ⟨rfl, -⟩ | ⟨rfl, -⟩ := callLevel_cases h <;> rfl

/-! #### A call leaves the table -/

/-- A call removed from the table, and nothing else of what the unit holds. -/
theorem dropCall_spec (id : Nat) (s : State) : SameOutsidePriority s (dropCall id s)
    ∧ (dropCall id s).pri.calls = s.pri.calls.filter (fun x => x.id ≠ id)
    ∧ (∀ a, ((dropCall id s).app a).queue = (s.app a).queue)
    ∧ (dropCall id s).lnk = (s.report (.priorityEvent .dropped (.call id) none none none none)).lnk := by
  let v := s.onPri fun p => { p with calls := p.calls.filter fun c => c.id ≠ id }
  have hacts : PriActs (fun _ => False) False v (dropCall id s) :=
    (((PriActs.refl v).reportCall .dropped id).withdrawIf (.call id)).priChanged
  have hv : SameOutsidePriority s v := .of_eq rfl ⟨rfl, rfl, rfl, rfl⟩ ⟨rfl, rfl, rfl⟩ rfl
  exact ⟨hv.trans hacts.outside, hacts.calls.resolve_left fun h => h, fun a => (hacts.queues a).resolve_right fun h => h.1,
    withdrawIf_lnk (.call id) (reportCall .dropped id v)⟩

theorem finishCall_spec (id : Nat) (s : State) : SameOutsidePriority s (finishCall id s)
    ∧ (finishCall id s).pri.calls = s.pri.calls.filter (fun x => x.id ≠ id)
    ∧ (∀ a, ((finishCall id s).app a).queue = (s.app a).queue)
    ∧ (finishCall id s).lnk = (s.report (.priorityEvent .served (.call id) none none none none)).lnk
    ∧ ∀ g, .call id ∉ (finishCall id s).holders g := by
  have hacts : PriActs (fun _ => False) False s (removeEverywhere (.call id) s) := (PriActs.refl s).removeEverywhere _
  have hcalls : (removeEverywhere (.call id) s).pri.calls = s.pri.calls := hacts.calls.resolve_left fun h => h
  have hlnk : (removeEverywhere (.call id) s).lnk = s.lnk := removeEverywhere_lnk _ _
  have htime : (removeEverywhere (.call id) s).time = s.time := hacts.outside.kept.1
  have hholders (g : GroupId) := not_mem_removeEverywhere g (.call id) s
  have hdef : finishCall id s = episodeChanged (reportCall .served id ((removeEverywhere (.call id) s).onPri fun p =>
      { p with calls := p.calls.filter fun c => c.id ≠ id })) := rfl
  rw [hdef]
  generalize removeEverywhere (.call id) s = u at hacts hcalls hlnk htime hholders
  refine ⟨hacts.outside.trans (.of_eq rfl ⟨rfl, rfl, rfl, rfl⟩ ⟨rfl, rfl, rfl⟩ rfl), ?_,
    fun a => (hacts.queues a).resolve_right fun h => h.1, foldl_report_lnk_congr [_] hlnk htime, hholders⟩
  rw [← hcalls]
  rfl

theorem takeCallCancel_range (tag : Byte) {id : Nat} (h : ¬ (1 ≤ id ∧ id ≤ 255)) (s : State) :
    takeCallCancel tag id s = s.reply 0x12 tag .range :=
  if_pos (by simp only [Bool.or_eq_true, decide_eq_true_eq]; omega)

section Cancel

variable (tag : Byte) {id : Nat} (hid : 1 ≤ id ∧ id ≤ 255)
include hid

theorem takeCallCancel_notFound (h : s.call? id = none) : takeCallCancel tag id s = s.reply 0x12 tag .notFound := by
  rw [takeCallCancel, if_neg (by simp only [Bool.or_eq_true, decide_eq_true_eq]; omega), h]

variable {c : Call} (hc : s.call? id = some c)
include hc

theorem takeCallCancel_waiting (h : c.state = .waiting) : takeCallCancel tag id s = dropCall id (s.reply 0x12 tag .ok) := by
  rw [takeCallCancel, if_neg (by simp only [Bool.or_eq_true, decide_eq_true_eq]; omega), hc]
  dsimp only
  rw [h]

theorem takeCallCancel_serving (h : c.state = .serving) : takeCallCancel tag id s = finishCall id (s.reply 0x12 tag .ok) := by
  rw [takeCallCancel, if_neg (by simp only [Bool.or_eq_true, decide_eq_true_eq]; omega), hc]
  dsimp only
  rw [h]

end Cancel

/-- Settles O50. -/
theorem callsPlacedAndCancelled : Obligations.CallsPlacedAndCancelled := by
  intro tag id level target eta hold s place cancel refusePlace inRange
  refine ⟨fun h => ?range, fun t hid hl ht => ?place, fun h => ?cancelRange, fun hid hn => ?notFound, fun c hid hc => ?cancel⟩
  case range => exact exec_congr (exec_callPlace tag id level target eta hold s) (takeCallPlace_range tag h s.begun)
  case place =>
    subst ht
    have hrow := exec_congr (exec_callPlace tag id level (number t) eta hold s)
      (takeCallPlace_number tag hid (ofCode_codedLevel hl) s.begun)
    refine ⟨fun hm => exec_congr hrow (if_pos hm), fun hm hz => ?_, fun hm hz => ⟨fun hdup => ?_, fun hnew => ⟨fun hlen => ?_,
      fun hlen => ?_⟩⟩⟩
    all_goals have hrow := exec_congr hrow (if_neg (not_not_intro hm))
    · exact exec_congr hrow (if_pos hz)
    all_goals have hrow := exec_congr hrow (if_neg hz)
    · exact exec_congr hrow (if_pos (call?_isSome_iff.mpr hdup))
    all_goals have hrow := exec_congr hrow (if_neg fun h => by
      obtain ⟨c, hc, e⟩ := call?_isSome_iff.mp h
      exact hnew c hc e)
    · exact exec_congr hrow (if_pos hlen)
    · refine exec_congr (exec_congr hrow (if_neg hlen.not_ge)) ?_
      rw [placedCall_codedLevel hl]
      simp only [callClamped_iff eta hold hl]
      rfl
  case cancelRange => exact exec_congr (exec_callCancel tag id s) (takeCallCancel_range tag h s.begun)
  case notFound => exact exec_congr (exec_callCancel tag id s) (takeCallCancel_notFound tag hid hn)
  case cancel =>
    let w := s.begun.reply 0x12 tag .ok
    have hw : SameOutsidePriority s w := (sameOutsidePriority_begun s).trans (sameOutsidePriority_reply _ _ _ _ _ _)
    cases hst : c.state with
    | waiting =>
      obtain ⟨hout, hcalls, hqueues, hlnk⟩ := dropCall_spec id w
      exact ⟨dropCall id w, exec_congr (exec_callCancel tag id s) (takeCallCancel_waiting tag hid hc hst), hw.trans hout, hcalls,
        hqueues, fun _ => hlnk, nofun⟩
    | serving =>
      obtain ⟨hout, hcalls, hqueues, hlnk, hholders⟩ := finishCall_spec id w
      exact ⟨finishCall id w, exec_congr (exec_callCancel tag id s) (takeCallCancel_serving tag hid hc hst), hw.trans hout, hcalls,
        hqueues, nofun, fun _ => ⟨hlnk, hholders⟩⟩

end Sys2Proof.Machine
end

section
/-! ### The timers of the Priority Unit (R91, R96, R98, R105, R110, R123, R129) -/

namespace Sys2Proof.Machine

variable {s : State} {a : ApproachId}

theorem timeoutDue_iff : timeoutDue s a = true ↔
    (s.appSet a).present = true ∧ ∃ h, s.head? a = some h ∧ (s.appSet a).tmax ≤ h.age := by
  simp [timeoutDue, Option.any_eq_true]

theorem recoveryDue_iff : recoveryDue s a = true ↔ (s.app a).episode = .recovering ∧ (s.app a).recovery = 0 := by
  simp [recoveryDue]

theorem capDue_iff : capDue s a = true ↔ s.cap a = .loaded 0 := decide_eq_true_iff

theorem callHoldDue_iff {id : Nat} : callHoldDue s id = true ↔
    ∃ c, s.call? id = some c ∧ c.state = .serving ∧ c.remaining = 0 := by
  simp [callHoldDue, Option.any_eq_true]

theorem loseHead_eq {h : TramRec} (hh : s.head? a = some h) : loseHead a s =
    removeHead a (s.report (.priorityEvent .lost (.tram a) (some h.tag) (some h.source) h.vehicle none)) := by
  simp only [loseHead, hh]
  rfl

/-! #### The expiry of a cap -/

theorem removeHolder_approaches (g : GroupId) (x : Holder) (s : State) :
    (removeHolder g x s).pri.approaches = s.pri.approaches ∧ (removeHolder g x s).pri.caps = s.pri.caps := by
  unfold removeHolder
  split
  · dsimp only
    split
    · unfold releaseGroup
      split <;> exact ⟨rfl, rfl⟩
    · exact ⟨rfl, rfl⟩
  · exact ⟨rfl, rfl⟩

theorem grp_push (s : State) (n : Notice) (g : GroupId) : (s.push n).grp g = s.grp g := rfl

theorem releaseGroup_grp_ne {g h : GroupId} (hh : h ≠ g) (s : State) : (releaseGroup g s).grp h = s.grp h := by
  unfold releaseGroup
  split
  · rw [grp_push, State.grp_onGrp_ne _ (Ne.symm hh)]
  · rfl

theorem releaseGroup_hold {g : GroupId} (hp : s.present g = true) : ((releaseGroup g s).grp g).hold = false := by
  unfold releaseGroup
  split
  · rw [grp_push, State.grp_onGrp_self]
  · next h => simpa [hp] using h

theorem removeHolder_grp_ne {g h : GroupId} (hh : h ≠ g) (x : Holder) (s : State) : (removeHolder g x s).grp h = s.grp h := by
  unfold removeHolder
  split
  · dsimp only
    split
    · exact releaseGroup_grp_ne hh _
    · rfl
  · rfl

/-- The hold of a group is released when its last holder leaves. -/
theorem removeHolder_hold {g : GroupId} {x : Holder} (hx : x ∈ s.holders g) (honly : ∀ y ∈ s.holders g, y = x)
    (hp : s.present g = true) : ((removeHolder g x s).grp g).hold = false := by
  have hempty : (s.holders g).filter (· ≠ x) = [] := List.filter_eq_nil_iff.mpr fun y hy => by simp [honly y hy]
  unfold removeHolder
  rw [if_pos hx]
  dsimp only
  rw [hempty, if_pos List.isEmpty_nil]
  exact releaseGroup_hold hp

theorem removeHolder_held {g : GroupId} {x : Holder} (hother : ∃ y ∈ s.holders g, y ≠ x) :
    (removeHolder g x s).grp g = s.grp g := by
  obtain ⟨y, hy, hne⟩ := hother
  have hsome : ((s.holders g).filter (· ≠ x)).isEmpty ≠ true := by
    rw [Ne, List.isEmpty_iff]
    exact List.ne_nil_of_mem (List.mem_filter.mpr ⟨hy, decide_eq_true hne⟩)
  unfold removeHolder
  split
  · dsimp only
    rw [if_neg hsome]
    rfl
  · rfl

theorem cap_setCap (s : State) (a b : ApproachId) (c : Cap) : (s.setCap a c).cap b = if b = a then c else s.cap b := by
  by_cases hb : b = a
  · subst hb; simp [State.setCap, State.cap]
  · have : (a : Nat) ≠ b := fun e => hb (Fin.ext e.symm)
    simp [State.setCap, State.cap, hb, this]

theorem capExpired_of_present (hc : s.cap a = .loaded 0) (hp : (s.appSet a).present = true) :
    capExpired a s = removeHolder (s.appSet a).tramGroup (.approach a) (s.setCap a .absent) := by
  have hg : (s.setCap a .absent).tramGroup? a = some (s.appSet a).tramGroup := if_pos hp
  rw [capExpired, if_pos hc]
  dsimp only
  rw [hg]

theorem capExpired_of_absent (hc : s.cap a = .loaded 0) (hp : ¬ (s.appSet a).present = true) :
    capExpired a s = s.setCap a .absent := by
  have hg : (s.setCap a .absent).tramGroup? a = none := if_neg hp
  rw [capExpired, if_pos hc]
  dsimp only
  rw [hg]

/-- The caps and the approaches after a cap's expiry. -/
theorem capExpired_caps (hc : s.cap a = .loaded 0) : (capExpired a s).cap a = .absent
    ∧ (∀ b, b ≠ a → (capExpired a s).cap b = s.cap b) ∧ (capExpired a s).pri.approaches = s.pri.approaches := by
  have hcaps : (capExpired a s).pri.caps = (s.setCap a .absent).pri.caps
      ∧ (capExpired a s).pri.approaches = s.pri.approaches := by
    by_cases hp : (s.appSet a).present = true
    · rw [capExpired_of_present hc hp]
      exact (removeHolder_approaches _ _ _).symm
    · rw [capExpired_of_absent hc hp]
      exact ⟨rfl, rfl⟩
  have hcap (b : ApproachId) : (capExpired a s).cap b = (s.setCap a .absent).cap b := by
    rw [State.cap, State.cap, hcaps.1]
  refine ⟨?_, fun b hb => ?_, hcaps.2⟩
  · rw [hcap, cap_setCap, if_pos rfl]
  · rw [hcap, cap_setCap, if_neg hb]

theorem sameOutsidePriority_capExpired (a : ApproachId) (s : State) : SameOutsidePriority s (capExpired a s) :=
  ((PriActs.refl (A := fun _ => False) (C := False) s).capExpired a).outside

/-! #### The request determined anew -/

theorem determineRuling_of_same (h : s.ruling = s.pri.rulingHeld) : determineRuling false s = s := by
  unfold determineRuling
  dsimp only
  rw [if_pos h]
  split <;> rfl

/-- Settles O51. -/
theorem priorityTimersRunOut : Obligations.PriorityTimersRunOut := by
  intro s a idle withApp
  refine ⟨fun h rest hq hp ht => ?lost, fun hn => ?notLost, fun he hr => ?recovered, fun hn => ?notRecovered, fun hg => ?guard,
    fun hg => ?noGuard, fun hc => ?cap, fun hc => ?noCap, fun id c hc hs hr => ?call, fun id hn => ?noCall, fun hr => ?sameOrder,
    fun hr => ?otherOrder⟩
  case lost =>
    have hh : s.head? a = some h := by rw [State.head?, hq]; rfl
    let w := s.begun.report (.priorityEvent .lost (.tram a) (some h.tag) (some h.source) h.vehicle none)
    have hw : SameOutsidePriority s w := (sameOutsidePriority_begun s).trans (sameOutsidePriority_report _ _)
    obtain ⟨hout, htags, hothers, hcalls, l, hl, hlnk⟩ := removeHead_spec (s := w) hq
    exact ⟨removeHead a w, exec_congr (congrArg Host.Outcome.next (perform_due (timeoutDue_iff.mpr ⟨hp, h, hh, ht⟩)))
      (loseHead_eq (s := s.begun) hh), hw.trans hout, htags, hothers, hcalls, l, hl, hlnk⟩
  case notLost =>
    refine congrArg Host.Outcome.next (perform_notDue fun hd => ?_)
    obtain ⟨hp, h, hh, ht⟩ := timeoutDue_iff.mp hd
    exact (hn h hh hp).not_ge ht
  case recovered => 
    have heffect : endRecovery a s.begun = { withApp { s.app a with episode := .idle } with
        notices := s.notices ++ [.redetermine] ++ [.choose] } := rfl
    rw [List.append_assoc] at heffect
    exact exec_congr (congrArg Host.Outcome.next (perform_due (recoveryDue_iff.mpr ⟨he, hr⟩))) heffect
  case notRecovered => exact congrArg Host.Outcome.next (perform_notDue fun hd => hn (recoveryDue_iff.mp hd))
  case guard => exact congrArg Host.Outcome.next (if_pos (decide_eq_true hg))
  case noGuard => exact congrArg Host.Outcome.next (if_neg fun hd => hg (of_decide_eq_true hd))
  case cap =>
    have hexec : exec (.capExpiry a) s = .next (settle Config.reactionBound (capExpired a s.begun)) :=
      congrArg Host.Outcome.next (perform_due (s := s) (due := fun s => capDue s a) (f := capExpired a) (capDue_iff.mpr hc))
    obtain ⟨hcap, hcaps, happs⟩ := capExpired_caps (s := s.begun) hc
    refine ⟨capExpired a s.begun, hexec, (sameOutsidePriority_begun s).trans (sameOutsidePriority_capExpired a _), hcap, hcaps,
      happs, fun g hp hg => ?_⟩
    subst hg
    have hexpired : capExpired a s.begun = removeHolder (s.appSet a).tramGroup (.approach a) (s.begun.setCap a .absent) :=
      capExpired_of_present (s := s.begun) hc hp
    rw [hexpired]
    refine ⟨?_, fun h hh => ⟨?_, removeHolder_grp_ne hh _ _⟩, fun hm honly hpres => removeHolder_hold hm honly hpres,
      fun hother => removeHolder_held hother⟩
    · rw [removeHolder_holders, if_pos rfl]
      exact fun hm => of_decide_eq_true (List.mem_filter.mp hm).2 rfl
    · rw [removeHolder_holders, if_neg hh]
      rfl
  case noCap => exact congrArg Host.Outcome.next (perform_notDue fun hd => hc (capDue_iff.mp hd))
  case call =>
    obtain ⟨hout, hcalls, -, hlnk, hholders⟩ := finishCall_spec id s.begun
    exact ⟨finishCall id s.begun, congrArg Host.Outcome.next (perform_due (callHoldDue_iff.mpr ⟨c, hc, hs, hr⟩)),
      (sameOutsidePriority_begun s).trans hout, hcalls, hholders, hlnk⟩
  case noCall =>
    refine congrArg Host.Outcome.next (perform_notDue fun hd => ?_)
    obtain ⟨c, hc, h⟩ := callHoldDue_iff.mp hd
    exact hn c hc h
  case sameOrder => exact congrArg (fun u => Host.Outcome.next (settle Config.reactionBound u)) (determineRuling_of_same (s := s.begun) hr)
  case otherOrder =>
    obtain ⟨u, hu, hacts⟩ := PriActs.exists_of_rulingChanged (s := s.begun) false (fun r _ => PriActs.allows_any r) hr
    obtain ⟨l, hl⟩ := hacts.notices
    have hall := PriActs.determineRuling false s.begun
    exact ⟨determineRuling false s.begun, l, rfl, hall.held, by rw [hu, State.push_notices, ← hl]; rfl,
      (sameOutsidePriority_begun s).trans (PriActs.determineRuling_outside false s.begun)⟩

end Sys2Proof.Machine
end

section
/-! ## What demands and group inputs leave alone (R51, R53, R54, R67) -/

namespace Sys2Proof.Machine

theorem DemandSet.has_add (x : DemandSet) (d e : DemandSource) :
    DemandSet.has (DemandSet.add x d) e = (DemandSet.has x e || decide (d = e)) := by
  have hbit : (BitVec.ofNat 5 (2 ^ d.code)).getLsbD e.code = decide (d = e) := by
    cases d <;> cases e <;> decide
  rw [DemandSet.has, DemandSet.add, BitVec.getLsbD_or, hbit]
  rfl

/-- The demand stays latched with the sources it has, and may gain some. -/
def Demand.Grows (x y : Demand) : Prop :=
  (x.latched = true → y.latched = true)
    ∧ ∀ src, x.latched = true → DemandSet.has x.sources src = true → DemandSet.has y.sources src = true

theorem Demand.Grows.refl (x : Demand) : x.Grows x := ⟨id, fun _ _ => id⟩

theorem Demand.Grows.trans {x y z : Demand} (h : x.Grows y) (k : y.Grows z) : x.Grows z :=
  ⟨fun hx => k.1 (h.1 hx), fun src hx hs => k.2 src (h.1 hx) (h.2 src hx hs)⟩

/-- A demand in the table, its wait indicator and SEQ's choice to come. -/
def demanded (g : GroupId) (src : DemandSource) (s : State) : State :=
  if (s.dem g).latched then s.onDem g fun e => { e with sources := DemandSet.add e.sources src }
  else (s.onDem g fun _ => { latched := true, sources := DemandSet.add 0 src, wait := 0 }).report (.demandLatched g src)

theorem latch_eq (g : GroupId) (src : DemandSource) (s : State) : latch g src s =
    (if src = .button && !DemandSet.has (s.dem g).sources .button then setWait g true (demanded g src s)
      else demanded g src s).push .choose := rfl

/-- What latching demands and setting the inputs of the groups can do: nothing in the detectors, in the Priority Unit, in the
store or in the mode, nothing in the sequencer but demands that grow, and on the link nothing but reports. -/
structure DemandActs (s t : State) : Prop where
  dti : t.dti = s.dti
  pri : t.pri = s.pri
  jmc : t.jmc = s.jmc
  pts : t.pts = s.pts
  time : t.time = s.time
  seq : { t.seq with demand := s.seq.demand } = s.seq
  record : { t.cmon with recs := s.cmon.recs, counted := s.cmon.counted, dropTimer := s.cmon.dropTimer } = s.cmon
  states : ∀ g, (t.grp g).state = (s.grp g).state
  demands : ∀ g, (s.dem g).Grows (t.dem g)
  reports : ∃ l : List ReportBody, t.lnk = (l.foldl State.report s).lnk

namespace DemandActs

variable {s t u : State}

theorem refl (s : State) : DemandActs s s := ⟨rfl, rfl, rfl, rfl, rfl, rfl, rfl, fun _ => rfl, fun _ => .refl _, [], rfl⟩

theorem trans (h : DemandActs s t) (k : DemandActs t u) : DemandActs s u := by
  obtain ⟨l, hl⟩ := h.reports
  obtain ⟨m, hm⟩ := k.reports
  refine ⟨k.dti.trans h.dti, k.pri.trans h.pri, k.jmc.trans h.jmc, k.pts.trans h.pts, k.time.trans h.time, ?_, ?_,
    fun g => (k.states g).trans (h.states g), fun g => (h.demands g).trans (k.demands g), l ++ m, ?_⟩
  · rw [← h.seq, ← k.seq]
  · rw [← h.record, ← k.record]
  · rw [hm, List.foldl_append]
    exact foldl_report_lnk_congr m hl (h.time.trans (foldl_report_time l s).symm)

theorem foldl {α : Type} (h : DemandActs s t) (f : State → α → State) (l : List α)
    (hf : ∀ u x, DemandActs s u → DemandActs s (f u x)) : DemandActs s (l.foldl f t) := by
  induction l generalizing t with
  | nil => exact h
  | cons x l ih => exact ih (hf t x h)

theorem ite {c : Prop} [Decidable c] {t u : State} (ht : c → DemandActs s t) (hu : ¬ c → DemandActs s u) :
    DemandActs s (if c then t else u) := by
  split
  · exact ht ‹_›
  · exact hu ‹_›

variable (h : DemandActs s t)
include h

theorem report (b : ReportBody) : DemandActs s (t.report b) :=
  h.trans ⟨rfl, rfl, rfl, rfl, rfl, rfl, rfl, fun _ => rfl, fun _ => .refl _, [b], rfl⟩

theorem push (n : Notice) : DemandActs s (t.push n) :=
  h.trans ⟨rfl, rfl, rfl, rfl, rfl, rfl, rfl, fun _ => rfl, fun _ => .refl _, [], rfl⟩

theorem onGrp (g : GroupId) (f : GroupRec → GroupRec) (hf : ∀ r, (f r).state = r.state) : DemandActs s (t.onGrp g f) :=
  h.trans ⟨rfl, rfl, rfl, rfl, rfl, rfl, rfl, fun b => grp_state_onGrp (hf _) b, fun _ => .refl _, [], rfl⟩

theorem onDem (g : GroupId) (f : Demand → Demand) (hf : (t.dem g).Grows (f (t.dem g))) : DemandActs s (t.onDem g f) := by
  refine h.trans ⟨rfl, rfl, rfl, rfl, rfl, rfl, rfl, fun _ => rfl, fun b => ?_, [], rfl⟩
  by_cases hb : g = b
  · subst hb; rw [State.dem_onDem_self]; exact hf
  · rw [State.dem_onDem_ne _ hb]; exact .refl _

theorem sendLamp (g : GroupId) : DemandActs s (sendLamp g t) :=
  h.trans ⟨rfl, rfl, rfl, rfl, rfl, rfl, rfl, fun _ => rfl, fun _ => .refl _, [], rfl⟩

theorem setWait (g : GroupId) (on : Bool) : DemandActs s (setWait g on t) := by
  have h1 := h.onGrp g (fun r => { r with wait := on }) fun _ => rfl
  exact ite (fun _ => h) fun _ => ite (fun _ => h1) fun _ => h1.sendLamp g

theorem demanded (g : GroupId) (src : DemandSource) : DemandActs s (demanded g src t) :=
  ite (fun _ => h.onDem g _ ⟨id, fun e _ he => by rw [DemandSet.has_add, he]; rfl⟩) fun hl =>
    (h.onDem g _ ⟨fun e => absurd e hl, fun _ e => absurd e hl⟩).report _

theorem latch (g : GroupId) (src : DemandSource) : DemandActs s (latch g src t) :=
  push (ite (fun _ => (h.demanded g src).setWait g true) fun _ => h.demanded g src) _

theorem demandNotice (src : DemandSource) (g : GroupId) : DemandActs s (demandNotice src g t) :=
  ite (fun _ => h.latch g src) fun _ => h

theorem faultDemandOn (g : GroupId) : DemandActs s (faultDemandOn g t) := ite (fun _ => h.latch g .fault) fun _ => h

theorem setExtInput (g : GroupId) (on : Bool) : DemandActs s (setExtInput g on t) :=
  h.onGrp g (fun r => if on && r.state = .opened && r.minDone && r.ext = .running then
    { r with extInput := on, gapTimer := (t.times g).gap } else { r with extInput := on }) fun r => by
      split <;> rfl

theorem sendDemand (d : DetId) : DemandActs s (sendDemand d t) := h.foldl _ _ fun _ g hu => hu.demandNotice _ g

theorem demandOnEffective (d : DetId) : DemandActs s (demandOnEffective d t) := ite (fun _ => h.sendDemand d) fun _ => h

end DemandActs

/-! #### Latched demands -/

variable {s t : State}

theorem dem_report (s : State) (b : ReportBody) (g : GroupId) : (s.report b).dem g = s.dem g := rfl

theorem dem_push (s : State) (n : Notice) (g : GroupId) : (s.push n).dem g = s.dem g := rfl

theorem demanded_dem_self (g : GroupId) (src : DemandSource) (s : State) : ((demanded g src s).dem g).latched = true
    ∧ DemandSet.has ((demanded g src s).dem g).sources src = true := by
  unfold demanded
  split
  · next hl =>
    rw [State.dem_onDem_self]
    exact ⟨hl, by simp [DemandSet.has_add]⟩
  · rw [dem_report, State.dem_onDem_self]
    exact ⟨rfl, by simp [DemandSet.has_add]⟩

theorem setWait_dem (g h : GroupId) (on : Bool) (s : State) : (setWait g on s).dem h = s.dem h := by
  unfold setWait
  split
  · rfl
  · dsimp only
    split <;> rfl

theorem latch_dem (g h : GroupId) (src : DemandSource) (s : State) : (latch g src s).dem h = (demanded g src s).dem h := by
  rw [latch_eq, dem_push]
  split
  · exact setWait_dem g h true _
  · rfl

theorem latch_dem_self (g : GroupId) (src : DemandSource) (s : State) : ((latch g src s).dem g).latched = true
    ∧ DemandSet.has ((latch g src s).dem g).sources src = true := by
  rw [latch_dem]
  exact demanded_dem_self g src s

theorem DemandActs.present (h : DemandActs s t) (g : GroupId) : t.present g = s.present g := by
  rw [State.present, State.present, State.groupDef, State.groupDef, h.pts]

theorem foldl_demandNotice_latches {l : List GroupId} {g : GroupId} (src : DemandSource) (hg : g ∈ l)
    (hp : s.present g = true) (ho : (s.grp g).state ≠ .opened) :
    let u := l.foldl (fun s g => demandNotice src g s) s
    (u.dem g).latched = true ∧ DemandSet.has (u.dem g).sources src = true := by
  induction l generalizing s with
  | nil => exact absurd hg List.not_mem_nil
  | cons x l ih =>
    have hstep : DemandActs s (demandNotice src x s) := (DemandActs.refl s).demandNotice src x
    obtain rfl | hg := List.mem_cons.mp hg
    · have hnow : demandNotice src g s = latch g src s := if_pos (by simp [hp, ho])
      obtain ⟨hl, hs⟩ := latch_dem_self g src s
      have hrest : DemandActs (latch g src s) (l.foldl (fun s g => demandNotice src g s) (latch g src s)) :=
        (DemandActs.refl _).foldl _ _ fun _ y hu => hu.demandNotice src y
      rw [List.foldl_cons, hnow]
      exact ⟨(hrest.demands g).1 hl, (hrest.demands g).2 src hl hs⟩
    · exact ih hg (by rw [hstep.present, hp]) (by rw [hstep.states]; exact ho)

/-- A detector's demand latches for every present group it lists that is not in OPEN. -/
theorem sendDemand_latches (d : DetId) {g : GroupId} (hg : GroupSet.has (s.detSet d).groups g = true)
    (hp : s.present g = true) (ho : (s.grp g).state ≠ .opened) : ((sendDemand d s).dem g).latched = true
      ∧ DemandSet.has ((sendDemand d s).dem g).sources (demandSourceOf (s.detSet d).kind) = true :=
  foldl_demandNotice_latches (demandSourceOf (s.detSet d).kind) (mem_members.mpr hg) hp ho

/-! #### The group inputs (R51, R54) -/

/-- The inputs follow the records, and every change of one goes to its group. -/
theorem recomputeInputs_acts (s : State) :
    DemandActs (s.onDti fun e => { e with ext := s.extWanted, fault := s.faultWanted }) (recomputeInputs s) :=
  (DemandActs.refl _).foldl _ _ fun _ g hu =>
    have h1 := DemandActs.ite (fun _ => hu) fun _ => hu.setExtInput g _
    DemandActs.ite (fun _ => h1.faultDemandOn g) fun _ => h1

/-- What one record's change does once the group inputs have followed it: nothing but the reports, demands and inputs. -/
structure Follows (s t : State) : Prop where
  recs : t.dti.recs = s.dti.recs
  inputs : t.dti.ext = t.extWanted ∧ t.dti.fault = t.faultWanted
  pri : t.pri = s.pri
  jmc : t.jmc = s.jmc
  pts : t.pts = s.pts
  time : t.time = s.time
  seq : { t.seq with demand := s.seq.demand } = s.seq
  states : ∀ g, (t.grp g).state = (s.grp g).state
  reports : ∃ l : List ReportBody, t.lnk = (l.foldl State.report s).lnk

theorem plan?_congr (hp : t.pts.activeCopy = s.pts.activeCopy) (hs : t.seq.activeSlot = s.seq.activeSlot) : t.plan? = s.plan? := by
  rw [State.plan?, State.plan?, hp, hs]

theorem inputs_congr (hrecs : t.dti.recs = s.dti.recs) (hplan : t.plan? = s.plan?) :
    t.extWanted = s.extWanted ∧ t.faultWanted = s.faultWanted := by
  have hdet (d : DetId) : t.det d = s.det d := by rw [State.det, State.det, hrecs]
  have hset (d : DetId) : t.detSet d = s.detSet d := by rw [State.detSet, State.detSet, hplan]
  simp only [State.extWanted, State.faultWanted, hdet, hset, and_self]

theorem activeSlot_of_seq {p q : Seq} {x : Vector Demand 24} (h : { p with demand := x } = q) : p.activeSlot = q.activeSlot :=
  by rw [← h]

theorem recomputeInputs_follows (s : State) : Follows s (recomputeInputs s) := by
  have h := recomputeInputs_acts s
  have hin := inputs_congr (t := recomputeInputs s) (s := s) (by rw [h.dti]; rfl)
    (plan?_congr (by rw [h.pts]; rfl) (activeSlot_of_seq h.seq))
  obtain ⟨l, hl⟩ := h.reports
  exact ⟨by rw [h.dti]; rfl, ⟨by rw [h.dti, hin.1]; rfl, by rw [h.dti, hin.2]; rfl⟩, h.pri, h.jmc, h.pts, h.time, h.seq, h.states,
    l, hl.trans (foldl_report_lnk_congr l rfl rfl)⟩

/-- Later demands leave the inputs as they are. -/
theorem Follows.demands {u : State} (h : Follows s t) (k : DemandActs t u) : Follows s u := by
  obtain ⟨l, hl⟩ := h.reports
  obtain ⟨m, hm⟩ := k.reports
  have hin := inputs_congr (t := u) (s := t) (by rw [k.dti]) (plan?_congr (by rw [k.pts]) (activeSlot_of_seq k.seq))
  refine ⟨by rw [k.dti, h.recs], ⟨by rw [k.dti, hin.1, h.inputs.1], by rw [k.dti, hin.2, h.inputs.2]⟩, k.pri.trans h.pri,
    k.jmc.trans h.jmc, k.pts.trans h.pts, k.time.trans h.time, ?_, fun g => (k.states g).trans (h.states g), l ++ m, ?_⟩
  · rw [← h.seq, ← k.seq]
  · rw [hm, List.foldl_append]
    exact foldl_report_lnk_congr m hl (h.time.trans (foldl_report_time l s).symm)

theorem Follows.detSet (h : Follows s t) (d : DetId) : t.detSet d = s.detSet d := by
  rw [State.detSet, State.detSet, plan?_congr (by rw [h.pts]) (activeSlot_of_seq h.seq)]

theorem Follows.det (h : Follows s t) (d : DetId) : t.det d = s.det d := by
  rw [State.det, State.det, h.recs]

end Sys2Proof.Machine
end

section
/-! ### The detectors' timers and masks (R47, R48, R52) -/

namespace Sys2Proof.Machine

variable {s t u : State} {d : DetId}

theorem Follows.after (k : DemandActs s t) (h : Follows t u) : Follows s u := by
  obtain ⟨l, hl⟩ := k.reports
  obtain ⟨m, hm⟩ := h.reports
  refine ⟨by rw [h.recs, k.dti], h.inputs, h.pri.trans k.pri, h.jmc.trans k.jmc, h.pts.trans k.pts, h.time.trans k.time, ?_,
    fun g => (h.states g).trans (k.states g), l ++ m, ?_⟩
  · rw [← k.seq, ← h.seq]
  · rw [hm, List.foldl_append]
    exact foldl_report_lnk_congr m hl (k.time.trans (foldl_report_time l s).symm)

theorem changeDet_follows (d : DetId) (f : DetRec → DetRec) (s : State) : Follows (s.onDet d f) (changeDet d f s) :=
  Follows.after (DemandActs.ite (fun _ => (DemandActs.refl _).report _) fun _ => DemandActs.refl _) (recomputeInputs_follows _)

/-- One record written, the others as they were, with what a detector's change leaves alone. -/
structure Wrote (d : DetId) (x : DetRec) (s u : State) : Prop where
  self : u.det d = x
  others : ∀ e, e ≠ d → u.det e = s.det e
  inputs : u.dti.ext = u.extWanted ∧ u.dti.fault = u.faultWanted
  jmc : u.jmc = s.jmc
  pts : u.pts = s.pts
  pri : u.pri = s.pri

theorem Follows.wrote {f : DetRec → DetRec} (h : Follows (s.onDet d f) u) : Wrote d (f (s.det d)) s u :=
  ⟨by rw [h.det, State.det_onDet_self], fun e he => by rw [h.det, State.det_onDet_ne _ (Ne.symm he)], h.inputs, h.jmc, h.pts,
    h.pri⟩

theorem confirmSilence_wrote (d : DetId) (s : State) :
    Wrote d { s.det d with silent := true, settled := true } s (confirmSilence d s) := by
  unfold confirmSilence
  split
  · next hs =>
    rw [show ({ s.det d with silent := true, settled := true } : DetRec) = { s.det d with silent := true } by rw [← hs]]
    exact (changeDet_follows d (fun r => { r with silent := true }) s).wrote
  · exact (Follows.after (DemandActs.ite (fun _ => (DemandActs.refl _).report _) fun _ => DemandActs.refl _)
      (recomputeInputs_follows _)).wrote (f := fun r => { r with silent := true, settled := true })

theorem becomeStuck_wrote (d : DetId) (s : State) : Wrote d (retestStuck (s.detSet d) (s.det d)) s (becomeStuck d s) :=
  (changeDet_follows d _ s).wrote

theorem setMask_wrote (d : DetId) (on : Bool) (s : State) : Wrote d { s.det d with mask := on } s (setMask d on s) := by
  have h : Follows (s.onDet d fun r => { r with mask := on }) (recomputeInputs (s.onDet d fun r => { r with mask := on })) :=
    recomputeInputs_follows _
  unfold setMask
  dsimp only
  split
  · exact h.wrote
  · exact (h.demands ((DemandActs.refl _).demandOnEffective d)).wrote

/-- A detector that stands OCCUPIED past its limit has STUCK_ON alone active, and one VACANT past its limit STUCK_OFF alone. -/
theorem retestStuck_on {c : DetSettings} {r : DetRec} (ho : r.occupied = true) (hk : c.kind ≠ .unused) (hz : c.stuckOn ≠ 0)
    (hl : c.stuckOn ≤ r.sinceChange) : retestStuck c r = { r with stuckOn := true, stuckOff := false } := by
  simp [retestStuck, ho, hk, hz, hl]

theorem retestStuck_off {c : DetSettings} {r : DetRec} (ho : r.occupied = false) (hk : c.kind ≠ .unused) (hz : c.stuckOff ≠ 0)
    (hl : c.stuckOff ≤ r.sinceChange) : retestStuck c r = { r with stuckOn := false, stuckOff := true } := by
  simp [retestStuck, ho, hk, hz, hl]

theorem exec_detectorMask (tag : Byte) (n : Nat) (value : Bool) (s : State) : exec (.detectorMask tag n value) s =
    .next (settle Config.reactionBound (takeDetectorMask tag n value s.begun)) := rfl

theorem takeDetectorMask_range (tag : Byte) {n : Nat} (h : n = 0 ∨ 32 < n) (value : Bool) (s : State) :
    takeDetectorMask tag n value s = s.reply 0x0E tag .range := by
  simp only [takeDetectorMask, detectorNumbered, numbered_eq_none h]

theorem takeDetectorMask_number (tag : Byte) (d : DetId) (value : Bool) (s : State) :
    takeDetectorMask tag (number d) value s = setMask d value (s.reply 0x0E tag .ok) := by
  simp only [takeDetectorMask, detectorNumbered, numbered_number]

theorem Wrote.fields {x : DetRec} (h : Wrote d x s u) : u.det d = x ∧ (∀ e, e ≠ d → u.det e = s.det e)
    ∧ u.dti.ext = u.extWanted ∧ u.dti.fault = u.faultWanted ∧ u.jmc = s.jmc ∧ u.pts = s.pts ∧ u.pri = s.pri :=
  ⟨h.self, h.others, h.inputs.1, h.inputs.2, h.jmc, h.pts, h.pri⟩

/-- Settles O53. -/
theorem detectorTimersAndMask : Obligations.DetectorTimersAndMask := by
  intro s d tag r c wrote on off
  refine ⟨fun hs hr => ?silent, fun hn => ?notSilent, fun ⟨ho, hk, hz, hl⟩ hr => ?on, fun ⟨ho, hk, hz, hl⟩ hr => ?off,
    fun hn hf => ?notStuck, fun value => ?mask, fun n value hn => ?range⟩
  case silent =>
    exact ⟨confirmSilence d s.begun, congrArg Host.Outcome.next (perform_due (due := fun s => silenceDue s d)
      (silenceDue_iff.mpr ⟨hs, hr⟩)), (confirmSilence_wrote d s.begun).fields⟩
  case notSilent => exact congrArg Host.Outcome.next (perform_notDue fun h => hn (silenceDue_iff.mp h))
  case on =>
    rw [← retestStuck_on ho hk hz hl]
    exact ⟨becomeStuck d s.begun, congrArg Host.Outcome.next (perform_due (due := fun s => stuckDue s d)
      (stuckDue_iff.mpr ⟨hk, .inl ⟨ho, hz, hl, hr⟩⟩)), (becomeStuck_wrote d s.begun).fields⟩
  case off =>
    rw [← retestStuck_off ho hk hz hl]
    exact ⟨becomeStuck d s.begun, congrArg Host.Outcome.next (perform_due (due := fun s => stuckDue s d)
      (stuckDue_iff.mpr ⟨hk, .inr ⟨ho, hz, hl, hr⟩⟩)), (becomeStuck_wrote d s.begun).fields⟩
  case notStuck =>
    refine congrArg Host.Outcome.next (perform_notDue fun h => ?_)
    obtain ⟨hk, ⟨ho, hz, hl, hr⟩ | ⟨ho, hz, hl, hr⟩⟩ := stuckDue_iff.mp h
    · exact hn ⟨⟨ho, hk, hz, hl⟩, hr⟩
    · exact hf ⟨⟨ho, hk, hz, hl⟩, hr⟩
  case mask =>
    exact ⟨setMask d value (s.begun.reply 0x0E tag .ok),
      exec_congr (exec_detectorMask tag _ value s) (takeDetectorMask_number tag d value s.begun),
      (setMask_wrote d value (s.begun.reply 0x0E tag .ok)).fields⟩
  case range => exact exec_congr (exec_detectorMask tag n value s) (takeDetectorMask_range tag hn value s.begun)

end Sys2Proof.Machine
end

section
/-! ### The words of the detector line (R41, R44, R46, R49, R53, R97, R100) -/

namespace Sys2Proof.Machine

variable {s t u : State} {d : DetId} {a : ApproachId}

/-! #### The record a word leaves -/

theorem effectiveUnder_iff {c : DetSettings} {r : DetRec} :
    effectiveUnder c r = true ↔ c.kind ≠ .unused ∧ r.conditions = [] ∧ r.mask = false := by
  by_cases hk : c.kind = .unused
  · simp [effectiveUnder, hk]
  · simp [effectiveUnder, causeUnder, hk, and_assoc]

/-- The record with its parity booked for a valid word (R44). -/
theorem passedParity_eq (r : DetRec) : r.passedParity =
    if r.parity = false then { r with parityRun := 0 }
    else if 3 ≤ r.goodRun + 1 then { r with parity := false, parityRun := 0, goodRun := 0 }
    else { r with goodRun := r.goodRun + 1 } := by
  simp only [DetRec.passedParity, Bool.not_eq_true']

/-- Booking the parity touches nothing that a good word reads of the record. -/
theorem passedParity_reads (r : DetRec) : r.passedParity.settled = r.settled ∧ r.passedParity.occupied = r.occupied
    ∧ r.passedParity.sinceChange = r.sinceChange ∧ r.passedParity.ring = r.ring ∧ r.passedParity.count = r.count
    ∧ r.passedParity.mask = r.mask := by
  rw [passedParity_eq]
  split
  · exact ⟨rfl, rfl, rfl, rfl, rfl, rfl⟩
  · split <;> exact ⟨rfl, rfl, rfl, rfl, rfl, rfl⟩

/-- What a good word makes of a record (R46, R47, R57, R58). -/
theorem goodWord_rec (c : DetSettings) (occupied : Bool) (time : JTime) (r : DetRec) : r.goodWord c occupied time =
    let edge : Bool := r.settled && (occupied != r.occupied)
    let since := if r.settled = false ∨ edge = true then 0 else r.sinceChange
    let ring := r.ring ++ [{ occupied := occupied, time := time }]
    let used : Bool := decide (c.kind ≠ .unused)
    { r with
      card := false, silent := false, silence := 0, occupied := occupied, settled := true, sinceChange := since
      ring := if edge && used then ring.drop (ring.length - c.ringLength) else r.ring
      count := if edge && used && occupied then min (r.count + 1) 65535 else r.count
      stuckOn := occupied && used && decide (c.stuckOn ≠ 0 ∧ c.stuckOn ≤ since)
      stuckOff := !occupied && used && decide (c.stuckOff ≠ 0 ∧ c.stuckOff ≤ since) } := by
  dsimp only
  unfold DetRec.goodWord
  cases hs : r.settled with
  | false =>
    by_cases hk : c.kind = .unused
    · simp [retestStuck, hk]
    · simp [retestStuck, hk, Bool.and_assoc]
  | true =>
    by_cases ho : occupied = r.occupied
    · by_cases hk : c.kind = .unused
      · simp [retestStuck, hk, ho, hs]
      · simp [retestStuck, hk, ho, hs, Bool.and_assoc]
    · have hne : (occupied != r.occupied) = true := by simpa using ho
      by_cases hk : c.kind = .unused
      · simp [retestStuck, DetRec.noteEdge, hk, ho, hne, hs]
      · simp [retestStuck, DetRec.noteEdge, hk, ho, hne, hs, Bool.and_assoc]

/-! #### A good word in its steps -/

/-- The record a good word leaves the detector with. -/
def goodRec (d : DetId) (occupied : Bool) (s : State) : DetRec :=
  (s.det d).passedParity.goodWord (s.detSet d) occupied s.time

/-- The word is an accepted edge. -/
def edgeOf (d : DetId) (occupied : Bool) (s : State) : Bool := (s.det d).settled && occupied != (s.det d).occupied

/-- The word booked and reported, the group inputs following it, and its edge not yet delivered. -/
def wordBooked (d : DetId) (occupied : Bool) (s : State) : State :=
  let c := s.detSet d
  let r := goodRec d occupied s
  let s₁ := s.onDet d fun _ => r
  let s₂ :=
    if edgeOf d occupied s && c.kind ≠ .unused && c.edgeReporting then
      s₁.report (.detectorEdge d occupied (effectiveUnder c r))
    else s₁
  recomputeInputs <|
    if c.kind = .unused then s₂
    else if (s.det d).settled then (if causeUnder c (s.det d) = causeUnder c r then s₂ else reportHealth d s₂)
    else if (causeUnder c r).isSome then reportHealth d s₂ else s₂

/-- The word with its edge delivered. -/
def wordDelivered (d : DetId) (occupied : Bool) (s : State) : State :=
  if edgeOf d occupied s && effectiveUnder (s.detSet d) (goodRec d occupied s) then deliverEdge d occupied (wordBooked d occupied s)
  else wordBooked d occupied s

theorem goodWord_eq (d : DetId) (occupied : Bool) (s : State) : goodWord d occupied s =
    if effectiveUnder (s.detSet d) (goodRec d occupied s) && !effectiveUnder (s.detSet d) (s.det d)
      && !(edgeOf d occupied s && occupied) then demandOnEffective d (wordDelivered d occupied s)
    else wordDelivered d occupied s := rfl

theorem wordBooked_follows (d : DetId) (occupied : Bool) (s : State) :
    Follows (s.onDet d fun _ => goodRec d occupied s) (wordBooked d occupied s) := by
  have h1 : DemandActs (s.onDet d fun _ => goodRec d occupied s) _ :=
    DemandActs.ite (c := (edgeOf d occupied s && (s.detSet d).kind ≠ .unused && (s.detSet d).edgeReporting) = true)
      (fun _ => (DemandActs.refl _).report (.detectorEdge d occupied (effectiveUnder (s.detSet d) (goodRec d occupied s))))
      fun _ => DemandActs.refl _
  refine Follows.after ?_ (recomputeInputs_follows _)
  exact DemandActs.ite (fun _ => h1) fun _ => DemandActs.ite (fun _ => DemandActs.ite (fun _ => h1) fun _ => h1.report _) fun _ =>
    DemandActs.ite (fun _ => h1.report _) fun _ => h1

/-- An edge that is no check-in and no check-out raises demands at most. -/
theorem deliverEdge_acts {occupied : Bool} (hin : ¬ ((s.detSet d).kind = .tramIn ∧ occupied = true))
    (hout : ¬ ((s.detSet d).kind = .tramOut ∧ occupied = false)) : DemandActs s (deliverEdge d occupied s) := by
  have hs := DemandActs.refl s
  unfold deliverEdge
  dsimp only
  split
  · exact DemandActs.ite (fun _ => hs.sendDemand d) fun _ => hs
  · exact DemandActs.ite (fun _ => hs.sendDemand d) fun _ => hs
  · exact DemandActs.ite (fun _ => hs.sendDemand d) fun _ => hs
  · next hk => exact DemandActs.ite (fun ho => absurd ⟨hk, ho⟩ hin) fun _ => hs
  · next hk => exact DemandActs.ite (fun _ => hs) fun ho => absurd ⟨hk, by simpa using ho⟩ hout
  all_goals exact hs

/-- The word's edge goes out. -/
def Delivers (d : DetId) (occupied : Bool) (s : State) : Prop :=
  edgeOf d occupied s = true ∧ (goodRec d occupied s).conditions = [] ∧ (s.det d).mask = false

theorem goodRec_mask (d : DetId) (occupied : Bool) (s : State) : (goodRec d occupied s).mask = (s.det d).mask := by
  rw [goodRec, goodWord_rec]
  exact (passedParity_reads _).2.2.2.2.2

theorem delivers_iff {occupied : Bool} (hk : (s.detSet d).kind ≠ .unused) :
    (edgeOf d occupied s && effectiveUnder (s.detSet d) (goodRec d occupied s)) = true ↔ Delivers d occupied s := by
  rw [Bool.and_eq_true, effectiveUnder_iff, goodRec_mask]
  exact ⟨fun ⟨he, _, hc, hm⟩ => ⟨he, hc, hm⟩, fun ⟨he, hc, hm⟩ => ⟨he, hk, hc, hm⟩⟩

/-- A word that is no check-in and no check-out changes nothing but the record, the inputs and demands. -/
theorem goodWord_follows {occupied : Bool} (hin : ¬ (Delivers d occupied s ∧ (s.detSet d).kind = .tramIn ∧ occupied = true))
    (hout : ¬ (Delivers d occupied s ∧ (s.detSet d).kind = .tramOut ∧ occupied = false)) :
    Follows (s.onDet d fun _ => goodRec d occupied s) (goodWord d occupied s) := by
  have hb := wordBooked_follows d occupied s
  have hset : (wordBooked d occupied s).detSet d = s.detSet d := hb.detSet d
  have hd : Follows (s.onDet d fun _ => goodRec d occupied s) (wordDelivered d occupied s) := by
    unfold wordDelivered
    split
    · next h =>
      have hdel (hk : (s.detSet d).kind ≠ .unused) := (delivers_iff hk).mp h
      refine hb.demands (deliverEdge_acts (fun ⟨hk, ho⟩ => ?_) fun ⟨hk, ho⟩ => ?_)
      · rw [hset] at hk
        exact hin ⟨hdel (by rw [hk]; decide), hk, ho⟩
      · rw [hset] at hk
        exact hout ⟨hdel (by rw [hk]; decide), hk, ho⟩
    · exact hb
  rw [goodWord_eq]
  split
  · exact hd.demands ((DemandActs.refl _).demandOnEffective d)
  · exact hd

/-- An OCCUPIED edge that goes out is delivered, and nothing follows. -/
theorem goodWord_occupied (hk : (s.detSet d).kind ≠ .unused) (hdel : Delivers d true s) :
    goodWord d true s = deliverEdge d true (wordBooked d true s) := by
  rw [goodWord_eq, if_neg (by simp [hdel.1]), wordDelivered, if_pos ((delivers_iff hk).mpr hdel)]

theorem demandOnEffective_of_not_demanding (hk : (s.detSet d).kind.demanding = false) : demandOnEffective d s = s :=
  if_neg (by simp [hk])

/-! #### Check-in and check-out by a loop -/

/-- The approach listens for a check-in (R97). -/
def Hears (a : ApproachId) (s : State) : Prop :=
  (s.appSet a).present = true ∧ (s.jmc.mode = .normal ∨ s.jmc.mode = .manual) ∧ (s.app a).checkinGuard = 0

/-- The approach with its guard loaded. -/
def guardLoaded (a : ApproachId) (s : State) : State :=
  s.onApp a fun x => { x with checkinGuard := (s.appSet a).checkinGuard }

theorem loopCheckIn_unheard (h : ¬ Hears a s) (time : JTime) : loopCheckIn a time s = s := by
  unfold loopCheckIn
  dsimp only
  split
  · rfl
  · next hp =>
    split
    · rfl
    · next hm =>
      refine if_pos (Nat.pos_of_ne_zero fun hg => h ⟨by simpa using hp, ?_, hg⟩)
      simpa [or_iff_not_imp_left] using hm

section Heard

variable (h : Hears a s) (time : JTime)
include h

theorem loopCheckIn_heard : loopCheckIn a time s =
    if (s.app a).queue.length ≥ Config.queueCapacity then reportApproach .checkinRefused a (some .loop) (guardLoaded a s)
    else addTram a .loop none time (s.appSet a).run (guardLoaded a s) := by
  obtain ⟨hp, hm, hg⟩ := h
  have hmode : ¬ (decide (s.jmc.mode ≠ .normal) && decide (s.jmc.mode ≠ .manual)) = true := by
    simpa [or_iff_not_imp_left] using hm
  unfold loopCheckIn
  dsimp only
  rw [if_neg (by simp [hp]), if_neg hmode, if_neg (by simp [hg])]
  rfl

end Heard

theorem guardLoaded_app_self (a : ApproachId) (s : State) :
    (guardLoaded a s).app a = { s.app a with checkinGuard := (s.appSet a).checkinGuard } := State.app_onApp_self s a _

theorem guardLoaded_newTag (a : ApproachId) (s : State) : newTag (guardLoaded a s) a = newTag s a := by
  rw [newTag, newTag, guardLoaded_app_self]

/-- The unit with a record joined to an approach whose guard is loaded. -/
theorem joined_guardLoaded_pri (a : ApproachId) (src : TramSource) (vehicle : Option Nat) (time : JTime) (eta : Nat) (s : State) :
    (joined a src vehicle time eta (guardLoaded a s)).pri = { s.pri with
      approaches := s.pri.approaches.set a { s.app a with
        checkinGuard := (s.appSet a).checkinGuard, nextTag := nextTagOf (newTag s a)
        queue := (s.app a).queue ++ [addedTram a src vehicle time eta s] } } := by
  have hpri : (joined a src vehicle time eta (guardLoaded a s)).pri = { s.pri with
      approaches := ((guardLoaded a s).pri.approaches.set a
        (((guardLoaded a s).app a).joinedBy (addedTram a src vehicle time eta (guardLoaded a s)))) } := rfl
  have hset (x y : Approach) : (s.pri.approaches.set a x).set a y = s.pri.approaches.set a y := Vector.set_set ..
  rw [hpri, guardLoaded_app_self, addedTram, guardLoaded_newTag]
  exact congrArg (fun v => { s.pri with approaches := v }) (hset _ _)

theorem loopCheckOut_absent (hp : (s.appSet a).present = false) : loopCheckOut a s = s := if_pos (by simp [hp])

theorem loopCheckOut_empty (hp : (s.appSet a).present = true) (hq : (s.app a).queue = []) :
    loopCheckOut a s = s.report (.priorityEvent .checkoutUnexpected (.tram a) none (some .loop) none none) :=
  (if_neg (by simp [hp])).trans (if_pos (by simp [hq]))

theorem loopCheckOut_head {h : TramRec} {rest : List TramRec} (hp : (s.appSet a).present = true) (hq : (s.app a).queue = h :: rest) :
    loopCheckOut a s =
      removeHead a (s.report (.priorityEvent .checkedOut (.tram a) (some h.tag) (some .loop) h.vehicle (some h.state))) := by
  have hh : s.head? a = some h := by rw [State.head?, hq]; rfl
  rw [loopCheckOut, if_neg (by simp [hp]), if_neg (by simp [hq])]
  simp only [checkOutHead, hh]
  rfl

end Sys2Proof.Machine
end

section
namespace Sys2Proof.Machine

variable {s t u : State} {d : DetId} {a : ApproachId}

/-! #### A word that is a check-in or a check-out -/

theorem sameOutsidePriority_push (s : State) (n : Notice) : SameOutsidePriority s (s.push n) :=
  .of_eq rfl ⟨rfl, rfl, rfl, rfl⟩ ⟨rfl, rfl, rfl⟩ rfl

theorem sameOutsidePriority_addTram (a : ApproachId) (src : TramSource) (vehicle : Option Nat) (time : JTime) (eta : Nat) (s : State) :
    SameOutsidePriority s (addTram a src vehicle time eta s) := by
  have hj : SameOutsidePriority s (joined a src vehicle time eta s) :=
    (sameOutsidePriority_onApp s a _).trans (sameOutsidePriority_report _ _)
  have hl := PriActs.lookAtHead (A := fun _ => True) (C := False) (PriActs.refl (joined a src vehicle time eta s)) (a := a) trivial
  rw [addTram_eq]
  refine SameOutsidePriority.trans ?_ (sameOutsidePriority_push _ _)
  split
  · exact hj.trans hl.outside
  · exact hj

theorem sameOutsidePriority_loopCheckIn (a : ApproachId) (time : JTime) (s : State) :
    SameOutsidePriority s (loopCheckIn a time s) := by
  have hg : SameOutsidePriority s (guardLoaded a s) := sameOutsidePriority_onApp s a _
  by_cases h : Hears a s
  · rw [loopCheckIn_heard h]
    split
    · exact hg.trans (sameOutsidePriority_report _ _)
    · exact hg.trans (sameOutsidePriority_addTram _ _ _ _ _ _)
  · rw [loopCheckIn_unheard h]
    exact .refl s

theorem sameOutsidePriority_loopCheckOut (a : ApproachId) (s : State) : SameOutsidePriority s (loopCheckOut a s) := by
  cases hp : (s.appSet a).present with
  | false =>
    rw [loopCheckOut_absent hp]
    exact .refl s
  | true =>
    cases hq : (s.app a).queue with
    | nil =>
      rw [loopCheckOut_empty hp hq]
      exact sameOutsidePriority_report _ _
    | cons h rest =>
      rw [loopCheckOut_head hp hq]
      refine (sameOutsidePriority_report _ _).trans (removeHead_spec (h := h) (rest := rest) ?_).1
      exact hq

theorem SameOutsidePriority.activeSlot (h : SameOutsidePriority s t) : t.seq.activeSlot = s.seq.activeSlot := by
  rw [← h.seq]

theorem SameOutsidePriority.plan? (h : SameOutsidePriority s t) : t.plan? = s.plan? :=
  plan?_congr (by rw [h.blocks.2.2.2]) h.activeSlot

theorem SameOutsidePriority.detSet (h : SameOutsidePriority s t) (d : DetId) : t.detSet d = s.detSet d := by
  rw [State.detSet, State.detSet, h.plan?]

theorem goodWord_checkIn (hk : (s.detSet d).kind = .tramIn) (hdel : Delivers d true s) :
    goodWord d true s = loopCheckIn (s.detSet d).approach s.time (wordBooked d true s) := by
  have hb := wordBooked_follows d true s
  have hset : (wordBooked d true s).detSet d = s.detSet d := hb.detSet d
  have htime : (wordBooked d true s).time = s.time := hb.time
  rw [goodWord_occupied (by rw [hk]; decide) hdel, deliverEdge]
  rw [hset, hk, htime]
  rfl

theorem goodWord_checkOut (hk : (s.detSet d).kind = .tramOut) (hdel : Delivers d false s) :
    goodWord d false s = loopCheckOut (s.detSet d).approach (wordBooked d false s) := by
  have hset : (wordBooked d false s).detSet d = s.detSet d := (wordBooked_follows d false s).detSet d
  have hd : wordDelivered d false s = loopCheckOut (s.detSet d).approach (wordBooked d false s) := by
    rw [wordDelivered, if_pos ((delivers_iff (by rw [hk]; decide)).mpr hdel), deliverEdge]
    rw [hset, hk]
    rfl
  have hnone : demandOnEffective d (wordDelivered d false s) = wordDelivered d false s := by
    refine demandOnEffective_of_not_demanding ?_
    rw [hd, (sameOutsidePriority_loopCheckOut _ _).detSet, hset, hk]
    rfl
  rw [goodWord_eq, hnone, ite_self, hd]

/-- One record written, the others as they were, whatever the Priority Unit did. -/
structure Recorded (d : DetId) (x : DetRec) (s u : State) : Prop where
  self : u.det d = x
  others : ∀ e, e ≠ d → u.det e = s.det e
  inputs : u.dti.ext = u.extWanted ∧ u.dti.fault = u.faultWanted
  jmc : u.jmc = s.jmc
  pts : u.pts = s.pts

theorem Wrote.recorded {x : DetRec} (h : Wrote d x s u) : Recorded d x s u := ⟨h.self, h.others, h.inputs, h.jmc, h.pts⟩

theorem Recorded.priority {x : DetRec} (h : Recorded d x s t) (k : SameOutsidePriority t u) : Recorded d x s u := by
  obtain ⟨hdti, -, hjmc, hpts⟩ := k.blocks
  have hdet (e : DetId) : u.det e = t.det e := by rw [State.det, State.det, hdti]
  have hin := inputs_congr (t := u) (s := t) (by rw [hdti]) k.plan?
  exact ⟨(hdet d).trans h.self, fun e he => (hdet e).trans (h.others e he), ⟨by rw [hdti, hin.1, h.inputs.1], by
    rw [hdti, hin.2, h.inputs.2]⟩, hjmc.trans h.jmc, hpts.trans h.pts⟩

/-- A word that passes parity with no card fault writes the record of R49. -/
theorem goodWord_recorded (d : DetId) (occupied : Bool) (s : State) : Recorded d (goodRec d occupied s) s (goodWord d occupied s) := by
  have hb := (wordBooked_follows d occupied s).wrote.recorded
  by_cases hin : Delivers d occupied s ∧ (s.detSet d).kind = .tramIn ∧ occupied = true
  · obtain ⟨hdel, hk, rfl⟩ := hin
    rw [goodWord_checkIn hk hdel]
    exact hb.priority (sameOutsidePriority_loopCheckIn _ _ _)
  · by_cases hout : Delivers d occupied s ∧ (s.detSet d).kind = .tramOut ∧ occupied = false
    · obtain ⟨hdel, hk, rfl⟩ := hout
      rw [goodWord_checkOut hk hdel]
      exact hb.priority (sameOutsidePriority_loopCheckOut _ _)
    · exact (goodWord_follows hin hout).wrote.recorded

theorem goodRec_eq (d : DetId) (occupied : Bool) (s : State) : goodRec d occupied s =
    let r := s.det d
    let c := s.detSet d
    let booked : DetRec :=
      if r.parity = false then { r with parityRun := 0 }
      else if 3 ≤ r.goodRun + 1 then { r with parity := false, parityRun := 0, goodRun := 0 }
      else { r with goodRun := r.goodRun + 1 }
    let edge : Bool := r.settled && (occupied != r.occupied)
    let since := if r.settled = false ∨ edge = true then 0 else r.sinceChange
    let ring := r.ring ++ [{ occupied := occupied, time := s.time }]
    let used : Bool := decide (c.kind ≠ .unused)
    { booked with
      card := false, silent := false, silence := 0, occupied := occupied, settled := true, sinceChange := since
      ring := if edge && used then ring.drop (ring.length - c.ringLength) else r.ring
      count := if edge && used && occupied then min (r.count + 1) 65535 else r.count
      stuckOn := occupied && used && decide (c.stuckOn ≠ 0 ∧ c.stuckOn ≤ since)
      stuckOff := !occupied && used && decide (c.stuckOff ≠ 0 ∧ c.stuckOff ≤ since) } := by
  obtain ⟨h1, h2, h3, h4, h5, -⟩ := passedParity_reads (s.det d)
  dsimp only
  rw [← passedParity_eq, goodRec, goodWord_rec]
  dsimp only
  rw [h1, h2, h3, h4, h5]

/-! #### What a word makes the link and the Priority Unit do -/

theorem wordBooked_lnk (d : DetId) (occupied : Bool) (s : State) :
    ∃ l : List ReportBody, (wordBooked d occupied s).lnk = (l.foldl State.report s).lnk := by
  obtain ⟨l, hl⟩ := (wordBooked_follows d occupied s).reports
  exact ⟨l, hl.trans (foldl_report_lnk_congr l rfl rfl)⟩

/-- A report after what a word has told of its record. -/
theorem report_lnk_after {l m : List ReportBody} {v : State} {b : ReportBody} (hv : v.lnk = (l.foldl State.report s).lnk)
    (htime : v.time = s.time) :
    (m.foldl State.report (v.report b)).lnk = (m.foldl State.report ((l.foldl State.report s).report b)).lnk := by
  have ht : v.time = (l.foldl State.report s).time := htime.trans (foldl_report_time l s).symm
  exact foldl_report_lnk_congr m (by rw [State.report_lnk, State.report_lnk, hv, ht]) ht

theorem exec_detectorWord (n : Nat) (o c p : Bool) (s : State) :
    exec (.detectorWord n o c p) s = .next (settle Config.reactionBound (chargeWord n o c p s.begun)) := rfl

theorem chargeWord_none {n : Nat} (h : n = 0 ∨ 32 < n) (o c p : Bool) (s : State) : chargeWord n o c p s = s := by
  simp only [chargeWord, detectorNumbered, numbered_eq_none h]

theorem chargeWord_failed (d : DetId) (o c : Bool) (s : State) :
    chargeWord (number d) o c false s = changeDet d DetRec.failedParity s := by
  simp only [chargeWord, detectorNumbered, numbered_number]
  rfl

theorem chargeWord_card (d : DetId) (o : Bool) (s : State) :
    chargeWord (number d) o true true s = changeDet d (fun r => { r.passedParity with card := true }) s := by
  simp only [chargeWord, detectorNumbered, numbered_number]
  rfl

theorem chargeWord_good (d : DetId) (o : Bool) (s : State) : chargeWord (number d) o false true s = goodWord d o s := by
  simp only [chargeWord, detectorNumbered, numbered_number]
  rfl

/-- An edge that goes out latches the demands of the groups a demanding detector lists. -/
theorem goodWord_latches (hk : (s.detSet d).kind = .demand ∨ (s.detSet d).kind = .demandExtend ∨ (s.detSet d).kind = .button)
    (hdel : Delivers d true s) {g : GroupId} (hg : GroupSet.has (s.detSet d).groups g = true) (hp : s.present g = true)
    (ho : (s.grp g).state ≠ .opened) : ((goodWord d true s).dem g).latched = true
      ∧ DemandSet.has ((goodWord d true s).dem g).sources (if (s.detSet d).kind = .button then .button else .detector) = true := by
  have hb := wordBooked_follows d true s
  have hset : (wordBooked d true s).detSet d = s.detSet d := hb.detSet d
  have hsend : goodWord d true s = sendDemand d (wordBooked d true s) := by
    rw [goodWord_occupied (by obtain hk | hk | hk := hk <;> rw [hk] <;> decide) hdel, deliverEdge]
    rw [hset]
    obtain hk | hk | hk := hk <;> rw [hk] <;> rfl
  have hpres : (wordBooked d true s).present g = true := by
    have : (wordBooked d true s).pts = s.pts := hb.pts
    rw [State.present, State.groupDef, this]
    exact hp
  have hst : ((wordBooked d true s).grp g).state ≠ .opened := by
    rw [hb.states g]
    exact ho
  have h := sendDemand_latches d (by rw [hset]; exact hg) hpres hst
  rw [hset] at h
  rw [hsend]
  exact h

end Sys2Proof.Machine
end

section
namespace Sys2Proof.Machine

variable {s : State} {d : DetId}

/-! #### The Priority Unit after a loop's word -/

/-- The unit as a word finds it once booked. -/
theorem wordBooked_reads (d : DetId) (occupied : Bool) (s : State) (a : ApproachId) :
    (wordBooked d occupied s).pri = s.pri ∧ (wordBooked d occupied s).jmc = s.jmc ∧ (wordBooked d occupied s).time = s.time
      ∧ (wordBooked d occupied s).appSet a = s.appSet a := by
  have hb := wordBooked_follows d occupied s
  exact ⟨hb.pri, hb.jmc, hb.time, appSet_congr (by rw [hb.pts, State.onDet_pts]) (activeSlot_of_seq hb.seq) a⟩

theorem hears_congr {s t : State} {a : ApproachId} (hpri : t.pri = s.pri) (hjmc : t.jmc = s.jmc) (hset : t.appSet a = s.appSet a) :
    Hears a t ↔ Hears a s := by
  rw [Hears, Hears, State.app, State.app, hpri, hjmc, hset]

/-- A check-in by a loop, as its rows have it (R97). -/
theorem goodWord_checkIn_rows (hk : (s.detSet d).kind = .tramIn) (hdel : Delivers d true s) :
    let a := (s.detSet d).approach
    let u := goodWord d true s
    let withApp (x : Approach) : Pri := { s.pri with approaches := s.pri.approaches.set a x }
    let guarded : Approach := { s.app a with checkinGuard := (s.appSet a).checkinGuard }
    (¬ Hears a s → u.pri = s.pri)
    ∧ (Hears a s → 4 ≤ (s.app a).queue.length → u.pri = withApp guarded
      ∧ ∃ l : List ReportBody, u.lnk =
          ((l.foldl State.report s).report (.priorityEvent .checkinRefused (.tram a) none (some .loop) none none)).lnk)
    ∧ (Hears a s → (s.app a).queue.length < 4 →
      ∃ v, u = (if (s.app a).queue = [] then lookAtHead a v else v).push .redetermine
        ∧ v.pri = withApp { guarded with
            queue := (s.app a).queue ++ [addedTram a .loop none s.time (s.appSet a).run s]
            nextTag := nextTagOf (newTag s a) }
        ∧ ∃ l : List ReportBody, v.lnk = ((l.foldl State.report s).report
            (.priorityEvent .checkedIn (.tram a) (some (newTag s a)) (some .loop) none none)).lnk) := by
  intro a u withApp guarded
  obtain ⟨hpri, hjmc, htime, hset⟩ := wordBooked_reads d true s a
  obtain ⟨l, hl⟩ := wordBooked_lnk d true s
  have hu : u = loopCheckIn a s.time (wordBooked d true s) := goodWord_checkIn hk hdel
  generalize wordBooked d true s = t at hpri hjmc htime hset hl hu
  have happ : t.app a = s.app a := by rw [State.app, State.app, hpri]
  have htag : newTag t a = newTag s a := by rw [newTag, newTag, happ]
  have hguard : (guardLoaded a t).pri = withApp guarded := by
    rw [guardLoaded, hset]
    change { t.pri with approaches := t.pri.approaches.set a { t.app a with checkinGuard := (s.appSet a).checkinGuard } } = _
    rw [happ, hpri]
  rw [← hears_congr hpri hjmc hset, ← happ]
  refine ⟨fun h => ?_, fun h hq => ?_, fun h hq => ?_⟩
  · rw [hu, loopCheckIn_unheard h, hpri]
  · rw [hu, loopCheckIn_heard h, if_pos (show (t.app a).queue.length ≥ Config.queueCapacity from hq)]
    exact ⟨hguard, l, report_lnk_after (m := []) (v := guardLoaded a t) hl htime⟩
  · have hqueue : ((guardLoaded a t).app a).queue = (t.app a).queue := by rw [guardLoaded_app_self]
    refine ⟨joined a .loop none s.time (s.appSet a).run (guardLoaded a t), ?_, ?_, l, ?_⟩
    · rw [hu, loopCheckIn_heard h, if_neg (show ¬ (t.app a).queue.length ≥ Config.queueCapacity from hq.not_ge), addTram_eq, hqueue,
        hset]
    · rw [joined_guardLoaded_pri, addedTram, addedTram, htag, hset, happ, hpri]
    · have hj : (joined a .loop none s.time (s.appSet a).run (guardLoaded a t)).lnk = ((guardLoaded a t).report
          (.priorityEvent .checkedIn (.tram a) (some (newTag (guardLoaded a t) a)) (some .loop) none none)).lnk := rfl
      rw [hj, guardLoaded_newTag, htag]
      exact report_lnk_after (m := []) (v := guardLoaded a t) hl htime

/-- A check-out by a loop, as its rows have it (R100). -/
theorem goodWord_checkOut_rows (hk : (s.detSet d).kind = .tramOut) (hdel : Delivers d false s) :
    let a := (s.detSet d).approach
    let u := goodWord d false s
    ((s.appSet a).present = false → u.pri = s.pri)
    ∧ ((s.appSet a).present = true → (s.app a).queue = [] → u.pri = s.pri
      ∧ ∃ l : List ReportBody, u.lnk =
          ((l.foldl State.report s).report (.priorityEvent .checkoutUnexpected (.tram a) none (some .loop) none none)).lnk)
    ∧ (∀ h rest, (s.appSet a).present = true → (s.app a).queue = h :: rest →
      (u.app a).queue.map TramRec.tag = rest.map TramRec.tag
      ∧ (∀ b, b ≠ a → (u.app b).queue = (s.app b).queue) ∧ u.pri.calls = s.pri.calls
      ∧ ∃ l' : List ReportBody, (rest = [] → l' = []) ∧ ∃ l : List ReportBody,
        u.lnk = (l'.foldl State.report ((l.foldl State.report s).report
          (.priorityEvent .checkedOut (.tram a) (some h.tag) (some .loop) h.vehicle (some h.state)))).lnk) := by
  intro a u
  obtain ⟨hpri, hjmc, htime, hset⟩ := wordBooked_reads d false s a
  obtain ⟨l, hl⟩ := wordBooked_lnk d false s
  have hu : u = loopCheckOut a (wordBooked d false s) := goodWord_checkOut hk hdel
  generalize wordBooked d false s = t at hpri hjmc htime hset hl hu
  have happ (b : ApproachId) : t.app b = s.app b := by rw [State.app, State.app, hpri]
  refine ⟨fun hp => ?_, fun hp hq => ?_, fun h rest hp hq => ?_⟩
  · rw [hu, loopCheckOut_absent (by rw [hset, hp]), hpri]
  · rw [hu, loopCheckOut_empty (by rw [hset, hp]) (by rw [happ, hq])]
    exact ⟨hpri, l, report_lnk_after (m := []) hl htime⟩
  · rw [hu, loopCheckOut_head (h := h) (rest := rest) (by rw [hset, hp]) (by rw [happ, hq])]
    let v := t.report (.priorityEvent .checkedOut (.tram a) (some h.tag) (some .loop) h.vehicle (some h.state))
    obtain ⟨-, htags, hothers, hcalls, m, hm, hlnk⟩ := removeHead_spec (s := v) (a := a) (h := h) (rest := rest)
      (by rw [← hq, ← happ a]; rfl)
    refine ⟨htags, fun b hb => ?_, ?_, m, hm, l, hlnk.trans (report_lnk_after hl htime)⟩
    · rw [hothers b hb, ← happ b]
      rfl
    · rw [hcalls, ← hpri]
      rfl

/-- Settles O52. -/
theorem detectorWordsMoveOneRecord : Obligations.DetectorWordsMoveOneRecord := by
  intro s occupied
  refine ⟨fun n card parity hn => ?none, fun d => ?word⟩
  case none => exact exec_congr (exec_detectorWord n occupied card parity s) (chargeWord_none hn occupied card parity s.begun)
  intro r c booked failed edge since ring used good wrote a x queue guarded withApp toldThen told delivered checksIn checksOut heard
  have hgood : goodRec d occupied s.begun = good := goodRec_eq d occupied s.begun
  have hdel : delivered ↔ Delivers d occupied s.begun := by
    rw [Delivers, hgood]
    exact Iff.rfl
  refine ⟨fun card => ?failed, ?card, ?good⟩
  case failed =>
    have h := (changeDet_follows d DetRec.failedParity s.begun).wrote
    exact ⟨_, exec_congr (exec_detectorWord _ occupied card false s) (chargeWord_failed d occupied card s.begun), h.self, h.others,
      h.inputs.1, h.inputs.2, h.jmc, h.pts, h.pri⟩
  case card =>
    have h := (changeDet_follows d (fun r => { r.passedParity with card := true }) s.begun).wrote
    have hbooked : booked = r.passedParity := (passedParity_eq r).symm
    rw [hbooked]
    exact ⟨_, exec_congr (exec_detectorWord _ occupied true true s) (chargeWord_card d occupied s.begun), h.self, h.others,
      h.inputs.1, h.inputs.2, h.jmc, h.pts, h.pri⟩
  case good =>
    have h := goodWord_recorded d occupied s.begun
    have hrec : (goodWord d occupied s.begun).det d = good := h.self.trans hgood
    have hexec := exec_congr (exec_detectorWord _ occupied false true s) (chargeWord_good d occupied s.begun)
    clear_value good
    refine ⟨goodWord d occupied s.begun, hexec, hrec, h.others, h.inputs.1, h.inputs.2, h.jmc, h.pts, fun hd ho hk g hg hp hst => ?_,
      fun hin hout => ?_, fun hin hn => ?_, fun hin hh hq => ?_, fun hin hh hq => ?_, fun hout hp => ?_, fun hout hp hq => ?_,
      fun y rest hout hp hq => ?_⟩
    · subst ho
      exact goodWord_latches (s := s.begun) hk (hdel.mp hd) hg hp hst
    · exact (goodWord_follows (s := s.begun) (fun ⟨hd, hk, ho⟩ => hin ⟨hdel.mpr hd, hk, ho⟩) fun ⟨hd, hk, ho⟩ => hout ⟨hdel.mpr hd, hk, ho⟩).pri
    all_goals clear hrec h hexec
    · obtain ⟨hd, hk, rfl⟩ := hin
      have hrows := goodWord_checkIn_rows (s := s.begun) hk (hdel.mp hd)
      generalize goodWord d true s.begun = u at hrows ⊢
      exact hrows.1 hn
    · obtain ⟨hd, hk, rfl⟩ := hin
      have hrows := goodWord_checkIn_rows (s := s.begun) hk (hdel.mp hd)
      generalize goodWord d true s.begun = u at hrows ⊢
      exact hrows.2.1 hh hq
    · obtain ⟨hd, hk, rfl⟩ := hin
      have hrows := goodWord_checkIn_rows (s := s.begun) hk (hdel.mp hd)
      generalize goodWord d true s.begun = u at hrows ⊢
      obtain ⟨v, hu, hv, hl⟩ := hrows.2.2 hh hq
      exact ⟨newTag s a, v, hu, newTag_free hq, newTag_of_free, hv, hl⟩
    · obtain ⟨hd, hk, rfl⟩ := hout
      have hrows := goodWord_checkOut_rows (s := s.begun) hk (hdel.mp hd)
      generalize goodWord d false s.begun = u at hrows ⊢
      exact hrows.1 hp
    · obtain ⟨hd, hk, rfl⟩ := hout
      have hrows := goodWord_checkOut_rows (s := s.begun) hk (hdel.mp hd)
      generalize goodWord d false s.begun = u at hrows ⊢
      exact hrows.2.1 hp hq
    · obtain ⟨hd, hk, rfl⟩ := hout
      have hrows := goodWord_checkOut_rows (s := s.begun) hk (hdel.mp hd)
      generalize goodWord d false s.begun = u at hrows ⊢
      exact hrows.2.2 y rest hp hq

end Sys2Proof.Machine
end

section
/-! ### Plans made active, and PLAN_SELECT (R61, R83 to R85, R114, R185) -/

namespace Sys2Proof.Machine

variable {s t u : State}

/-! #### What an activation leaves alone -/

/-- What bringing the blocks under a plan keeps: the store, the mode and the time, of the sequencer everything but the
countdown, the mark, the level and the demands; and on the link it does nothing but report. -/
structure PlanSide (s t : State) : Prop where
  jmc : t.jmc = s.jmc
  pts : t.pts = s.pts
  time : t.time = s.time
  seq : { t.seq with h := s.seq.h, mark := s.seq.mark, level := s.seq.level, demand := s.seq.demand } = s.seq
  record : { t.cmon with recs := s.cmon.recs, counted := s.cmon.counted, dropTimer := s.cmon.dropTimer } = s.cmon
  states : ∀ g, (t.grp g).state = (s.grp g).state
  reports : ∃ l : List ReportBody, t.lnk = (l.foldl State.report s).lnk

theorem PlanSide.reads (h : PlanSide s t) : t.seq.activeSlot = s.seq.activeSlot ∧ t.seq.pendingPlan = s.seq.pendingPlan
    ∧ t.seq.current = s.seq.current ∧ t.seq.groups = s.seq.groups ∧ t.seq.position = s.seq.position
    ∧ t.seq.stack = s.seq.stack := by
  rw [← h.seq]
  exact ⟨rfl, rfl, rfl, rfl, rfl, rfl⟩

theorem PlanSide.refl (s : State) : PlanSide s s := ⟨rfl, rfl, rfl, rfl, rfl, fun _ => rfl, [], rfl⟩

/-- Reports after reports are reports. -/
theorem reports_trans (ht : t.time = s.time) (h : ∃ l : List ReportBody, t.lnk = (l.foldl State.report s).lnk)
    (k : ∃ l : List ReportBody, u.lnk = (l.foldl State.report t).lnk) :
    ∃ l : List ReportBody, u.lnk = (l.foldl State.report s).lnk := by
  obtain ⟨l, hl⟩ := h
  obtain ⟨m, hm⟩ := k
  refine ⟨l ++ m, ?_⟩
  rw [hm, List.foldl_append]
  exact foldl_report_lnk_congr m hl (ht.trans (foldl_report_time l s).symm)

theorem PlanSide.trans (h : PlanSide s t) (k : PlanSide t u) : PlanSide s u :=
  ⟨k.jmc.trans h.jmc, k.pts.trans h.pts, k.time.trans h.time, by rw [← h.seq, ← k.seq], by rw [← h.record, ← k.record],
    fun g => (k.states g).trans (h.states g),
    reports_trans h.time h.reports k.reports⟩

theorem PlanSide.foldl {α : Type} {f : State → α → State} (hf : ∀ u x, PlanSide u (f u x)) (l : List α) (s : State) :
    PlanSide s (l.foldl f s) := by
  induction l generalizing s with
  | nil => exact .refl s
  | cons x l ih => exact (hf s x).trans (ih _)

theorem PriActs.planSide {A : ApproachId → Prop} {C : Prop} (h : PriActs A C s t) : PlanSide s t :=
  ⟨h.outside.blocks.2.2.1, h.outside.blocks.2.2.2, h.outside.kept.1, by rw [← h.outside.seq], by rw [h.outside.blocks.2.1],
    fun g => by rw [← h.outside.groups g], h.reports⟩

theorem DemandActs.planSide (h : DemandActs s t) : PlanSide s t := ⟨h.jmc, h.pts, h.time, by rw [← h.seq], h.record, h.states, h.reports⟩

theorem planSide_push (s : State) (n : Notice) : PlanSide s (s.push n) := ⟨rfl, rfl, rfl, rfl, rfl, fun _ => rfl, [], rfl⟩

theorem planSide_report (s : State) (b : ReportBody) : PlanSide s (s.report b) := ⟨rfl, rfl, rfl, rfl, rfl, fun _ => rfl, [b], rfl⟩

theorem planSide_onPri (s : State) (f : Pri → Pri) : PlanSide s (s.onPri f) := ⟨rfl, rfl, rfl, rfl, rfl, fun _ => rfl, [], rfl⟩

theorem planSide_onDti (s : State) (f : Dti → Dti) : PlanSide s (s.onDti f) := ⟨rfl, rfl, rfl, rfl, rfl, fun _ => rfl, [], rfl⟩

theorem planSide_ite {c : Prop} [Decidable c] {t u : State} (ht : c → PlanSide s t) (hu : ¬ c → PlanSide s u) :
    PlanSide s (if c then t else u) := by
  split
  · exact ht ‹_›
  · exact hu ‹_›

theorem planSide_approachUnderPlan (a : ApproachId) (s : State) : PlanSide s (approachUnderPlan a s) := by
  have hreports (e : PriorityEvent) (f : TramRec → Option TramSource) (l : List TramRec) (u : State) :
      PlanSide u (l.foldl (fun s r => reportTram e a r (f r) none s) u) :=
    .foldl (fun u r => planSide_report u _) l u
  unfold approachUnderPlan
  dsimp only
  split
  · refine PlanSide.trans ?_ (planSide_onPri _ _)
    split
    · exact hreports .dropped (fun _ => none) _ s
    · exact (hreports .dropped (fun _ => none) _ s).trans (planSide_push _ _)
  · exact (hreports .lost (fun r => some r.source) _ s).trans (planSide_onPri _ _)

theorem planSide_offerAmong (l : List ApproachId) (s : State) : PlanSide s (offerAmong l s) :=
  ((PriActs.refl (A := fun _ => True) (C := True) s).offerAmong l fun _ => trivial).planSide

theorem planSide_determineRuling (force : Bool) (s : State) : PlanSide s (determineRuling force s) :=
  (planSide_onPri s _).trans (PriActs.determineRuling force s).planSide

theorem planSide_priUnderPlan (s : State) : PlanSide s (priUnderPlan s) := by
  unfold priUnderPlan
  dsimp only
  refine PlanSide.trans ?_ (planSide_determineRuling _ _)
  refine PlanSide.trans ?_ (planSide_offerAmong _ _)
  refine PlanSide.trans ?_ (planSide_onPri _ _)
  refine PlanSide.trans ?_ (.foldl (fun u c => planSide_report u _) _ _)
  exact .foldl (fun u a => planSide_approachUnderPlan a u) _ s

theorem planSide_recomputeInputs (s : State) : PlanSide s (recomputeInputs s) :=
  (planSide_onDti s fun e => { e with ext := s.extWanted, fault := s.faultWanted }).trans (recomputeInputs_acts s).planSide

theorem planSide_dtiUnderPlan (old : Option Plan) (s : State) : PlanSide s (dtiUnderPlan old s) := by
  unfold dtiUnderPlan
  dsimp only
  refine PlanSide.trans (PlanSide.trans ?_ (planSide_recomputeInputs _)) (.foldl (fun u d => ?_) detIds _)
  · refine .foldl (fun u d => ?_) detIds s
    exact planSide_ite (fun _ => (planSide_onDti u _).trans (planSide_report _ _)) fun _ => planSide_onDti u _
  · exact planSide_ite (fun _ => ((DemandActs.refl u).sendDemand d).planSide) fun _ => .refl u

theorem planSide_blocksUnderPlan (old : Option Plan) (s : State) : PlanSide s (blocksUnderPlan old s) :=
  ((planSide_dtiUnderPlan old s).trans (planSide_priUnderPlan _)).trans (planSide_push _ _)

/-- The state in which a plan is taken, its blocks not yet under it. -/
def planSet (n : SlotNo) (p : Plan) (s : State) : State :=
  (makeActiveCopy p s).onSeq fun q => { q with activeSlot := some n }

theorem takePlan_eq (n : SlotNo) (p : Plan) (s : State) : takePlan n p s = blocksUnderPlan s.plan? (planSet n p s) := rfl

theorem planSide_takePlan (n : SlotNo) (p : Plan) (s : State) : PlanSide (planSet n p s) (takePlan n p s) :=
  planSide_blocksUnderPlan _ _

theorem planSet_eq {x : Tables} (ht : s.pts.tables = some x) (n : SlotNo) (p : Plan) : planSet n p s =
    { s with
      seq := { s.seq with activeSlot := some n }
      pts := { s.pts with activeCopy := some (clampPlan x p).1, clamped := (clampPlan x p).2 } } := by
  unfold planSet makeActiveCopy
  split
  · next hn => cases hn.symm.trans ht
  · next y hy =>
    cases hy.symm.trans ht
    rfl

/-! #### Slots and the activation check -/

theorem plan?_slotOf (w : PlanSlot) : SlotNo.plan? (slotOf w) = some w := numbered_number w

theorem plan?_zero : SlotNo.plan? 0 = none := rfl

theorem slotNo_cases (n : SlotNo) : n = 0 ∨ ∃ w, n = slotOf w := by
  obtain ⟨k, hk⟩ := n
  cases k with
  | zero => exact .inl rfl
  | succ k => exact .inr ⟨⟨k, by omega⟩, rfl⟩

theorem slotOf_injective {v w : PlanSlot} (h : slotOf v = slotOf w) : v = w :=
  Option.some.inj ((plan?_slotOf v).symm.trans ((congrArg SlotNo.plan? h).trans (plan?_slotOf w)))

theorem slotOf_ne_zero (w : PlanSlot) : slotOf w ≠ 0 := fun h => by
  have := congrArg Fin.val h
  exact Nat.succ_ne_zero _ this

theorem beingWritten_iff {n : SlotNo} : s.beingWritten n = true ↔ ∃ w, s.writingSlot? = some w ∧ slotOf w = n := by
  unfold State.beingWritten
  cases s.writingSlot? with
  | none => simp
  | some w => simp

theorem slotUnfit_iff {n : SlotNo} : slotUnfit s n = true ↔ (n = 0 ∧ s.pts.trial.complete? = none)
    ∨ ∃ w, n = slotOf w ∧ ((s.slot w).state = .empty ∨ (s.slot w).state = .invalid) := by
  obtain rfl | ⟨w, rfl⟩ := slotNo_cases n
  · simp [slotUnfit, plan?_zero, Ne.symm (slotOf_ne_zero _)]
  · simp only [slotUnfit, plan?_slotOf, Bool.or_eq_true, decide_eq_true_eq, slotOf_ne_zero, false_and, false_or]
    exact ⟨fun h => ⟨w, rfl, h⟩, fun ⟨v, e, h⟩ => slotOf_injective e ▸ h⟩

/-- The slot holds the plan, whole and intact. -/
def Holds (s : State) (n : SlotNo) (p : Plan) : Prop :=
  (n = 0 ∧ s.pts.trial.complete? = some p)
    ∨ ∃ w, n = slotOf w ∧ (s.slot w).state = .valid ∧ (s.slot w).intact = true ∧ (s.slot w).contents = some p

theorem readSlot_intact {w : PlanSlot} (hv : (s.slot w).state = .valid) (hi : (s.slot w).intact = true) :
    readSlot w s = (s, (s.slot w).contents) := by
  simp [readSlot, hv, hi]

section Check

variable {n : SlotNo} {x : Tables} {p : Plan}

theorem checkContents_noTables (ht : s.pts.tables = none) (n : SlotNo) :
    checkContents n s = (s, .error { status := .invalid }) := by
  simp only [checkContents, ht]

variable (ht : s.pts.tables = some x) (hp : Holds s n p)
include ht hp

theorem checkContents_fails {d : Denial} (hd : wholePlanCheck x p = some d) : checkContents n s = (s, .error d) := by
  obtain ⟨rfl, hc⟩ | ⟨w, rfl, hv, hi, hc⟩ := hp
  · simp only [checkContents, ht, plan?_zero, hc, hd]
  · simp only [checkContents, ht, plan?_slotOf, readSlot_intact hv hi, hc, hd]

theorem checkContents_passes (hd : wholePlanCheck x p = none) : checkContents n s = (s, .ok p) := by
  obtain ⟨rfl, hc⟩ | ⟨w, rfl, hv, hi, hc⟩ := hp
  · simp only [checkContents, ht, plan?_zero, hc, hd]
  · simp only [checkContents, ht, plan?_slotOf, readSlot_intact hv hi, hc, hd]

end Check

theorem activationCheck_of_idle {n : SlotNo} (h : ¬ s.beingWritten n = true) : activationCheck n s = checkContents n s := if_neg h

/-! #### PLAN_SELECT -/

section Select

variable (tag : Byte)

theorem exec_planSelect (slot : Nat) (s : State) :
    exec (.planSelect tag slot) s = .next (settle Config.reactionBound (takePlanSelect tag slot s.begun)) := rfl

theorem takePlanSelect_range {slot : Nat} (h : 16 < slot) (s : State) :
    takePlanSelect tag slot s = s.reply 0x0C tag .range := by
  simp only [takePlanSelect, slotNumbered, dif_neg (show ¬ slot < 17 by omega)]

/-- The rows after the first, for a slot in range. -/
theorem takePlanSelect_slot (n : SlotNo) (s : State) : takePlanSelect tag n.val s =
    if (s.jmc.mode = .startup || s.jmc.mode = .clearing) = true then s.reply 0x0C tag .wrongMode
    else if s.beingWritten n = true then s.reply 0x0C tag .busy
    else if slotUnfit s n = true then s.reply 0x0C tag .invalid
    else if s.flashOrDark = true then selectNow tag n s
    else ((s.reply 0x0C tag .ok [] { replaced := s.seq.pendingPlan.isSome }).onSeq fun q =>
        { q with pendingPlan := if s.seq.activeSlot = some n then none else some n }).push .choose := by
  simp only [takePlanSelect, slotNumbered, dif_pos n.isLt]

theorem selectNow_denied {n : SlotNo} {d : Denial} (h : activationCheck n s = (s, .error d)) :
    selectNow tag n s = s.reply 0x0C tag d.status d.items := by
  simp only [selectNow, h]

theorem selectNow_taken {n : SlotNo} {p : Plan} (h : activationCheck n s = (s, .ok p)) : selectNow tag n s =
    (takePlan n p ((s.reply 0x0C tag .ok).onSeq fun q => { q with pendingPlan := none })).report
      (.planChanged s.seq.activeSlot n .taken) := by
  simp only [selectNow, h]
  rfl

end Select

/-- Settles O41. -/
theorem planSelectInOrderOfChecks : Obligations.PlanSelectInOrderOfChecks := by
  intro tag s
  refine ⟨fun slot h => exec_congr (exec_planSelect tag slot s) (takePlanSelect_range tag h s.begun), fun n => ?_⟩
  intro written unfit quiet
  have hrow := exec_congr (exec_planSelect tag n.val s) (takePlanSelect_slot tag n s.begun)
  have hloud : (s.jmc.mode = .startup || s.jmc.mode = .clearing) = true ↔ ¬ quiet := by
    simp only [Bool.or_eq_true, decide_eq_true_eq, quiet]
    tauto
  refine ⟨fun hq => ?wrongMode, fun hq hw => ?busy, fun hq hw hu => ?invalid, fun hm hw hu => ?pending, fun hm hw hu => ⟨fun ht => ?noTables,
    fun x p ht hp => ⟨fun d hd => ?fails, fun hd => ?taken⟩⟩⟩
  case wrongMode => exact exec_congr hrow (if_pos (hloud.mpr hq))
  case busy =>
    exact exec_congr (exec_congr hrow (if_neg fun h => hloud.mp h hq)) (if_pos (beingWritten_iff.mpr hw))
  case invalid =>
    have hidle : ¬ s.begun.beingWritten n = true := fun h => hw (beingWritten_iff.mp h)
    exact exec_congr (exec_congr (exec_congr hrow (if_neg fun h => hloud.mp h hq)) (if_neg hidle)) (if_pos (slotUnfit_iff.mpr hu))
  all_goals
    have hquiet : quiet := by
      obtain hm | hm := hm <;> simp [quiet, hm]
    have hidle : ¬ s.begun.beingWritten n = true := fun h => hw (beingWritten_iff.mp h)
    have hfit : ¬ slotUnfit s.begun n = true := fun h => hu (slotUnfit_iff.mp h)
    have hrow := exec_congr (exec_congr (exec_congr hrow (if_neg fun h => hloud.mp h hquiet)) (if_neg hidle)) (if_neg hfit)
  case pending =>
    exact exec_congr hrow (if_neg (by
      obtain hm | hm := hm <;> simp [State.flashOrDark, hm]))
  all_goals
    have hrow := exec_congr hrow (if_pos (flashOrDark_iff.mpr hm))
    have hcheck := activationCheck_of_idle hidle
  case noTables =>
    exact exec_congr hrow (selectNow_denied tag (hcheck.trans (checkContents_noTables (s := s.begun) ht n)))
  case fails => exact exec_congr hrow (selectNow_denied tag (hcheck.trans (checkContents_fails (s := s.begun) ht hp hd)))
  case taken =>
    have hexec := exec_congr hrow (selectNow_taken tag (hcheck.trans (checkContents_passes (s := s.begun) ht hp hd)))
    have hside := planSide_takePlan n p ((s.begun.reply 0x0C tag .ok).onSeq fun q => { q with pendingPlan := none })
    rw [planSet_eq (s := (s.begun.reply 0x0C tag .ok).onSeq fun q => { q with pendingPlan := none }) (x := x) ht] at hside
    generalize takePlan n p ((s.begun.reply 0x0C tag .ok).onSeq fun q => { q with pendingPlan := none }) = u at hexec hside
    obtain ⟨hactive, hpending, hcurrent, -⟩ := hside.reads
    have hpts := hside.pts
    refine ⟨u.report (.planChanged s.seq.activeSlot n .taken), hexec, hactive, hpending, hcurrent, ?_, ?_, ?_, ?_, hside.jmc⟩
    all_goals rw [State.report_pts, hpts]
    all_goals rfl

end Sys2Proof.Machine
end

section
/-! ### The start-plan selection (R142, R185) -/

namespace Sys2Proof.Machine

variable {s t u : State}

/-! #### Slots tried -/

/-- The numbered slot holds a plan that an activation takes: not being written, intact, and past the whole-plan check. -/
def SlotFits (s : State) (n : PlanSlot) (p : Plan) : Prop :=
  s.writingSlot? ≠ some n ∧ (s.slot n).state = .valid ∧ (s.slot n).intact = true ∧ (s.slot n).contents = some p
    ∧ ∃ x, s.pts.tables = some x ∧ wholePlanCheck x p = none

/-- What activations that fail leave behind: slots found broken are INVALID, and nothing else has changed. -/
structure SlotsRead (s t : State) : Prop where
  rest : { t with pts := { t.pts with slots := s.pts.slots } } = s
  slots : ∀ m, t.slot m = s.slot m ∨ ((s.slot m).intact = false ∧ (t.slot m).intact = false)

theorem SlotsRead.refl (s : State) : SlotsRead s s := ⟨rfl, fun _ => .inl rfl⟩

theorem SlotsRead.trans (h : SlotsRead s t) (k : SlotsRead t u) : SlotsRead s u := by
  refine ⟨by rw [← h.rest, ← k.rest], fun m => ?_⟩
  obtain hm | ⟨hs, ht⟩ := h.slots m
  · rw [← hm]
    exact k.slots m
  · obtain km | ⟨-, ku⟩ := k.slots m
    · rw [km]
      exact .inr ⟨hs, ht⟩
    · exact .inr ⟨hs, ku⟩

theorem SlotsRead.reads (h : SlotsRead s t) : t.pts.tables = s.pts.tables ∧ t.pts.write = s.pts.write ∧ t.seq = s.seq
    ∧ t.jmc = s.jmc ∧ t.lnk = s.lnk ∧ t.time = s.time ∧ t.pri = s.pri ∧ t.dti = s.dti ∧ t.notices = s.notices
    ∧ t.cmon = s.cmon ∧ t.sge = s.sge ∧ t.pins = s.pins := by
  rw [← h.rest]
  exact ⟨rfl, rfl, rfl, rfl, rfl, rfl, rfl, rfl, rfl, rfl, rfl, rfl⟩

theorem SlotsRead.store (h : SlotsRead s t) : t.pts.trial = s.pts.trial ∧ t.pts.startPlan = s.pts.startPlan
    ∧ t.pts.activeCopy = s.pts.activeCopy ∧ t.pts.clamped = s.pts.clamped := by
  rw [← h.rest]
  exact ⟨rfl, rfl, rfl, rfl⟩

theorem SlotsRead.writingSlot? (h : SlotsRead s t) : t.writingSlot? = s.writingSlot? := by
  rw [State.writingSlot?, State.writingSlot?, h.reads.2.1]

theorem SlotsRead.intact (h : SlotsRead s t) {m : PlanSlot} (hm : (s.slot m).intact = true) : t.slot m = s.slot m :=
  (h.slots m).resolve_right fun ⟨hf, _⟩ => Bool.noConfusion (hm.symm.trans hf)

theorem SlotsRead.fits_iff (h : SlotsRead s t) {n : PlanSlot} {p : Plan} : SlotFits t n p ↔ SlotFits s n p := by
  rw [SlotFits, SlotFits, h.writingSlot?, h.reads.1]
  obtain hn | ⟨hs, ht⟩ := h.slots n
  · rw [hn]
  · rw [hs, ht]
    simp

theorem slotsRead_slotFails {n : PlanSlot} (h : (s.slot n).intact = false) : SlotsRead s (slotFails n s) := by
  refine ⟨rfl, fun m => ?_⟩
  by_cases hm : n = m
  · subst hm
    rw [slotFails, State.slot_onSlot_self]
    exact .inr ⟨h, h⟩
  · exact .inl (State.slot_onSlot_ne s hm _)

theorem SlotFits.activationCheck {n : PlanSlot} {p : Plan} (h : SlotFits s n p) : activationCheck (slotOf n) s = (s, .ok p) := by
  obtain ⟨hw, hv, hi, hc, x, hx, hp⟩ := h
  have hidle : ¬ s.beingWritten (slotOf n) = true := fun hb => by
    obtain ⟨w, hs, e⟩ := beingWritten_iff.mp hb
    exact hw (hs.trans (congrArg some (slotOf_injective e)))
  rw [activationCheck_of_idle hidle, checkContents_passes hx (.inr ⟨n, rfl, hv, hi, hc⟩) hp]

theorem checkContents_unfit {n : PlanSlot} (hw : s.writingSlot? ≠ some n) (h : ∀ p, ¬ SlotFits s n p) :
    ∃ t d, checkContents (slotOf n) s = (t, .error d) ∧ SlotsRead s t := by
  cases hx : s.pts.tables with
  | none => exact ⟨s, _, checkContents_noTables hx _, .refl s⟩
  | some x =>
    by_cases hv : (s.slot n).state = .valid
    · cases hi : (s.slot n).intact with
      | false =>
        refine ⟨slotFails n s, { status := .invalid }, ?_, slotsRead_slotFails hi⟩
        simp only [checkContents, hx, plan?_slotOf, readSlot, hv, hi, ne_eq, not_true_eq_false, if_false, Bool.false_eq_true]
      | true =>
        cases hc : (s.slot n).contents with
        | none =>
          refine ⟨s, { status := .invalid }, ?_, .refl s⟩
          simp only [checkContents, hx, plan?_slotOf, readSlot_intact hv hi, hc]
        | some p =>
          cases hp : wholePlanCheck x p with
          | none => exact absurd ⟨hw, hv, hi, hc, x, hx, hp⟩ (h p)
          | some d => exact ⟨s, d, checkContents_fails hx (.inr ⟨n, rfl, hv, hi, hc⟩) hp, .refl s⟩
    · refine ⟨s, { status := .invalid }, ?_, .refl s⟩
      simp only [checkContents, hx, plan?_slotOf, readSlot, ne_eq, hv, not_false_eq_true, if_true]

theorem activationCheck_unfit {n : PlanSlot} (h : ∀ p, ¬ SlotFits s n p) :
    ∃ t d, activationCheck (slotOf n) s = (t, .error d) ∧ SlotsRead s t := by
  by_cases hw : s.writingSlot? = some n
  · exact ⟨s, _, if_pos (beingWritten_iff.mpr ⟨n, hw, rfl⟩), .refl s⟩
  · have hidle : ¬ s.beingWritten (slotOf n) = true := fun hb => by
      obtain ⟨w, hs, e⟩ := beingWritten_iff.mp hb
      exact hw (slotOf_injective e ▸ hs)
    rw [activationCheck_of_idle hidle]
    exact checkContents_unfit hw h

theorem selectFrom_cons_unfit {n : PlanSlot} (h : ∀ p, ¬ SlotFits s n p) (l : List PlanSlot) :
    ∃ t, selectFrom (n :: l) s = selectFrom l t ∧ SlotsRead s t := by
  obtain ⟨t, d, ht, hread⟩ := activationCheck_unfit h
  exact ⟨t, by simp only [selectFrom, activate, ht], hread⟩

theorem selectFrom_unfit {l : List PlanSlot} (h : ∀ m ∈ l, ∀ p, ¬ SlotFits s m p) :
    ∃ t, selectFrom l s = (t, false) ∧ SlotsRead s t := by
  induction l generalizing s with
  | nil => exact ⟨s, rfl, .refl s⟩
  | cons n l ih =>
    obtain ⟨t, ht, hread⟩ := selectFrom_cons_unfit (h n (List.mem_cons_self ..)) l
    obtain ⟨u, hu, hread'⟩ := ih (s := t) fun m hm p hp => h m (List.mem_cons_of_mem n hm) p (hread.fits_iff.mp hp)
    exact ⟨u, ht.trans hu, hread.trans hread'⟩

theorem selectFrom_first {l₁ l₂ : List PlanSlot} {n : PlanSlot} {p : Plan} (h : ∀ m ∈ l₁, ∀ p, ¬ SlotFits s m p) (hn : SlotFits s n p) :
    ∃ t, selectFrom (l₁ ++ n :: l₂) s = ((takePlan (slotOf n) p t).report (.planChanged s.seq.activeSlot (slotOf n) .taken), true)
      ∧ SlotsRead s t := by
  induction l₁ generalizing s with
  | nil =>
    refine ⟨s, ?_, .refl s⟩
    simp only [List.nil_append, selectFrom, activate, hn.activationCheck]
    rfl
  | cons m l ih =>
    obtain ⟨t, ht, hread⟩ := selectFrom_cons_unfit (h m (List.mem_cons_self ..)) (l ++ n :: l₂)
    obtain ⟨u, hu, hread'⟩ := ih (s := t)
      (fun k hk q hq => h k (List.mem_cons_of_mem m hk) q (hread.fits_iff.mp hq)) (hread.fits_iff.mpr hn)
    rw [hread.reads.2.2.1] at hu
    exact ⟨u, ht.trans hu, hread.trans hread'⟩

/-- The slot is the first, in the order of the selection, that fits. -/
def Chosen (s : State) (n : PlanSlot) (p : Plan) : Prop :=
  SlotFits s n p ∧ (n = s.pts.startPlan ∨ ((∀ q, ¬ SlotFits s s.pts.startPlan q) ∧ ∀ m q, m < n → ¬ SlotFits s m q))

theorem selectionOrder_split {n : PlanSlot} {p : Plan} (h : Chosen s n p) :
    ∃ l₁ l₂, selectionOrder s = l₁ ++ n :: l₂ ∧ ∀ m ∈ l₁, ∀ p, ¬ SlotFits s m p := by
  obtain ⟨hfits, hfirst⟩ := h
  by_cases hn : n = s.pts.startPlan
  · exact ⟨[], _, by rw [hn]; rfl, fun m hm => absurd hm List.not_mem_nil⟩
  · obtain ⟨hstart, hlow⟩ := hfirst.resolve_left hn
    have hmem : n ∈ planSlots.filter fun n => (s.slot n).state = .valid && n ≠ s.pts.startPlan :=
      List.mem_filter.mpr ⟨List.mem_finRange n, by simp [hfits.2.1, hn]⟩
    obtain ⟨l₁, l₂, hl⟩ := List.append_of_mem hmem
    have hsorted : (l₁ ++ n :: l₂).Pairwise (· < ·) := hl ▸ (List.pairwise_lt_finRange 16).filter _
    refine ⟨s.pts.startPlan :: l₁, l₂, by rw [selectionOrder, hl]; rfl, fun m hm q => ?_⟩
    obtain rfl | hm := List.mem_cons.mp hm
    · exact hstart q
    · exact hlow m q ((List.pairwise_append.mp hsorted).2.2 m hm n (List.mem_cons_self ..))

theorem startPlanSelection_chosen {n : PlanSlot} {p : Plan} (h : Chosen s n p) : ∃ t, SlotsRead s t
    ∧ startPlanSelection s = (takePlan (slotOf n) p t).report (.planChanged s.seq.activeSlot (slotOf n) .taken) := by
  obtain ⟨l₁, l₂, hl, hunfit⟩ := selectionOrder_split h
  obtain ⟨t, ht, hread⟩ := selectFrom_first (l₂ := l₂) hunfit h.1
  exact ⟨t, hread, by simp only [startPlanSelection, hl, ht]⟩

/-- The state in which no plan is active, its blocks not yet under none. -/
def noPlan (s : State) : State := (s.onSeq fun q => { q with activeSlot := none }).report .noValidPlan

theorem startPlanSelection_nothing (h : ∀ n p, ¬ SlotFits s n p) : ∃ t, SlotsRead s t ∧ startPlanSelection s =
    if s.seq.activeSlot.isSome = true then blocksUnderPlan t.plan? (noPlan t) else noPlan t := by
  obtain ⟨t, ht, hread⟩ := selectFrom_unfit (l := selectionOrder s) fun m _ p => h m p
  refine ⟨t, hread, ?_⟩
  simp only [startPlanSelection, ht, ← hread.reads.2.2.1]
  rfl

/-- What the taking of a slot's plan leaves, read on the state before. -/
theorem startPlanSelection_taken {n : PlanSlot} {p : Plan} {x : Tables} (hx : s.pts.tables = some x) (h : Chosen s n p) :
    let u := startPlanSelection s
    u.seq.activeSlot = some (slotOf n) ∧ u.pts.activeCopy = some (clampPlan x p).1
      ∧ u.pts.clamped = (clampPlan x p).2 ∧ u.jmc = s.jmc ∧ u.seq.current = s.seq.current
      ∧ u.pts.tables = s.pts.tables ∧ u.pts.trial = s.pts.trial ∧ u.pts.startPlan = s.pts.startPlan
      ∧ (∀ m, (s.slot m).intact = true → u.slot m = s.slot m)
      ∧ ∃ l : List ReportBody,
        u.lnk = ((l.foldl State.report s).report (.planChanged s.seq.activeSlot (slotOf n) .taken)).lnk := by
  obtain ⟨t, hread, hsel⟩ := startPlanSelection_chosen h
  obtain ⟨htab, -, hseq, hjmc, hlnk, htime, -⟩ := hread.reads
  obtain ⟨htrial, hstart, -⟩ := hread.store
  have hside := planSide_takePlan (slotOf n) p t
  rw [planSet_eq (htab.trans hx)] at hside
  dsimp only
  rw [hsel]
  generalize takePlan (slotOf n) p t = v at hside
  obtain ⟨hactive, -, hcurrent, -⟩ := hside.reads
  obtain ⟨l, hl⟩ := hside.reports
  have hpts := hside.pts
  refine ⟨hactive, ?_, ?_, hside.jmc.trans hjmc, hcurrent.trans (by rw [← hseq]), ?_, ?_, ?_, fun m hm => ?_, l, ?_⟩
  · rw [State.report_pts, hpts]
  · rw [State.report_pts, hpts]
  · rw [State.report_pts, hpts, ← htab]
  · rw [State.report_pts, hpts, ← htrial]
  · rw [State.report_pts, hpts, ← hstart]
  · rw [← hread.intact hm, State.slot, State.slot, State.report_pts, hpts]
  · have hlnk' : v.lnk = (l.foldl State.report s).lnk := hl.trans (foldl_report_lnk_congr l hlnk htime)
    exact report_lnk_after (m := []) hlnk' (hside.time.trans htime)

/-! #### No plan -/

theorem priUnderPlan_dti (s : State) : (priUnderPlan s).dti = s.dti := by
  have hreports (e : PriorityEvent) (a : ApproachId) (f : TramRec → Option TramSource) (l : List TramRec) (u : State) :
      (l.foldl (fun s r => reportTram e a r (f r) none s) u).dti = u.dti := foldl_same (fun _ _ => by rfl) l u
  have happ (u : State) (a : ApproachId) : (approachUnderPlan a u).dti = u.dti := by
    unfold approachUnderPlan
    dsimp only
    split
    · rw [State.onApp_dti]
      split
      · exact hreports .dropped a (fun _ => none) _ u
      · exact hreports .dropped a (fun _ => none) _ u
    · exact hreports .lost a (fun r => some r.source) _ u
  have hcalls (l : List Call) (u : State) : (l.foldl (fun s c => reportCall .dropped c.id s) u).dti = u.dti :=
    foldl_same (fun _ _ => by rfl) l u
  have happs (u : State) : (approachIds.foldl (fun s a => approachUnderPlan a s) u).dti = u.dti := foldl_same happ _ u
  have hoffer (l : List ApproachId) (u : State) : (offerAmong l u).dti = u.dti :=
    ((PriActs.refl (A := fun _ => True) (C := True) u).offerAmong l fun _ => trivial).outside.blocks.1
  unfold priUnderPlan
  dsimp only
  rw [(PriActs.determineRuling_outside _ _).blocks.1, hoffer, State.onPri_dti, hcalls, happs]

/-- An approach emptied, as one that is absent under the plan is (R114). -/
def Approach.emptied (x : Approach) : Approach := { x with queue := [], episode := .idle, recovery := 0, checkinGuard := 0 }

theorem approachUnderPlan_absent {a : ApproachId} (h : (s.appSet a).present = false) :
    ∃ u : State, approachUnderPlan a s = u.onApp a Approach.emptied ∧ u.pri = s.pri := by
  have hreports (l : List TramRec) (u : State) :
      (l.foldl (fun s r => reportTram .dropped a r none none s) u).pri = u.pri := foldl_same (fun _ _ => by rfl) l u
  refine ⟨_, if_pos (by simp [h]), ?_⟩
  split
  · exact hreports _ s
  · exact hreports _ s

/-- Approaches brought under no plan are emptied one after another. -/
theorem foldl_approachUnderPlan_absent {l : List ApproachId} (h : ∀ a, (s.appSet a).present = false) (a : ApproachId) :
    (l.foldl (fun s a => approachUnderPlan a s) s).app a = if a ∈ l then (s.app a).emptied else s.app a := by
  induction l generalizing s with
  | nil => rfl
  | cons b l ih =>
    obtain ⟨u, hu, hpri⟩ := approachUnderPlan_absent (h b)
    have hside := planSide_approachUnderPlan b s
    have happ : (approachUnderPlan b s).app a = if a = b then (s.app a).emptied else s.app a := by
      have hua : u.app a = s.app a := by rw [State.app, State.app, hpri]
      rw [hu]
      by_cases hb : a = b
      · subst hb
        rw [State.app_onApp_self, hua, if_pos rfl]
      · rw [State.app_onApp_ne _ (Ne.symm hb), hua, if_neg hb]
    rw [List.foldl_cons, ih fun c => by rw [appSet_congr (by rw [hside.pts]) hside.reads.1]; exact h c, happ]
    by_cases hb : a = b
    · subst hb
      simp [Approach.emptied]
    · simp [hb]

/-- Under no plan every approach is empty and idle. -/
theorem priUnderPlan_absent (h : ∀ a, (s.appSet a).present = false) (a : ApproachId) :
    ((priUnderPlan s).app a).queue = [] ∧ ((priUnderPlan s).app a).episode = .idle := by
  have hfronts : approachIds.filter (losesHead s) = [] :=
    List.filter_eq_nil_iff.mpr fun b _ => by simp [losesHead, h b]
  have hcalls (l : List Call) (u : State) : (l.foldl (fun s c => reportCall .dropped c.id s) u).pri = u.pri :=
    foldl_same (fun _ _ => by rfl) l u
  have hempty (b : ApproachId) : (approachIds.foldl (fun s a => approachUnderPlan a s) s).app b = (s.app b).emptied := by
    rw [foldl_approachUnderPlan_absent h, if_pos (show b ∈ approachIds from List.mem_finRange b)]
  unfold priUnderPlan
  dsimp only
  rw [hfronts]
  generalize approachIds.foldl (fun s a => approachUnderPlan a s) s = u at hempty ⊢
  generalize hgone : (u.pri.calls.filter fun c => c.state = .waiting && u.stageGroups c.target = 0) = gone
  have hpri := hcalls gone u
  generalize gone.foldl (fun s c => reportCall .dropped c.id s) u = v at hpri ⊢
  generalize hw : offerAmong [] (v.onPri fun p => { p with calls := p.calls.filter fun c => !(gone.any fun d => d.id = c.id) }) = w
  have happ (b : ApproachId) : w.app b = (s.app b).emptied := by
    rw [← hempty b, ← hw, State.app, State.app, ← hpri]
    rfl
  have hnone (r : ReqRef) (hr : w.ruling = some r) : PriActs.Allows (fun _ => False) True r := by
    cases r with
    | tram b tag =>
      obtain ⟨x, hx, -⟩ := head_of_ruling hr
      rw [State.head?, happ] at hx
      cases hx
    | call id => trivial
  have hacts := PriActs.determineRuling_allowed false hnone
  have hkept : (w.onPri fun p => { p with rulingHeld := w.ruling }).app a = (s.app a).emptied := happ a
  refine ⟨?_, ?_⟩
  · rw [(hacts.queues a).resolve_right fun hf => hf.1, hkept]
    rfl
  · obtain he | he := (hacts.episodes a).resolve_left id
    · rw [he, hkept]
      rfl
    · exact he

/-- The record of a detector that has been brought under no plan. -/
def DetRec.Cleared (r : DetRec) : Prop := r.ring = [] ∧ r.count = 0

theorem DetRec.cleared_underPlan {c : DetSettings} (hc : c.kind = .unused) (r : DetRec) : (r.underPlan c).Cleared :=
  ⟨rfl, if_pos hc⟩

theorem detSet_unused (h : s.plan? = none) (d : DetId) : (s.detSet d).kind = .unused := by
  rw [State.detSet, h]
  rfl

theorem foldl_underPlan_cleared {f : State → DetId → State}
    (hf : ∀ u d, u.plan? = none → (f u d).plan? = none ∧ ((f u d).det d).Cleared ∧ ∀ e, e ≠ d → (f u d).det e = u.det e)
    (l : List DetId) (h : s.plan? = none) (d : DetId) (hd : d ∈ l ∨ (s.det d).Cleared) : ((l.foldl f s).det d).Cleared := by
  induction l generalizing s with
  | nil => exact hd.resolve_left List.not_mem_nil
  | cons e l ih =>
    obtain ⟨hplan, hself, hothers⟩ := hf s e h
    refine ih hplan ?_
    by_cases he : d = e
    · subst he
      exact .inr hself
    · rw [hothers d he]
      exact hd.imp (fun hm => (List.mem_cons.mp hm).resolve_left he) id

/-- Under no plan every detector is unused, with an empty ring and a count of 0. -/
theorem dtiUnderPlan_unused (old : Option Plan) (h : s.plan? = none) (d : DetId) : ((dtiUnderPlan old s).det d).Cleared := by
  have hdemands (f : State → DetId → Bool) (u : State) :
      DemandActs u (detIds.foldl (fun s d => if f s d then sendDemand d s else s) u) :=
    (DemandActs.refl u).foldl _ _ fun _ d hv => DemandActs.ite (fun _ => hv.sendDemand d) fun _ => hv
  unfold dtiUnderPlan
  dsimp only
  rw [State.det, (hdemands (fun u d => demandsUnderPlan (detSettings old d) (u.detSet d) s.dti.recs[d] (u.det d)) _).dti,
    (recomputeInputs_follows _).recs]
  refine foldl_underPlan_cleared (fun u e hu => ?_) detIds h d (.inl (List.mem_finRange d))
  have hclear := DetRec.cleared_underPlan (detSet_unused hu e) s.dti.recs[e]
  have hself : ((u.onDet e fun _ => s.dti.recs[e].underPlan (u.detSet e)).det e).Cleared := by
    rw [State.det_onDet_self]
    exact hclear
  have hothers (c : DetId) (hc : c ≠ e) : (u.onDet e fun _ => s.dti.recs[e].underPlan (u.detSet e)).det c = u.det c :=
    State.det_onDet_ne u (Ne.symm hc) _
  split
  · exact ⟨hu, hself, hothers⟩
  · exact ⟨hu, hself, hothers⟩

/-- What taking the plan away leaves, read on the state before. -/
theorem startPlanSelection_none (h : ∀ n p, ¬ SlotFits s n p) :
    let u := startPlanSelection s
    u.seq.activeSlot = none ∧ u.jmc = s.jmc ∧ u.pts.activeCopy = s.pts.activeCopy
      ∧ (s.seq.activeSlot = none →
        u.lnk = (s.report .noValidPlan).lnk ∧ u.pri = s.pri ∧ u.dti = s.dti ∧ u.notices = s.notices)
      ∧ (s.seq.activeSlot.isSome = true →
        (∀ a, (u.app a).queue = [] ∧ (u.app a).episode = .idle) ∧ (∀ d, (u.det d).ring = [] ∧ (u.det d).count = 0)
        ∧ ∃ l : List ReportBody, u.lnk = (l.foldl State.report (s.report .noValidPlan)).lnk) := by
  obtain ⟨t, hread, hsel⟩ := startPlanSelection_nothing h
  obtain ⟨-, -, hseq, hjmc, hlnk, htime, hpri, hdti, hnotices, -⟩ := hread.reads
  have hplan : (noPlan t).plan? = none := rfl
  have hreport : (noPlan t).lnk = (s.report .noValidPlan).lnk := foldl_report_lnk_congr [.noValidPlan] hlnk htime
  have htime' : (noPlan t).time = (s.report .noValidPlan).time := htime
  have hcopy := hread.store.2.2.1
  dsimp only
  rw [hsel]
  split
  · next hsome =>
    have hside := planSide_blocksUnderPlan t.plan? (noPlan t)
    have hdet (d : DetId) : (blocksUnderPlan t.plan? (noPlan t)).det d = (dtiUnderPlan t.plan? (noPlan t)).det d := by
      rw [State.det, State.det, blocksUnderPlan, State.push_dti, priUnderPlan_dti]
    have hnone := planSide_dtiUnderPlan t.plan? (noPlan t)
    have happ (a : ApproachId) := priUnderPlan_absent (s := dtiUnderPlan t.plan? (noPlan t)) (fun b => by
      rw [appSet_congr (by rw [hnone.pts]) hnone.reads.1, State.appSet, hplan]
      rfl) a
    have hqueue (a : ApproachId) : (blocksUnderPlan t.plan? (noPlan t)).app a
        = (priUnderPlan (dtiUnderPlan t.plan? (noPlan t))).app a := by
      rw [State.app, State.app, blocksUnderPlan, State.push_pri]
    have hclear (d : DetId) := dtiUnderPlan_unused t.plan? hplan d
    obtain ⟨l, hl⟩ := hside.reports
    refine ⟨hside.reads.1, hside.jmc.trans hjmc, ?_, fun hs => ?_, fun _ => ⟨fun a => ?_, fun d => ?_, l, ?_⟩⟩
    · rw [hside.pts, ← hcopy]
      rfl
    · rw [hs] at hsome
      cases hsome
    · rw [hqueue]
      exact happ a
    · rw [hdet]
      exact hclear d
    · rw [hl]
      exact foldl_report_lnk_congr l hreport htime'
  · next hnone =>
    exact ⟨rfl, hjmc, hcopy, fun _ => ⟨hreport, hpri, hdti, hnotices⟩, fun hs => absurd hs hnone⟩

end Sys2Proof.Machine
end

section
namespace Sys2Proof.Machine

/-! ### The power-on reset (R1, R42, R65, R94, R118, R139, R168, R178, R193) -/

section Reset

variable (s : State)

theorem powerOn_grp (g : GroupId) : (powerOn s).grp g = {} := by simp [State.grp, powerOn, Sge.reset]

theorem powerOn_det (d : DetId) : (powerOn s).det d = {} := by simp [State.det, powerOn, Dti.reset]

theorem powerOn_dem (g : GroupId) : (powerOn s).dem g = {} := by simp [State.dem, powerOn]

theorem powerOn_app (a : ApproachId) : (powerOn s).app a = {} := by simp [State.app, powerOn]

theorem powerOn_cap (a : ApproachId) : (powerOn s).cap a = .absent := by simp [State.cap, powerOn]

theorem powerOn_holders (g : GroupId) : (powerOn s).holders g = [] := by simp [State.holders, powerOn]

theorem powerOn_mon (g : GroupId) : (powerOn s).mon g = {} := by simp [State.mon, powerOn]

theorem powerOn_slot (n : PlanSlot) : (powerOn s).slot n = (s.slot n).afterReset := by
  simp [State.slot, powerOn, Pts.afterReset]

theorem powerOn_lampLine :
    (powerOn s).sge.lampLine = groupIds.map fun g => { group := g, aspect := .allOff, wait := false } := by
  have hlist : darkLamps.toList = groupIds.map fun g => { group := g } := by
    rw [darkLamps, Vector.toList_ofFn, List.ofFn_eq_map]
    rfl
  exact hlist

theorem Slot.afterReset_of_writing {x : Slot} (h : x.state = .writing) : x.afterReset.state = .invalid := by
  rw [Slot.afterReset, if_pos h]

theorem Slot.afterReset_of_not_writing {x : Slot} (h : x.state ≠ .writing) : x.afterReset = x := if_neg h

end Reset

/-- Settles O6. -/
theorem powerOnResetSetsEveryBlock : Obligations.PowerOnResetSetsEveryBlock := by
  intro s
  refine ⟨powerOn s, exec_powerOnReset s, fun g => powerOn_grp s g, powerOn_lampLine s, fun d => powerOn_det s d, rfl, rfl, rfl, rfl,
    rfl, rfl, rfl, rfl, rfl, rfl, rfl, rfl, fun g => powerOn_dem s g, rfl, rfl, rfl, rfl, fun a => powerOn_app s a, rfl, rfl,
    fun a => powerOn_cap s a, fun g => powerOn_holders s g, rfl, rfl, rfl, rfl, rfl, rfl, rfl, rfl, rfl, rfl, fun g => ?_, rfl,
    rfl, rfl, rfl, rfl, rfl, rfl, rfl, rfl, rfl, fun n hn => ?_, fun n hn => ?_, rfl, rfl, rfl, rfl⟩
  · rw [powerOn_mon]
    exact ⟨rfl, rfl, rfl, rfl, rfl, rfl, rfl, rfl, rfl, rfl⟩
  · rw [powerOn_slot, Slot.afterReset_of_writing hn]
  · rw [powerOn_slot, Slot.afterReset_of_not_writing hn]

end Sys2Proof.Machine
end

section
namespace Sys2Proof.Machine

variable {s : State}

/-! ### The conditions of the monitor (R162 to R167) -/

theorem source_of_mem_conds {f : FaultSource} {x : Cond} (h : x ∈ f.conds) : x.source = f := by
  cases f with
  | conflictGo =>
    obtain ⟨g, -, hx⟩ := List.mem_flatMap.mp h
    obtain ⟨k, -, rfl⟩ := List.mem_map.mp hx
    rfl
  | tableIntegrity =>
    obtain rfl := List.mem_singleton.mp h
    rfl
  | _ =>
    obtain ⟨g, -, rfl⟩ := List.mem_map.mp h
    rfl

theorem mem_faultSources (f : FaultSource) : f ∈ faultSources := by cases f <;> decide

theorem mem_conds_iff {f : FaultSource} {x : Cond} : x ∈ f.conds ↔ x.source = f ∧ x ∈ allConds := by
  refine ⟨fun h => ⟨source_of_mem_conds h, List.mem_flatMap.mpr ⟨f, mem_faultSources f, h⟩⟩, fun ⟨hf, hx⟩ => ?_⟩
  obtain ⟨e, -, he⟩ := List.mem_flatMap.mp hx
  rwa [← hf, source_of_mem_conds he]

/-- CONFLICT_GO names the lower of its two groups first; every other condition is one CMON looks for. -/
theorem mem_allConds {x : Cond} : x ∈ allConds ↔ ∀ k h, x = .conflictGo k h → k < h := by
  have hconds : x ∈ allConds ↔ x ∈ x.source.conds := by simp [mem_conds_iff]
  rw [hconds]
  cases x with
  | conflictGo g h => simp [Cond.source, FaultSource.conds, mem_groupIds]
  | tableIntegrity => simp [Cond.source, FaultSource.conds]
  | _ g => simp [Cond.source, FaultSource.conds, mem_groupIds]

theorem sourcePresent_iff {f : FaultSource} :
    s.sourcePresent f = true ↔ ∃ x, x.source = f ∧ x ∈ allConds ∧ s.condPresent x = true := by
  simp [State.sourcePresent, mem_conds_iff, and_assoc]

theorem goMismatchPresent_iff : s.goMismatchPresent = true ↔ ∃ g, s.condPresent (.goMismatch g) = true := by
  simp [State.goMismatchPresent, mem_groupIds]

/-! ### FAULT_CLEAR (R172) -/

theorem find?_faultSources {p : FaultSource → Bool} {f : FaultSource} (h : p f = true)
    (hlow : ∀ e, e.code < f.code → p e = false) : faultSources.find? p = some f := by
  have hsorted : faultSources.Pairwise fun e f => e.code < f.code := by decide
  obtain ⟨l₁, l₂, hl⟩ := List.append_of_mem (mem_faultSources f)
  rw [hl] at hsorted ⊢
  obtain ⟨-, -, hbefore⟩ := List.pairwise_append.mp hsorted
  exact List.find?_eq_some_iff_append.mpr
    ⟨h, l₁, l₂, rfl, fun e he => by simp [hlow e (hbefore e he f (List.mem_cons_self ..))]⟩

theorem persists_iff {f : FaultSource} : (SourceSet.has s.monitorStart.fatal f && s.sourcePresent f) = true ↔
    SourceSet.has s.monitorStart.fatal f = true ∧ ∃ x, x.source = f ∧ x ∈ allConds ∧ s.condPresent x = true := by
  rw [Bool.and_eq_true, sourcePresent_iff]

section FaultClear

variable {tag : Byte}

theorem takeFaultClear_wrongMode (hm : s.jmc.mode ≠ .flash) : takeFaultClear tag s = s.reply 0x13 tag .wrongMode := if_pos hm

variable (hm : s.jmc.mode = .flash)
include hm

theorem takeFaultClear_persists {f : FaultSource} (h : persisting s = some f) :
    takeFaultClear tag s = s.reply 0x13 tag .faultPersists [BitVec.ofNat 8 f.code] := by
  simp only [takeFaultClear, hm, ne_eq, not_true_eq_false, if_false, h]
  rfl

variable (h : persisting s = none)
include h

theorem takeFaultClear_noStrap (hl : s.cmon.lockout = true) (hc : s.pins.commission = false) :
    takeFaultClear tag s = s.reply 0x13 tag .noStrap := by
  simp [takeFaultClear, hm, h, hl, hc]

variable (hc : s.cmon.lockout = false ∨ s.pins.commission = true)
include hc

theorem takeFaultClear_nothing (hf : s.cmon.first = none) (hl : s.cmon.latched = 0) :
    takeFaultClear tag s = s.reply 0x13 tag .ok [] { nothing := true } := by
  have hstrap : (s.cmon.lockout && !s.pins.commission) = false := by obtain h | h := hc <;> simp [h]
  simp [takeFaultClear, hm, h, hstrap, hf, hl]

theorem takeFaultClear_clears (hr : s.cmon.first.isSome = true ∨ s.cmon.latched ≠ 0) :
    takeFaultClear tag s = clearFaults (s.reply 0x13 tag .ok) := by
  have hstrap : (s.cmon.lockout && !s.pins.commission) = false := by obtain h | h := hc <;> simp [h]
  have hrecord : ¬ (s.cmon.first.isNone && decide (s.cmon.latched = 0)) = true := by
    rw [Bool.and_eq_true, decide_eq_true_iff, Option.isNone_iff_eq_none]
    rintro ⟨hf, hl⟩
    rw [hf] at hr
    exact hr.elim Bool.noConfusion fun hn => hn hl
  simp only [takeFaultClear, hm, ne_eq, not_true_eq_false, if_false, h, hstrap, Bool.false_eq_true, if_neg hrecord]

end FaultClear

/-! ### The second failure (R171) -/

theorem safeDropDue_iff : safeDropDue s = true ↔
    s.jmc.mode = .flash ∧ 30 ≤ s.cmon.dropTimer ∧ ∃ g, s.condPresent (.goMismatch g) = true := by
  simp [safeDropDue, goMismatchPresent_iff, Config.safeDropTime, and_assoc]

theorem find?_goMismatch {g : GroupId} (h : s.condPresent (.goMismatch g) = true)
    (hlow : ∀ k, k < g → s.condPresent (.goMismatch k) = false) :
    (groupIds.find? fun g => s.condPresent (.goMismatch g)) = some g :=
  find?_finRange_of_least (p := fun g => s.condPresent (.goMismatch g)) h hlow

/-! ### What the orders at a change of mode leave alone (R20, R21, R88, R113, R138) -/

/-- What JMC's orders leave of a state: the store, the detectors, the time, the fault record and the sensed lamps. They may
write the modes, the groups and their lamps, SEQ, PRI, the mismatch timers, and what the link has to send. -/
structure Ordered (s t : State) : Prop where
  store : t.pts = s.pts ∧ t.dti = s.dti ∧ t.time = s.time ∧ t.pins = s.pins ∧ t.pending = s.pending
  record : { t.cmon with recs := s.cmon.recs, counted := s.cmon.counted, dropTimer := s.cmon.dropTimer } = s.cmon
  sensed : ∀ g, { t.mon g with
    goTimer := (s.mon g).goTimer, aspectTimer := (s.mon g).aspectTimer, redTimer := (s.mon g).redTimer } = s.mon g
  goTimers : ∀ g, (t.mon g).goTimer ≤ (s.mon g).goTimer
  reports : ∃ l : List ReportBody, t.lnk = (l.foldl State.report s).lnk

theorem Ordered.refl (s : State) : Ordered s s := ⟨⟨rfl, rfl, rfl, rfl, rfl⟩, rfl, fun _ => rfl, fun _ => Nat.le_refl _, [], rfl⟩

theorem Ordered.of_eq {s t : State} (h : t.pts = s.pts ∧ t.dti = s.dti ∧ t.time = s.time ∧ t.pins = s.pins ∧ t.pending = s.pending)
    (hc : t.cmon = s.cmon) (hl : ∃ l : List ReportBody, t.lnk = (l.foldl State.report s).lnk) : Ordered s t :=
  ⟨h, by rw [hc], fun g => by rw [State.mon, State.mon, hc], fun g => by rw [State.mon, State.mon, hc], hl⟩

theorem Ordered.trans {s t u : State} (h : Ordered s t) (k : Ordered t u) : Ordered s u := by
  obtain ⟨hpts, hdti, htime, hpins, hpending⟩ := h.store
  obtain ⟨kpts, kdti, ktime, kpins, kpending⟩ := k.store
  exact ⟨⟨kpts.trans hpts, kdti.trans hdti, ktime.trans htime, kpins.trans hpins, kpending.trans hpending⟩,
    by rw [← h.record, ← k.record], fun g => by rw [← h.sensed g, ← k.sensed g],
    fun g => (k.goTimers g).trans (h.goTimers g), reports_trans htime h.reports k.reports⟩

theorem Ordered.recorded {s t : State} (h : Ordered s t) : t.cmon.first = s.cmon.first ∧ t.cmon.latched = s.cmon.latched
    ∧ t.cmon.lockout = s.cmon.lockout ∧ t.cmon.window = s.cmon.window ∧ t.cmon.safeDropped = s.cmon.safeDropped
    ∧ t.cmon.integrity = s.cmon.integrity ∧ t.cmon.compareTimer = s.cmon.compareTimer := by
  rw [← h.record]
  exact ⟨rfl, rfl, rfl, rfl, rfl, rfl, rfl⟩

theorem Ordered.lamps {s t : State} (h : Ordered s t) (g : GroupId) : (t.mon g).red = (s.mon g).red
    ∧ (t.mon g).amber = (s.mon g).amber ∧ (t.mon g).go = (s.mon g).go ∧ (t.mon g).redCurrent = (s.mon g).redCurrent
    ∧ (t.mon g).silence = (s.mon g).silence ∧ (t.mon g).scr = (s.mon g).scr ∧ (t.mon g).source = (s.mon g).source := by
  rw [← h.sensed g]
  exact ⟨rfl, rfl, rfl, rfl, rfl, rfl, rfl⟩

section

variable {t : State} (h : Ordered s t)
include h

theorem Ordered.onSge (f : Sge → Sge) : Ordered s (t.onSge f) := h.trans (.of_eq ⟨rfl, rfl, rfl, rfl, rfl⟩ rfl ⟨[], rfl⟩)
theorem Ordered.onGrp (g : GroupId) (f : GroupRec → GroupRec) : Ordered s (t.onGrp g f) :=
  h.trans (.of_eq ⟨rfl, rfl, rfl, rfl, rfl⟩ rfl ⟨[], rfl⟩)
theorem Ordered.onSeq (f : Seq → Seq) : Ordered s (t.onSeq f) := h.trans (.of_eq ⟨rfl, rfl, rfl, rfl, rfl⟩ rfl ⟨[], rfl⟩)
theorem Ordered.onPri (f : Pri → Pri) : Ordered s (t.onPri f) := h.trans (.of_eq ⟨rfl, rfl, rfl, rfl, rfl⟩ rfl ⟨[], rfl⟩)
theorem Ordered.onJmc (f : Jmc → Jmc) : Ordered s (t.onJmc f) := h.trans (.of_eq ⟨rfl, rfl, rfl, rfl, rfl⟩ rfl ⟨[], rfl⟩)
theorem Ordered.push (n : Notice) : Ordered s (t.push n) := h.trans (.of_eq ⟨rfl, rfl, rfl, rfl, rfl⟩ rfl ⟨[], rfl⟩)
theorem Ordered.report (b : ReportBody) : Ordered s (t.report b) := h.trans (.of_eq ⟨rfl, rfl, rfl, rfl, rfl⟩ rfl ⟨[b], rfl⟩)
theorem Ordered.ite {c : Prop} [Decidable c] {u v : State} (hu : c → Ordered s u) (hv : ¬ c → Ordered s v) :
    Ordered s (if c then u else v) := by
  by_cases hc : c
  · rw [if_pos hc]
    exact hu hc
  · rw [if_neg hc]
    exact hv hc

theorem Ordered.foldl {α : Type} (l : List α) (f : State → α → State) (hf : ∀ u x, Ordered s u → Ordered s (f u x)) :
    Ordered s (l.foldl f t) := by
  induction l generalizing t with
  | nil => exact h
  | cons x l ih => exact ih (hf t x h)

theorem Ordered.endDifferences (g : GroupId) : Ordered s (endDifferences g t) := by
  have hdrop (u : State) (k : GroupId) : (dropEnded u).mon k = u.mon k := rfl
  refine h.trans ⟨⟨rfl, rfl, rfl, rfl, rfl⟩, rfl, fun k => ?_, fun k => ?_, [], rfl⟩
  · rw [Machine.endDifferences, hdrop]
    by_cases hk : g = k
    · subst hk
      rw [State.mon_onMon_self]
    · rw [State.mon_onMon_ne t hk]
  · rw [Machine.endDifferences, hdrop]
    by_cases hk : g = k
    · subst hk
      rw [State.mon_onMon_self]
      dsimp only
      split
      · exact Nat.le_refl _
      · exact Nat.zero_le _
    · rw [State.mon_onMon_ne t hk]

theorem Ordered.sendLamp (g : GroupId) : Ordered s (sendLamp g t) := (h.onSge _).endDifferences g

theorem Ordered.changeGroup (g : GroupId) (f : GroupRec → GroupRec) : Ordered s (changeGroup g f t) := (h.onGrp g f).sendLamp g

theorem Ordered.groupsToFlash : Ordered s (groupsToFlash t) :=
  h.foldl _ _ fun _ g hu => Ordered.ite h (fun _ => (hu.changeGroup g _).push _) fun _ => hu.changeGroup g _

theorem Ordered.groupsToDark : Ordered s (groupsToDark t) :=
  h.foldl _ _ fun _ g hu => Ordered.ite h (fun _ => hu.onGrp g _) fun _ => hu.changeGroup g _

theorem Ordered.groupsToAllRed : Ordered s (groupsToAllRed t) := h.foldl _ _ fun _ g hu => hu.changeGroup g _

theorem Ordered.monitorMode (b : Mode) : Ordered s (monitorMode b t) := by
  refine h.trans ?_
  unfold Machine.monitorMode
  by_cases hd : t.jmc.mode = .dark
  · simp only [State.onCmon_jmc, hd, if_true]
    exact ⟨⟨rfl, rfl, rfl, rfl, rfl⟩, rfl, fun g => by simp [State.mon, State.onCmon],
      fun g => by simp [State.mon, State.onCmon], [], rfl⟩
  · simp only [State.onCmon_jmc, hd, if_false]
    exact ⟨⟨rfl, rfl, rfl, rfl, rfl⟩, rfl, fun g => rfl, fun g => Nat.le_refl _, [], rfl⟩

theorem Ordered.setModeFrom (b m : Mode) (p : Option Phase) (d : Option DarkCause) (c : ModeCause) :
    Ordered s (setModeFrom b m p d c t) := ((h.onJmc _).monitorMode _).report _

theorem Ordered.setMode (m : Mode) (p : Option Phase) (d : Option DarkCause) (c : ModeCause) : Ordered s (setMode m p d c t) :=
  h.setModeFrom _ m p d c

theorem Ordered.dropCalls : Ordered s (dropCalls t) := (h.foldl _ _ fun _ _ hu => hu.report _).onPri _

theorem Ordered.priFlash : Ordered s (priFlash t) := ((h.onPri _).onPri _).dropCalls.push _

theorem Ordered.flashOrders : Ordered s (flashOrders t) := (h.groupsToFlash.onSeq _).priFlash

theorem Ordered.forceFlash : Ordered s (forceFlash t) :=
  Ordered.ite h (fun _ => h) fun _ => (((h.onJmc _).setMode _ _ _ _).flashOrders).onSeq _

theorem Ordered.enterDark (w : DarkCause) (c : ModeCause) : Ordered s (enterDark w c t) := ((h.setMode _ _ _ _).groupsToDark).onSeq _

end

theorem enterDark_jmc (w : DarkCause) (c : ModeCause) (s : State) :
    (enterDark w c s).jmc = { s.jmc with mode := .dark, phase := none, darkCause := some w } := by
  obtain ⟨-, -, -, -, hjmc, -⟩ := (sameOutsideGroups_groupsToDark (setMode .dark none (some w) c s)).reads
  rw [enterDark, seqAbandon, State.onSeq_jmc, hjmc, setMode, setModeFrom_jmc]

theorem enterDark_state (w : DarkCause) (c : ModeCause) (s : State) (g : GroupId) :
    ((enterDark w c s).grp g).state = .dark := by
  have hgroups := groupsToDark_state (setMode .dark none (some w) c s) g
  unfold enterDark
  generalize groupsToDark (setMode .dark none (some w) c s) = u at hgroups ⊢
  exact hgroups

theorem setModeFrom_pri (b m : Mode) (p : Option Phase) (d : Option DarkCause) (c : ModeCause) (s : State) :
    (setModeFrom b m p d c s).pri = s.pri := by
  obtain ⟨x, r, k, hmon⟩ := monitorMode_eq s.jmc.mode (s.onJmc fun j => { j with mode := m, phase := p, darkCause := d })
  rw [setModeFrom, State.report_pri, hmon]
  rfl

theorem enterDark_pri (w : DarkCause) (c : ModeCause) (s : State) : (enterDark w c s).pri = s.pri := by
  obtain ⟨-, -, -, hpri, -⟩ := (sameOutsideGroups_groupsToDark (setMode .dark none (some w) c s)).reads
  rw [enterDark, seqAbandon, State.onSeq_pri, hpri, setMode, setModeFrom_pri]

end Sys2Proof.Machine
end

section
namespace Sys2Proof.Machine

variable {s : State}

/-! ### FAULT_CLEAR and the dropping of SAFE, on the state a command begins with -/

theorem persisting_eq_some {f : FaultSource} (h : SourceSet.has s.monitorStart.fatal f = true
      ∧ ∃ x, x.source = f ∧ x ∈ allConds ∧ s.condPresent x = true)
    (hlow : ∀ e, e.code < f.code → ¬ (SourceSet.has s.monitorStart.fatal e = true
      ∧ ∃ x, x.source = e ∧ x ∈ allConds ∧ s.condPresent x = true)) : persisting s = some f :=
  find?_faultSources (p := fun f => SourceSet.has s.monitorStart.fatal f && s.sourcePresent f) (persists_iff.mpr h)
    fun e he => Bool.eq_false_iff.mpr fun hp => hlow e he (persists_iff.mp hp)

theorem persisting_eq_none (h : ∀ f, ¬ (SourceSet.has s.monitorStart.fatal f = true
    ∧ ∃ x, x.source = f ∧ x ∈ allConds ∧ s.condPresent x = true)) : persisting s = none :=
  List.find?_eq_none.mpr fun f _ hp => h f (persists_iff.mp hp)

theorem SourceSet.has_add (x : SourceSet) (d e : FaultSource) :
    SourceSet.has (SourceSet.add x d) e = (SourceSet.has x e || decide (d = e)) := by
  have hbit : (BitVec.ofNat 7 (2 ^ d.code)).getLsbD e.code = decide (d = e) := by
    cases d <;> cases e <;> decide
  rw [SourceSet.has, SourceSet.add, BitVec.getLsbD_or, hbit]
  rfl

/-- What the dropping of SAFE leaves (R171). -/
theorem dropSafe_spec {g : GroupId} (h : s.condPresent (.goMismatch g) = true)
    (hlow : ∀ k, k < g → s.condPresent (.goMismatch k) = false) :
    let u := dropSafe s
    u.cmon.safeDropped = true ∧ u.safeOutput = false ∧ u.jmc.mode = .dark
      ∧ u.jmc.darkCause = some .safeDropped ∧ SourceSet.has u.cmon.latched .goMismatch = true
      ∧ u.cmon.first = (match s.cmon.first with
        | some f => some f
        | none => some { source := .goMismatch, groups := [g], time := s.time })
      ∧ (u.cmon.lockout = true ↔ s.cmon.lockout = true ∨ 0 < s.cmon.window)
      ∧ (∀ k, (u.grp k).state = .dark) ∧ u.dti = s.dti ∧ u.pri = s.pri ∧ u.pts = s.pts := by
  intro u
  have hu : u = dropSafe s := rfl
  rw [dropSafe, find?_goMismatch h hlow] at hu
  dsimp only at hu
  generalize hv : ((s.onCmon fun c => { Cmon.note c FaultSource.goMismatch (some g).toList s.cmon.first.isNone
    (decide (s.cmon.window > 0) && !s.cmon.lockout) s.time with safeDropped := true }).report _) = v at hu
  have hord : Ordered v u := hu ▸ (Ordered.refl v).enterDark _ _
  obtain ⟨hfirst, hlatched, hlockout, -, hdropped, -⟩ := hord.recorded
  obtain ⟨hpts, hdti, -⟩ := hord.store
  have hjmc : u.jmc = { v.jmc with mode := .dark, phase := none, darkCause := some .safeDropped } := by rw [hu, enterDark_jmc]
  have hdrop : u.cmon.safeDropped = true := by
    rw [hdropped, ← hv]
    rfl
  refine ⟨hdrop, ?_, ?_, ?_, ?_, ?_, ?_, fun k => ?_, ?_, ?_, ?_⟩
  · rw [State.safeOutput, hdrop, Bool.not_true, Bool.and_false]
  · rw [hjmc]
  · rw [hjmc]
  · rw [hlatched, ← hv]
    simp [Cmon.note, SourceSet.has_add]
  · rw [hfirst, ← hv]
    cases hf : s.cmon.first <;> simp [Cmon.note, hf]
  · rw [hlockout, ← hv]
    cases hl : s.cmon.lockout <;> simp [Cmon.note, hl]
  · rw [hu, enterDark_state]
  · rw [hdti, ← hv]
    rfl
  · rw [hu, enterDark_pri, ← hv]
    rfl
  · rw [hpts, ← hv]
    rfl

/-- Settles O60. -/
theorem faultClearAndSafeDrop : Obligations.FaultClearAndSafeDrop := by
  intro tag s clear persists
  have hclear : clear = .next (takeFaultClear tag s.begun) := rfl
  refine ⟨fun hm => ?_, fun hm => ⟨fun f hf hlow => ?_, fun hnone => ⟨fun hl hc => ?_, fun hc => ⟨fun hf hl => ?_, fun hr => ?_⟩⟩⟩,
    fun hm ht g hg hlow => ?_, fun hn => ?_, ?_⟩
  · rw [hclear, takeFaultClear_wrongMode (s := s.begun) hm]
  · rw [hclear, takeFaultClear_persists (s := s.begun) hm (persisting_eq_some (s := s.begun) hf hlow)]
  · rw [hclear, takeFaultClear_noStrap (s := s.begun) hm (persisting_eq_none (s := s.begun) hnone) hl hc]
  · rw [hclear, takeFaultClear_nothing (s := s.begun) hm (persisting_eq_none (s := s.begun) hnone) hc hf hl]
  · rw [hclear, takeFaultClear_clears (s := s.begun) hm (persisting_eq_none (s := s.begun) hnone) hc hr]
    rfl
  · refine ⟨dropSafe s.begun, congrArg Host.Outcome.next (perform_due (due := fun s => safeDropDue s) ?_), dropSafe_spec hg hlow⟩
    exact safeDropDue_iff.mpr ⟨hm, ht, g, hg⟩
  · exact congrArg Host.Outcome.next (perform_notDue (due := fun s => safeDropDue s) fun hd => hn (safeDropDue_iff.mp hd))
  · by_cases hw : s.cmon.window = 1
    · have hend : exec .restartWindowEnd s = .next (endWindow s.begun) :=
        congrArg Host.Outcome.next (if_pos (decide_eq_true hw))
      rw [hend, if_pos hw]
      rfl
    · have hstays : exec .restartWindowEnd s = .next s.begun :=
        congrArg Host.Outcome.next (if_neg fun hd => hw (of_decide_eq_true hd))
      rw [hstays, if_neg hw]
      rfl

end Sys2Proof.Machine
end

section
namespace Sys2Proof.Machine

variable {s : State}

/-! ### Lamp sense records and the shadow clearance (R159 to R161) -/

/-- A group's record as a go-lamp end of a conflicting group leaves it (R161). -/
def MonRec.shadowed (e : GroupId) (raised : Nat) (m : MonRec) : MonRec :=
  if m.scr < raised then { m with scr := raised, source := some e } else m

theorem shadowed_foldl {e : GroupId} {l : List GroupId} (hl : l.Nodup) (t : State) :
    let u := l.foldl (fun s b => s.onMon b (MonRec.shadowed e (s.ig e b - goClosing s e))) t
    (∀ b, u.mon b = if b ∈ l then (t.mon b).shadowed e (t.ig e b - goClosing t e) else t.mon b)
      ∧ { u with cmon := { u.cmon with recs := t.cmon.recs } } = t := by
  induction l generalizing t with
  | nil => exact ⟨fun b => rfl, rfl⟩
  | cons c l ih =>
    obtain ⟨hc, hl⟩ := List.nodup_cons.mp hl
    obtain ⟨hmon, hrest⟩ := ih hl (t.onMon c (MonRec.shadowed e (t.ig e c - goClosing t e)))
    refine ⟨fun b => (hmon b).trans ?_, ?_⟩
    · by_cases hb : b = c
      · subst hb
        rw [if_neg hc, if_pos (List.mem_cons_self ..), State.mon_onMon_self]
      · have hmem : b ∈ c :: l ↔ b ∈ l := by simp [hb]
        rw [State.mon_onMon_ne t (Ne.symm hb)]
        simp only [hmem]
        rfl
    · rw [List.foldl_cons]
      generalize List.foldl _ _ l = u at hrest ⊢
      have hcmon := congrArg State.cmon hrest
      calc { u with cmon := { u.cmon with recs := t.cmon.recs } }
        _ = { ({ u with cmon := { u.cmon with recs := (t.onMon c (MonRec.shadowed e (t.ig e c - goClosing t e))).cmon.recs } } : State)
              with cmon := { u.cmon with recs := t.cmon.recs } } := rfl
        _ = { (t.onMon c (MonRec.shadowed e (t.ig e c - goClosing t e)))
              with cmon := { u.cmon with recs := t.cmon.recs } } := by rw [hrest]
        _ = { (t.onMon c (MonRec.shadowed e (t.ig e c - goClosing t e)))
              with cmon := { (t.onMon c (MonRec.shadowed e (t.ig e c - goClosing t e))).cmon with recs := t.cmon.recs } } := by
            rw [← hcmon]
        _ = t := rfl

theorem raiseShadow_spec (e : GroupId) (t : State) :
    (∀ b, (raiseShadow e t).mon b
      = if GroupSet.has (t.conflicts e) b = true then (t.mon b).shadowed e (t.ig e b - goClosing t e) else t.mon b)
      ∧ { raiseShadow e t with cmon := { (raiseShadow e t).cmon with recs := t.cmon.recs } } = t := by
  obtain ⟨hmon, hrest⟩ := shadowed_foldl (e := e) (members_nodup (t.conflicts e)) t
  refine ⟨fun b => (hmon b).trans ?_, hrest⟩
  simp only [mem_members]

theorem endDifferences_mon (g : GroupId) (t : State) (k : GroupId) (h : k ≠ g) : (endDifferences g t).mon k = t.mon k := by
  have hdrop (u : State) : (dropEnded u).mon k = u.mon k := rfl
  rw [endDifferences, hdrop, State.mon_onMon_ne t (Ne.symm h)]

theorem endDifferences_mon_self (g : GroupId) (t : State) : ∃ a b c,
    (endDifferences g t).mon g = { t.mon g with goTimer := a, aspectTimer := b, redTimer := c } := by
  have hdrop (u : State) : (dropEnded u).mon g = u.mon g := rfl
  rw [endDifferences, hdrop, State.mon_onMon_self]
  exact ⟨_, _, _, rfl⟩

theorem MonRec.shadowed_lamps (e : GroupId) (v : Nat) (m : MonRec) : (m.shadowed e v).red = m.red ∧ (m.shadowed e v).amber = m.amber
    ∧ (m.shadowed e v).go = m.go ∧ (m.shadowed e v).redCurrent = m.redCurrent ∧ (m.shadowed e v).arrival = m.arrival
    ∧ (m.shadowed e v).silence = m.silence := by
  unfold MonRec.shadowed
  split <;> exact ⟨rfl, rfl, rfl, rfl, rfl, rfl⟩

theorem senseRecord_of_no_group {n : Nat} (h : n = 0 ∨ 24 < n) (red amber go current parity : Bool) (s : State) :
    senseRecord n red amber go current parity s = s := by
  have hn : groupNumbered n = none := by
    rw [groupNumbered, numbered_eq_none_iff]
    omega
  simp only [senseRecord, hn]

theorem senseRecord_number (e : GroupId) (red amber go current parity : Bool) (s : State) :
    senseRecord (number e) red amber go current parity s = if parity then sense e red amber go current s else s := by
  simp only [senseRecord, groupNumbered, numbered_number]

/-- What a valid record leaves (R160, R161). -/
theorem sense_spec (e : GroupId) (red amber go current : Bool) (s : State) :
    let u := sense e red amber go current s
    (u.mon e).red = red ∧ (u.mon e).amber = amber ∧ (u.mon e).go = go ∧ (u.mon e).redCurrent = current
      ∧ (u.mon e).arrival = s.time ∧ (u.mon e).silence = 0
      ∧ (∀ b, b ≠ e →
          let raised := s.ig e b - if s.kind e = .pedestrian then (s.groupDef e).close else 0
          u.mon b
            = if s.present e = true ∧ (s.mon e).go = true ∧ go = false ∧ GroupSet.has (s.conflicts e) b = true
                ∧ (s.mon b).scr < raised then
              { s.mon b with scr := raised, source := some e }
            else s.mon b)
      ∧ u.notices = s.notices ++ [.evaluate] ∧ u.sge = s.sge ∧ u.jmc = s.jmc ∧ u.dti = s.dti
      ∧ u.seq = s.seq ∧ u.pri = s.pri ∧ u.pts = s.pts ∧ u.lnk = s.lnk
      ∧ u.cmon.latched = s.cmon.latched ∧ u.cmon.first = s.cmon.first := by
  intro u
  obtain ⟨v, hv⟩ : ∃ v, v = s.onMon e fun m =>
    { m with red := red, amber := amber, go := go, redCurrent := current, arrival := s.time, silence := 0 } := ⟨_, rfl⟩
  obtain ⟨w, hw⟩ : ∃ w, w = if (s.present e && (s.mon e).go && !go) = true then raiseShadow e v else v := ⟨_, rfl⟩
  have hu : u = (endDifferences e w).push .evaluate := by
    rw [hw, hv]
    rfl
  obtain ⟨hmon, hrest⟩ := raiseShadow_spec e v
  have hsame : { w with cmon := { w.cmon with recs := v.cmon.recs } } = v := by
    rw [hw]
    split
    · exact hrest
    · rfl
  have hlamps : (w.mon e).red = red ∧ (w.mon e).amber = amber ∧ (w.mon e).go = go ∧ (w.mon e).redCurrent = current
      ∧ (w.mon e).arrival = s.time ∧ (w.mon e).silence = 0 := by
    have hve : (v.mon e).red = red ∧ (v.mon e).amber = amber ∧ (v.mon e).go = go ∧ (v.mon e).redCurrent = current
        ∧ (v.mon e).arrival = s.time ∧ (v.mon e).silence = 0 := by
      rw [hv, State.mon_onMon_self]
      exact ⟨rfl, rfl, rfl, rfl, rfl, rfl⟩
    rw [hw]
    split
    · rw [hmon]
      split
      · obtain ⟨h1, h2, h3, h4, h5, h6⟩ := MonRec.shadowed_lamps e (v.ig e e - goClosing v e) (v.mon e)
        rw [h1, h2, h3, h4, h5, h6]
        exact hve
      · exact hve
    · exact hve
  have hself : ∃ a b c, u.mon e = { w.mon e with goTimer := a, aspectTimer := b, redTimer := c } := by
    rw [hu]
    exact endDifferences_mon_self e w
  have hordered : Ordered w u := hu ▸ ((Ordered.refl w).endDifferences e).push _
  obtain ⟨hpts, hdti, -⟩ := hordered.store
  obtain ⟨hfirst, hlatched, -⟩ := hordered.recorded
  obtain ⟨a, b, c, hself⟩ := hself
  rw [hself]
  have hvs (t : State) (ht : { w with cmon := { w.cmon with recs := v.cmon.recs } } = t) :
      t.notices = w.notices ∧ t.sge = w.sge ∧ t.jmc = w.jmc ∧ t.dti = w.dti ∧ t.seq = w.seq ∧ t.pri = w.pri ∧ t.pts = w.pts
        ∧ t.lnk = w.lnk ∧ t.cmon.latched = w.cmon.latched ∧ t.cmon.first = w.cmon.first := by
    rw [← ht]
    exact ⟨rfl, rfl, rfl, rfl, rfl, rfl, rfl, rfl, rfl, rfl⟩
  obtain ⟨hn, hsge, hjmc, hd, hseq, hpri, hp, hlnk, hl, hf⟩ := hvs v hsame
  have huw : u.notices = w.notices ++ [.evaluate] ∧ u.sge = w.sge ∧ u.jmc = w.jmc ∧ u.seq = w.seq ∧ u.pri = w.pri
      ∧ u.lnk = w.lnk := by
    rw [hu]
    exact ⟨rfl, rfl, rfl, rfl, rfl, rfl⟩
  obtain ⟨hun, husge, hujmc, huseq, hupri, hulnk⟩ := huw
  rw [hun, husge, hujmc, huseq, hupri, hulnk, hpts, hdti, hfirst, hlatched, ← hn, ← hsge, ← hjmc, ← hd, ← hseq, ← hpri, ← hp, ← hlnk,
    ← hl, ← hf, hv]
  obtain ⟨h1, h2, h3, h4, h5, h6⟩ := hlamps
  refine ⟨h1, h2, h3, h4, h5, h6, fun b hb => ?_, rfl, rfl, rfl, rfl, rfl, rfl, rfl, rfl, rfl, rfl⟩
  intro raised
  have hvb : v.mon b = s.mon b := hv ▸ State.mon_onMon_ne s (Ne.symm hb) _
  have hraised : v.ig e b - goClosing v e = raised := by
    rw [hv]
    rfl
  have hconf : v.conflicts e = s.conflicts e := by
    rw [hv]
    rfl
  rw [hu, State.mon, State.push_cmon, ← State.mon, endDifferences_mon e w b hb, hw]
  by_cases hend : (s.present e && (s.mon e).go && !go) = true
  · rw [if_pos hend, hmon b, hvb, hraised, hconf, MonRec.shadowed]
    obtain ⟨⟨hpres, hgo⟩, hoff⟩ : (s.present e = true ∧ (s.mon e).go = true) ∧ go = false := by simpa using hend
    by_cases hc : GroupSet.has (s.conflicts e) b = true
    · simp only [hpres, hgo, hoff, hc, if_true, true_and]
    · simp only [hc, if_false, and_false, false_and]
      simp
  · rw [if_neg hend, hvb, if_neg]
    rintro ⟨hpres, hgo, hoff, -⟩
    exact hend (by simp [hpres, hgo, hoff])

/-- Settles O57. -/
theorem senseRecordsRaiseTheShadow : Obligations.SenseRecordsRaiseTheShadow := by
  intro s red amber go current
  have hexec (n : Nat) (parity : Bool) : exec (.lampSenseRecord n red amber go current parity) s
      = .next (settle Config.reactionBound (senseRecord n red amber go current parity s.begun)) := rfl
  refine ⟨fun n parity hn => ?_, fun e => ⟨?_, sense e red amber go current s.begun, ?_,
    sense_spec e red amber go current s.begun⟩⟩
  · rw [hexec, senseRecord_of_no_group hn]
  · rw [hexec, senseRecord_number]
    rfl
  · rw [hexec, senseRecord_number]
    rfl

end Sys2Proof.Machine
end

section
namespace Sys2Proof.Machine

/-! ### One occurrence after another (R167 to R170) -/

section Forced

variable (s : State)

theorem forceFlash_of_halted (h : s.jmc.mode = .flash ∨ s.jmc.mode = .dark) : forceFlash s = s := if_pos (by simpa using h)

theorem flashOrders_jmc : (flashOrders s).jmc = s.jmc := by
  obtain ⟨-, -, -, -, hjmc, -⟩ := (sameOutsideGroups_groupsToFlash s).reads
  have hdrop (l : List Call) (u : State) : (l.foldl (fun s c => reportCall .dropped c.id s) u).jmc = u.jmc :=
    foldl_same (fun _ _ => by rfl) l u
  rw [flashOrders, priFlash, priChanged, State.push_jmc, dropCalls, State.onPri_jmc, hdrop, State.onPri_jmc, stopPlanning,
    State.onPri_jmc, seqAbandon, State.onSeq_jmc, hjmc]

theorem flashOrders_activeSlot : (flashOrders s).seq.activeSlot = s.seq.activeSlot := by
  obtain ⟨-, hseq, -⟩ := (sameOutsideGroups_groupsToFlash s).reads
  have hdrop (l : List Call) (u : State) : (l.foldl (fun s c => reportCall .dropped c.id s) u).seq = u.seq :=
    foldl_same (fun _ _ => by rfl) l u
  rw [flashOrders, priFlash, priChanged, State.push_seq, dropCalls, State.onPri_seq, hdrop, State.onPri_seq, stopPlanning,
    State.onPri_seq, seqAbandon, State.onSeq_seq, Seq.abandoned, hseq]

theorem setModeFrom_seq (b m : Mode) (p : Option Phase) (d : Option DarkCause) (c : ModeCause) :
    (setModeFrom b m p d c s).seq = s.seq := by
  obtain ⟨x, r, k, hmon⟩ := monitorMode_eq s.jmc.mode (s.onJmc fun j => { j with mode := m, phase := p, darkCause := d })
  rw [setModeFrom, State.report_seq, hmon]
  rfl

variable {s}

theorem forceFlash_of_running (h : ¬ (s.jmc.mode = .flash ∨ s.jmc.mode = .dark)) : forceFlash s =
    (flashOrders (setMode .flash none none .fault (endStartUp s))).onSeq fun q => { q with pendingPlan := none } :=
  if_neg (by simpa using h)

theorem forceFlash_jmc (h : ¬ (s.jmc.mode = .flash ∨ s.jmc.mode = .dark)) : (forceFlash s).jmc =
    { s.jmc with mode := .flash, phase := none, darkCause := none, timer := 0, firstRunning := false } := by
  rw [forceFlash_of_running h, State.onSeq_jmc, flashOrders_jmc, setMode, setModeFrom_jmc]
  rfl

theorem forceFlash_activeSlot : (forceFlash s).seq.activeSlot = s.seq.activeSlot := by
  by_cases h : s.jmc.mode = .flash ∨ s.jmc.mode = .dark
  · rw [forceFlash_of_halted s h]
  · rw [forceFlash_of_running h, State.onSeq_seq, flashOrders_activeSlot, setMode, setModeFrom_seq]
    rfl

end Forced

/-- The conditions given have occurred, one after another, in the state `w`. -/
structure Occurred (w : State) (done : List Cond) (s : State) : Prop where
  store : s.pts = w.pts ∧ s.dti = w.dti ∧ s.time = w.time ∧ s.pins = w.pins ∧ s.pending = w.pending
  window : s.cmon.window = w.cmon.window
  integrity : s.cmon.integrity = w.cmon.integrity
  compareTimer : s.cmon.compareTimer = w.cmon.compareTimer
  sensed : ∀ g, { s.mon g with
    goTimer := (w.mon g).goTimer, aspectTimer := (w.mon g).aspectTimer, redTimer := (w.mon g).redTimer } = w.mon g
  activeSlot : s.seq.activeSlot = w.seq.activeSlot
  latched : ∀ f, SourceSet.has s.cmon.latched f = true ↔ SourceSet.has w.cmon.latched f = true ∨ ∃ x ∈ done, x.source = f
  first : s.cmon.first = (w.cmon.first.or ((done.find? fun x => SourceSet.has w.monitorStart.fatal x.source).map fun x =>
    { source := x.source, groups := condGroups w x, time := w.time }))
  lockout : s.cmon.lockout = true ↔ w.cmon.lockout = true
    ∨ 0 < w.cmon.window ∧ ∃ x ∈ done, SourceSet.has w.monitorStart.fatal x.source = true
  calm : (∀ x ∈ done, SourceSet.has w.monitorStart.fatal x.source = false) ∨ w.jmc.mode = .flash ∨ w.jmc.mode = .dark →
    { s with cmon := w.cmon, lnk := w.lnk } = w
  forced : (∃ x ∈ done, SourceSet.has w.monitorStart.fatal x.source = true) → ¬ (w.jmc.mode = .flash ∨ w.jmc.mode = .dark) →
    s.jmc = { w.jmc with mode := .flash, phase := none, darkCause := none, timer := 0, firstRunning := false }
  reports : ∃ l : List ReportBody, s.lnk = (l.foldl State.report w).lnk

namespace Occurred

variable {w s : State} {done : List Cond}

theorem start (w : State) : Occurred w [] w where
  store := ⟨rfl, rfl, rfl, rfl, rfl⟩
  window := rfl
  integrity := rfl
  compareTimer := rfl
  sensed _ := rfl
  activeSlot := rfl
  latched f := by simp
  first := by simp
  lockout := by simp
  calm _ := rfl
  forced h := by simp at h
  reports := ⟨[], rfl⟩

theorem fatal (h : Occurred w done s) : s.monitorStart = w.monitorStart := by
  rw [State.monitorStart, State.monitorStart, h.store.1]

theorem condGroups (h : Occurred w done s) (x : Cond) : condGroups s x = condGroups w x := by
  cases x with
  | intergreenShort g =>
    have hg : (s.mon g).source = (w.mon g).source := by rw [← h.sensed g]
    simp only [Machine.condGroups, hg]
  | _ => rfl

/-- The junction is in FLASH or DARK once a fatal condition has occurred, and otherwise in the mode it was in. -/
theorem jmc (h : Occurred w done s) : s.jmc = w.jmc ∨ s.jmc.mode = .flash := by
  by_cases hc : (∀ x ∈ done, SourceSet.has w.monitorStart.fatal x.source = false) ∨ w.jmc.mode = .flash ∨ w.jmc.mode = .dark
  · refine .inl ?_
    have := h.calm hc
    rw [← this]
  · obtain ⟨hf, hm⟩ := not_or.mp hc
    simp only [not_forall, Bool.not_eq_false] at hf
    obtain ⟨x, hx, hf⟩ := hf
    exact .inr (by rw [h.forced ⟨x, hx, hf⟩ hm])

/-- The state with the fault record as an occurrence leaves it, and its report sent. -/
def noted (s : State) (x : Cond) : State :=
  let fatal := SourceSet.has s.monitorStart.fatal x.source
  let locks := fatal && s.cmon.window > 0 && !s.cmon.lockout
  (s.onCmon fun c => c.note x.source (Machine.condGroups s x) (fatal && s.cmon.first.isNone) locks s.time).report
    (.fault x.source (Machine.condGroups s x) fatal (if fatal && s.jmc.mode ≠ .flash then .flashForced else .latched)
      (fatal && s.cmon.first.isNone) locks)

theorem occur_eq (s : State) (x : Cond) : occur s x =
    if SourceSet.has s.monitorStart.fatal x.source = true then forceFlash (noted s x) else noted s x := rfl

theorem step (h : Occurred w done s) (x : Cond) : Occurred w (done ++ [x]) (occur s x) := by
  have hfatal := h.fatal
  have hgroups := h.condGroups x
  obtain ⟨v, hv⟩ : ∃ v, v = noted s x := ⟨_, rfl⟩
  have hu : occur s x = if SourceSet.has w.monitorStart.fatal x.source = true then forceFlash v else v := by
    rw [occur_eq, hfatal, hv]
  have hord : Ordered v (occur s x) := hu ▸ Ordered.ite (.refl v) (fun _ => (Ordered.refl v).forceFlash) fun _ => .refl v
  have hsame : { v with cmon := s.cmon, lnk := s.lnk } = s := by rw [hv]; rfl
  have hvmode : v.jmc = s.jmc := by rw [hv]; rfl
  obtain ⟨hpts, hdti, htime, hpins, hpending⟩ := h.store
  obtain ⟨opts, odti, otime, opins, opending⟩ := hord.store
  obtain ⟨ofirst, olatched, olockout, owindow, -, ointegrity, ocompare⟩ := hord.recorded
  have hcalm (hn : (∀ y ∈ done ++ [x], SourceSet.has w.monitorStart.fatal y.source = false)
      ∨ w.jmc.mode = .flash ∨ w.jmc.mode = .dark) : { occur s x with cmon := w.cmon, lnk := w.lnk } = w := by
    have hs := h.calm (hn.imp_left fun hy y hm => hy y (List.mem_append_left _ hm))
    have hsj : s.jmc = w.jmc := by rw [← hs]
    have hov : occur s x = v := by
      rw [hu]
      split
      · next hx =>
        refine forceFlash_of_halted v ?_
        rw [hvmode, hsj]
        exact hn.resolve_left fun hy => Bool.noConfusion ((hy x (by simp)).symm.trans hx)
      · rfl
    rw [hov, ← hs, ← hsame]
  refine ⟨⟨?_, ?_, ?_, ?_, ?_⟩, ?_, ?_, ?_, fun g => ?_, ?_, fun f => ?_, ?_, ?_, hcalm, fun hf hm => ?_, ?_⟩
  · rw [opts, hv]; exact hpts
  · rw [odti, hv]; exact hdti
  · rw [otime, hv]; exact htime
  · rw [opins, hv]; exact hpins
  · rw [opending, hv]; exact hpending
  · rw [owindow, hv]; exact h.window
  · rw [ointegrity, hv]; exact h.integrity
  · rw [ocompare, hv]; exact h.compareTimer
  · have hg : v.mon g = s.mon g := by rw [hv]; rfl
    rw [← h.sensed g, ← hg, ← hord.sensed g]
  · have hslot : (occur s x).seq.activeSlot = v.seq.activeSlot := by
      rw [hu]
      split
      · exact forceFlash_activeSlot
      · rfl
    rw [hslot, hv]
    exact h.activeSlot
  · have hadd : v.cmon.latched = SourceSet.add s.cmon.latched x.source := by rw [hv]; rfl
    rw [olatched, hadd, SourceSet.has_add, Bool.or_eq_true, h.latched f, decide_eq_true_iff]
    simp [or_assoc, or_and_right, exists_or]
  · have hfirst : v.cmon.first = if (SourceSet.has w.monitorStart.fatal x.source && s.cmon.first.isNone) = true then
        some { source := x.source, groups := Machine.condGroups w x, time := w.time } else s.cmon.first := by
      rw [hv, ← hfatal, ← hgroups, ← htime]
      rfl
    rw [ofirst, hfirst, h.first, List.find?_append]
    generalize w.cmon.first = a
    generalize List.find? _ done = b
    cases a <;> cases b <;> cases hx : SourceSet.has w.monitorStart.fatal x.source <;> simp [hx]
  · have hlock : v.cmon.lockout = (s.cmon.lockout || (SourceSet.has w.monitorStart.fatal x.source
        && decide (w.cmon.window > 0) && !s.cmon.lockout)) := by
      rw [hv, ← hfatal, ← h.window]
      rfl
    rw [olockout, hlock]
    have hs := h.lockout
    cases hl : s.cmon.lockout
    · rw [hl] at hs
      simp only [Bool.false_eq_true, false_iff, not_or, not_and] at hs
      obtain ⟨hwl, hwin⟩ := hs
      simp only [Bool.false_or, Bool.not_false, Bool.and_true, Bool.and_eq_true, decide_eq_true_iff, gt_iff_lt, hwl,
        Bool.false_eq_true, false_or, List.mem_append, List.mem_singleton]
      refine ⟨fun ⟨hf, hp⟩ => ⟨hp, x, .inr rfl, hf⟩, fun ⟨hp, y, hy, hf⟩ => ?_⟩
      obtain hy | rfl := hy
      · exact absurd ⟨y, hy, hf⟩ (hwin hp)
      · exact ⟨hf, hp⟩
    · rw [hl] at hs
      simp only [Bool.true_or, true_iff]
      exact (hs.mp rfl).imp_right fun ⟨hp, y, hy, hf⟩ => ⟨hp, y, List.mem_append_left _ hy, hf⟩
  · by_cases hb : s.jmc.mode = .flash ∨ s.jmc.mode = .dark
    · have hsf : s.jmc = { w.jmc with mode := .flash, phase := none, darkCause := none, timer := 0, firstRunning := false } := by
        refine h.forced ?_ hm
        by_contra hno
        have hsw := h.calm (.inl fun y hy => by
          by_contra hfy
          exact hno ⟨y, hy, by simpa using hfy⟩)
        rw [← hsw] at hm
        exact hm hb
      have hov : occur s x = v := by
        rw [hu]
        split
        · exact forceFlash_of_halted v (hvmode ▸ hb)
        · rfl
      rw [hov, hvmode, hsf]
    · have hsw : s.jmc = w.jmc := h.jmc.resolve_right fun hf => hb (.inl hf)
      have hx : SourceSet.has w.monitorStart.fatal x.source = true := by
        obtain ⟨y, hy, hf⟩ := hf
        obtain hy | hy := List.mem_append.mp hy
        · have hdone := h.forced ⟨y, hy, hf⟩ hm
          exact absurd (.inl (by rw [hdone])) hb
        · obtain rfl := List.mem_singleton.mp hy
          exact hf
      rw [hu, if_pos hx, forceFlash_jmc (hvmode ▸ hb), hvmode, hsw]
  · have hvr : ∃ l : List ReportBody, v.lnk = (l.foldl State.report s).lnk := ⟨[_], by rw [hv]; rfl⟩
    have hvt : v.time = s.time := by rw [hv]; rfl
    exact reports_trans htime h.reports (reports_trans hvt hvr hord.reports)

theorem foldl (h : Occurred w done s) (l : List Cond) : Occurred w (done ++ l) (l.foldl occur s) := by
  induction l generalizing s done with
  | nil => simpa using h
  | cons x l ih => simpa using ih (h.step x)

end Occurred

end Sys2Proof.Machine
end

section
namespace Sys2Proof.Machine

variable {s : State}

/-! ### CMON's look (R167, R169, R170) -/

theorem mem_newConds {x : Cond} : x ∈ newConds s ↔ x ∈ allConds ∧ s.condCounts x = true ∧ x ∉ s.cmon.counted := by
  simp [newConds]

theorem condPresent_conflictGo (s : State) (g h : GroupId) : s.condPresent (.conflictGo g h) = (s.jmc.mode ≠ .dark
    && (s.present g && s.present h && GroupSet.has (s.conflicts g) h && (s.mon g).go && (s.mon h).go)) := rfl
theorem condPresent_intergreenShort (s : State) (g : GroupId) : s.condPresent (.intergreenShort g) = (s.jmc.mode ≠ .dark
    && (s.present g && (s.mon g).go && (s.mon g).scr > s.monitorStart.mtol)) := rfl
theorem condPresent_goMismatch (s : State) (g : GroupId) : s.condPresent (.goMismatch g) = (s.jmc.mode ≠ .dark
    && (s.present g && (s.mon g).goTimer > s.monitorStart.mtol)) := rfl
theorem condPresent_aspectMismatch (s : State) (g : GroupId) : s.condPresent (.aspectMismatch g) = (s.jmc.mode ≠ .dark
    && (s.present g && (s.mon g).aspectTimer > s.monitorStart.mtol)) := rfl
theorem condPresent_redOut (s : State) (g : GroupId) : s.condPresent (.redOut g) = (s.jmc.mode ≠ .dark
    && (s.present g && (s.mon g).redTimer > s.monitorStart.mtol)) := rfl
theorem condPresent_senseSilent (s : State) (g : GroupId) : s.condPresent (.senseSilent g) = (s.jmc.mode ≠ .dark
    && (s.present g && (s.mon g).silence ≥ Config.senseSilence)) := rfl

/-- The conditions read whether the junction is dark, the tables, and CMON's records of the groups. -/
theorem condPresent_congr_of_dark {t : State} (hdark : t.jmc.mode = .dark ↔ s.jmc.mode = .dark) (ht : t.pts.tables = s.pts.tables) (hr : t.cmon.recs = s.cmon.recs)
    (hi : t.cmon.integrity = s.cmon.integrity) (x : Cond) : t.condPresent x = s.condPresent x := by
  have hj : decide (t.jmc.mode ≠ .dark) = decide (s.jmc.mode ≠ .dark) := by simp only [ne_eq, hdark]
  have hmon (g : GroupId) : t.mon g = s.mon g := by rw [State.mon, State.mon, hr]
  have hstart : t.monitorStart = s.monitorStart := by rw [State.monitorStart, State.monitorStart, ht]
  have hpres (g : GroupId) : t.present g = s.present g := present_of_tables ht g
  cases x with
  | tableIntegrity => exact hi
  | conflictGo g h => rw [condPresent_conflictGo, condPresent_conflictGo, hj, hmon, hmon, hpres, hpres, conflicts_of_tables ht g]
  | intergreenShort g => rw [condPresent_intergreenShort, condPresent_intergreenShort, hj, hmon, hpres, hstart]
  | goMismatch g => rw [condPresent_goMismatch, condPresent_goMismatch, hj, hmon, hpres, hstart]
  | aspectMismatch g => rw [condPresent_aspectMismatch, condPresent_aspectMismatch, hj, hmon, hpres, hstart]
  | redOut g => rw [condPresent_redOut, condPresent_redOut, hj, hmon, hpres, hstart]
  | senseSilent g => rw [condPresent_senseSilent, condPresent_senseSilent, hj, hmon, hpres]

theorem condPresent_congr {t : State} (hj : t.jmc.mode = s.jmc.mode) (ht : t.pts.tables = s.pts.tables) (hr : t.cmon.recs = s.cmon.recs)
    (hi : t.cmon.integrity = s.cmon.integrity) (x : Cond) : t.condPresent x = s.condPresent x :=
  condPresent_congr_of_dark (by rw [hj]) ht hr hi x

theorem condCounts_congr {t : State} (hj : t.jmc.mode = s.jmc.mode) (ht : t.pts.tables = s.pts.tables) (hr : t.cmon.recs = s.cmon.recs)
    (hi : t.cmon.integrity = s.cmon.integrity) (x : Cond) : t.condCounts x = s.condCounts x := by
  rw [State.condCounts, State.condCounts, condPresent_congr hj ht hr hi, hj]

/-- A comparison ended early writes the condition, its timer, and what CMON has counted. -/
theorem comparedIfDue_eq (s : State) : ∃ i c k d, comparedIfDue s = s.onCmon fun m =>
    { m with integrity := i, compareTimer := c, counted := k, dropTimer := d } := by
  unfold comparedIfDue
  split
  · exact ⟨_, _, _, _, rfl⟩
  · exact ⟨_, _, _, _, rfl⟩

theorem comparedIfDue_idle (h : s.cmon.compareTimer ≠ 0) : comparedIfDue s = s :=
  if_neg (by simp [comparisonDue, h])

/-- What a condition counted as new, with which CMON's look deals. -/
def Found (w : State) (x : Cond) : Prop :=
  x ∈ allConds ∧ (comparedIfDue w).condCounts x = true ∧ x ∉ (comparedIfDue w).cmon.counted

/-- A condition other than that of the tables is found where it counts before the look. -/
theorem found_of_counts {x : Cond} (hx : x ∈ allConds) (hc : s.condCounts x = true) (hn : x ∉ s.cmon.counted)
    (ht : x ≠ .tableIntegrity) : Found s x := by
  unfold Found comparedIfDue
  split
  · have hcounts : (finishComparison s).condCounts x = s.condCounts x := by
      cases x with
      | tableIntegrity => exact absurd rfl ht
      | _ => rfl
    exact ⟨hx, hcounts.trans hc, fun hm => hn (List.mem_filter.mp hm).1⟩
  · exact ⟨hx, hc, hn⟩

theorem evaluate_of_none (h : ∀ x ∈ allConds, ¬ (s.condCounts x = true ∧ x ∉ s.cmon.counted)) : evaluate s = s := by
  refine if_pos (List.isEmpty_iff.mpr (List.eq_nil_iff_forall_not_mem.mpr fun x hx => ?_))
  obtain ⟨hall, hnew⟩ := mem_newConds.mp hx
  exact h x hall hnew

/-- What a look does with the conditions it finds: they occur in some order, and are counted while they stand. -/
theorem evaluate_found (h : ∃ x ∈ allConds, s.condCounts x = true ∧ x ∉ s.cmon.counted) : ∃ l k z,
    (∀ x, x ∈ l ↔ Found s x) ∧ Occurred { comparedIfDue s with tie := k } l z
      ∧ evaluate s = z.onCmon fun c => { c with counted := (c.counted ++ newConds (comparedIfDue s)).filter z.condCounts } := by
  have hne : ¬ (newConds s).isEmpty = true := by
    obtain ⟨x, hx⟩ := h
    exact fun he => List.not_mem_nil (List.isEmpty_iff.mp he ▸ mem_newConds.mpr hx)
  have hperm := arrange_perm (newConds (comparedIfDue s)).length (comparedIfDue s).tie (newConds (comparedIfDue s))
  refine ⟨_, _, _, fun x => ?_, ((Occurred.start { comparedIfDue s with
    tie := (comparedIfDue s).tie + (newConds (comparedIfDue s)).length }).foldl
    (arrange (newConds (comparedIfDue s)).length (comparedIfDue s).tie (newConds (comparedIfDue s)))), if_neg hne⟩
  rw [List.nil_append, hperm.mem_iff, mem_newConds]
  rfl

/-- What a look leaves, as section 8.4 has it. -/
def Looked (w u : State) : Prop :=
  (∀ x, Found w x → SourceSet.has u.cmon.latched x.source = true ∧ (u.condCounts x = true → x ∈ u.cmon.counted))
  ∧ (∀ f, SourceSet.has w.cmon.latched f = true → SourceSet.has u.cmon.latched f = true)
  ∧ ((∃ x, Found w x ∧ SourceSet.has w.monitorStart.fatal x.source = true) →
    (w.cmon.first.isSome = true → u.cmon.first = w.cmon.first)
    ∧ (w.cmon.first = none → ∃ x, Found w x ∧ SourceSet.has w.monitorStart.fatal x.source = true
        ∧ u.cmon.first = some { source := x.source, groups := condGroups w x, time := w.time })
    ∧ (0 < w.cmon.window → u.cmon.lockout = true) ∧ u.jmc.mode = .flash)
  ∧ ((∀ x, Found w x → SourceSet.has w.monitorStart.fatal x.source = false) →
    u.cmon.first = w.cmon.first ∧ u.cmon.lockout = w.cmon.lockout ∧ u.jmc = w.jmc ∧ u.sge = w.sge)

/-- What a look keeps: the store, the detectors, the time, the straps, the waiting commands and the active slot; in FLASH and DARK, and
where it finds nothing fatal, it writes CMON's record and the link's queues alone, and elsewhere the junction is then in FLASH. -/
structure LookKeeps (w u : State) : Prop where
  store : u.pts = w.pts ∧ u.dti = w.dti ∧ u.time = w.time ∧ u.pins = w.pins ∧ u.pending = w.pending
  activeSlot : u.seq.activeSlot = w.seq.activeSlot
  halted : w.jmc.mode = .flash ∨ w.jmc.mode = .dark → { u with cmon := w.cmon, lnk := w.lnk, tie := w.tie } = w
  mode : u.jmc = w.jmc ∨ u.jmc.mode = .flash ∧ u.jmc.phase = none ∧ u.cmon.first.isSome = true
  record : ∀ f, SourceSet.has w.cmon.latched f = true → SourceSet.has u.cmon.latched f = true
  lockout : w.cmon.lockout = true → u.cmon.lockout = true
  first : w.cmon.first.isSome = true → u.cmon.first = w.cmon.first
  reports : ∃ l : List ReportBody, u.lnk = (l.foldl State.report w).lnk

theorem LookKeeps.refl (w : State) : LookKeeps w w :=
  ⟨⟨rfl, rfl, rfl, rfl, rfl⟩, rfl, fun _ => rfl, .inl rfl, fun _ h => h, id, fun _ => rfl, [], rfl⟩

theorem Found.mode {w : State} {x : Cond} (h : Found w x) : w.jmc.mode ≠ .dark := by
  obtain ⟨i, c, k, d, hc⟩ := comparedIfDue_eq w
  obtain ⟨-, hcounts, -⟩ := h
  intro hd
  rw [hc, State.condCounts, State.onCmon_jmc, hd] at hcounts
  exact Bool.noConfusion hcounts

section Look

variable {w z : State} {l : List Cond} {k : Nat} (hl : ∀ x, x ∈ l ↔ Found w x)
  (h : Occurred { comparedIfDue w with tie := k } l z)
include hl h

theorem looked_of_occurred :
    Looked w (z.onCmon fun c => { c with counted := (c.counted ++ newConds (comparedIfDue w)).filter z.condCounts }) := by
  obtain ⟨i, c, e, d, hc⟩ := comparedIfDue_eq w
  have hfatal : ({ comparedIfDue w with tie := k } : State).monitorStart = w.monitorStart := by rw [hc]; rfl
  have hgroups (x : Cond) : condGroups { comparedIfDue w with tie := k } x = condGroups w x := by
    rw [hc]
    cases x <;> rfl
  have hlatched := h.latched
  have hfirst := h.first
  have hlock := h.lockout
  have hcalm := h.calm
  have hforced := h.forced
  simp only [hfatal, hgroups] at hfirst hlock hcalm hforced
  rw [hc] at hlatched hfirst hlock hcalm hforced
  refine ⟨fun x hx => ⟨(hlatched _).mpr (.inr ⟨x, (hl x).mpr hx, rfl⟩), fun hcounts => ?_⟩, fun f hf => (hlatched f).mpr (.inl hf),
    fun ⟨x, hx, hf⟩ => ⟨fun hs => ?_, fun hn => ?_, fun hw => ?_, ?_⟩, fun hn => ?_⟩
  · refine List.mem_filter.mpr ⟨List.mem_append_right _ (mem_newConds.mpr hx), ?_⟩
    rw [← hcounts]
    exact (condCounts_congr (s := z) (by rfl) rfl rfl rfl x).symm
  · obtain ⟨f, hs⟩ := Option.isSome_iff_exists.mp hs
    exact hfirst.trans (by simp [hs])
  · obtain ⟨y, hy⟩ := Option.isSome_iff_exists.mp (List.find?_isSome (p := fun x : Cond => SourceSet.has w.monitorStart.fatal x.source).mpr
      ⟨x, (hl x).mpr hx, hf⟩)
    refine ⟨y, (hl y).mp (List.mem_of_find?_eq_some hy),
      List.find?_some (p := fun x : Cond => SourceSet.has w.monitorStart.fatal x.source) hy, hfirst.trans ?_⟩
    simp [hn, hy]
  · exact hlock.mpr (.inr ⟨hw, x, (hl x).mpr hx, hf⟩)
  · by_cases hm : w.jmc.mode = .flash ∨ w.jmc.mode = .dark
    · have hz := hcalm (.inr hm)
      have hzj : z.jmc = w.jmc := (congrArg State.jmc hz :)
      rw [State.onCmon_jmc, hzj]
      exact hm.resolve_right hx.mode
    · exact congrArg Jmc.mode (hforced ⟨x, (hl x).mpr hx, hf⟩ hm)
  · have hz := hcalm (.inl fun x hx => hn x ((hl x).mp hx))
    have hnone : (l.find? fun x => SourceSet.has w.monitorStart.fatal x.source) = none :=
      List.find?_eq_none.mpr fun x hx => by simp [hn x ((hl x).mp hx)]
    refine ⟨hfirst.trans (by simp [hnone]), Bool.eq_iff_iff.mpr (hlock.trans ⟨fun hx => ?_, .inl⟩), (congrArg State.jmc hz :),
      (congrArg State.sge hz :)⟩
    exact hx.resolve_right fun ⟨_, x, hx, hf⟩ => Bool.noConfusion ((hn x ((hl x).mp hx)).symm.trans hf)

theorem lookKeeps_of_occurred :
    LookKeeps w (z.onCmon fun c => { c with counted := (c.counted ++ newConds (comparedIfDue w)).filter z.condCounts }) := by
  have hlooked := looked_of_occurred hl h
  obtain ⟨i, c, e, d, hc⟩ := comparedIfDue_eq w
  obtain ⟨hpts, hdti, htime, hpins, hpending⟩ := h.store
  have hslot := h.activeSlot
  have hcalm := h.calm
  have hforced := h.forced
  have hlock := h.lockout
  obtain ⟨m, hm⟩ := h.reports
  rw [hc] at hpts hdti htime hpins hpending hslot hcalm hforced hlock hm
  have hkeep (hx : (∀ x ∈ l, SourceSet.has w.monitorStart.fatal x.source = false) ∨ w.jmc.mode = .flash ∨ w.jmc.mode = .dark) :
      { z with cmon := w.cmon, lnk := w.lnk, tie := w.tie } = w := by
    have hz := hcalm hx
    calc { z with cmon := w.cmon, lnk := w.lnk, tie := w.tie }
      _ = { ({ z with cmon := (w.onCmon fun m => { m with integrity := i, compareTimer := c, counted := e, dropTimer := d }).cmon,
                      lnk := w.lnk } : State) with cmon := w.cmon, tie := w.tie } := rfl
      _ = w := (congrArg (fun t : State => { t with cmon := w.cmon, tie := w.tie }) hz).trans rfl
  refine ⟨⟨hpts, hdti, htime, hpins, hpending⟩, hslot, fun hh => hkeep (.inr hh), ?_, hlooked.2.1, fun hw => hlock.mpr (.inl hw),
    fun hw => ?_, m, hm.trans (foldl_report_lnk_congr m rfl rfl)⟩
  rotate_left
  · obtain ⟨f, hf⟩ := Option.isSome_iff_exists.mp hw
    exact h.first.trans (by rw [hc, State.onCmon_cmon, hf]; rfl)
  by_cases hx : (∀ x ∈ l, SourceSet.has w.monitorStart.fatal x.source = false) ∨ w.jmc.mode = .flash ∨ w.jmc.mode = .dark
  · exact .inl (congrArg State.jmc (hkeep hx) :)
  · obtain ⟨hf, hm⟩ := not_or.mp hx
    simp only [not_forall, Bool.not_eq_false] at hf
    obtain ⟨x, hx, hf⟩ := hf
    have hj := hforced ⟨x, hx, hf⟩ hm
    refine .inr ⟨congrArg Jmc.mode hj, congrArg Jmc.phase hj, ?_⟩
    obtain ⟨hsome, hnone, -⟩ := hlooked.2.2.1 ⟨x, (hl x).mp hx, hf⟩
    cases hwf : w.cmon.first with
    | none =>
      obtain ⟨y, -, -, hy⟩ := hnone hwf
      rw [hy]
      rfl
    | some f => rw [hsome (by rw [hwf]; rfl), hwf]; rfl

end Look

theorem evaluate_looked (h : ∃ x ∈ allConds, s.condCounts x = true ∧ x ∉ s.cmon.counted) : Looked s (evaluate s) := by
  obtain ⟨l, k, z, hl, hz, he⟩ := evaluate_found h
  exact he ▸ looked_of_occurred hl hz

theorem evaluate_keeps (s : State) : LookKeeps s (evaluate s) := by
  by_cases h : ∃ x ∈ allConds, s.condCounts x = true ∧ x ∉ s.cmon.counted
  · obtain ⟨l, k, z, hl, hz, he⟩ := evaluate_found h
    exact he ▸ lookKeeps_of_occurred hl hz
  · rw [evaluate_of_none fun x hx hc => h ⟨x, hx, hc⟩]
    exact .refl s

end Sys2Proof.Machine
end

section
namespace Sys2Proof.Machine

variable {s : State}

/-! ### When a source is checked, and when a condition is present (R162 to R167) -/

theorem checked_iff {f : FaultSource} {m : Mode} : f.checked m = true ↔
    (m ≠ .dark ∧ m ≠ .flash) ∨ (m = .flash ∧ (f = .goMismatch ∨ f = .senseSilent)) := by
  cases m <;> simp [FaultSource.checked]

theorem condCounts_iff {x : Cond} : s.condCounts x = true ↔
    ((s.jmc.mode ≠ .dark ∧ s.jmc.mode ≠ .flash) ∨ (s.jmc.mode = .flash ∧ (x.source = .goMismatch ∨ x.source = .senseSilent)))
      ∧ s.condPresent x = true := by
  rw [State.condCounts, Bool.and_eq_true, checked_iff]

theorem condPresent_begun (s : State) (x : Cond) : s.begun.condPresent x = s.condPresent x :=
  condPresent_congr (s := s) (t := s.begun) rfl rfl rfl rfl x

theorem condCounts_begun (s : State) (x : Cond) : s.begun.condCounts x = s.condCounts x := condCounts_congr rfl rfl rfl rfl x

theorem evaluateIf_of_none {l : List Cond} (h : ∀ x ∈ l, ¬ (s.condCounts x = true ∧ x ∉ s.cmon.counted)) :
    evaluateIf l s = s :=
  if_neg fun ho => by
    obtain ⟨x, hx, hc⟩ := occursAmong_iff.mp ho
    exact h x hx hc

theorem evaluateIf_of_some {l : List Cond} (h : ∃ x ∈ l, s.condCounts x = true ∧ x ∉ s.cmon.counted) :
    evaluateIf l s = evaluate s := if_pos (occursAmong_iff.mpr h)

/-- The timers' events of CMON make a look when one of their conditions counts and has not occurred. -/
theorem evaluateIf_looked {l : List Cond} (hall : ∀ x ∈ l, x ∈ allConds ∧ x ≠ .tableIntegrity)
    (h : ∃ x ∈ l, s.condCounts x = true ∧ x ∉ s.cmon.counted) :
    Looked s (evaluateIf l s) ∧ ∀ x ∈ l, s.condCounts x = true ∧ x ∉ s.cmon.counted →
      SourceSet.has (evaluateIf l s).cmon.latched x.source = true := by
  rw [evaluateIf_of_some h]
  obtain ⟨x, hx, hc⟩ := h
  have hlook := evaluate_looked ⟨x, (hall x hx).1, hc⟩
  exact ⟨hlook, fun y hy ⟨hcy, hny⟩ => (hlook.1 y (found_of_counts (hall y hy).1 hcy hny (hall y hy).2)).1⟩

theorem mismatchConds_counted {g : GroupId} {x : Cond} (h : x ∈ mismatchConds g) : x ∈ allConds ∧ x ≠ .tableIntegrity := by
  obtain rfl | rfl | rfl := mem_mismatchConds.mp h
  · exact ⟨mem_allConds.mpr nofun, nofun⟩
  · exact ⟨mem_allConds.mpr nofun, nofun⟩
  · exact ⟨mem_allConds.mpr nofun, nofun⟩

/-- Settles O58. -/
theorem mismatchAndSilenceOccurOnce : Obligations.MismatchAndSilenceOccurOnce := by
  intro s g counts looked occurs
  have event (i : Instr) (l : List Cond) (hexec : exec i s = .next (settle Config.reactionBound (evaluateIf l s.begun)))
      (hall : ∀ x ∈ l, x ∈ allConds ∧ x ≠ .tableIntegrity) : occurs i l := by
    refine ⟨fun hn => ?_, fun ⟨x, hx, hc⟩ => ⟨_, hexec, ?_⟩⟩
    · refine exec_congr hexec (evaluateIf_of_none fun x hx hc => hn x hx ?_)
      rwa [condCounts_begun] at hc
    · obtain ⟨hlook, hrec⟩ := evaluateIf_looked (s := s.begun) hall ⟨x, hx, by rwa [condCounts_begun]⟩
      exact ⟨hlook, fun y hy hcy => hrec y hy (by rwa [condCounts_begun])⟩
  refine ⟨event _ _ rfl fun x => mismatchConds_counted (g := g), event _ _ rfl fun x hx => ?_, fun hn => evaluate_of_none hn,
    fun h => evaluate_looked h, fun x => condCounts_iff, ?_, ?_, ?_, ?_, ?_, ?_, Iff.rfl, ?_, ?_, ?_, fun x => mem_allConds⟩
  · obtain rfl := List.mem_singleton.mp hx
    exact ⟨mem_allConds.mpr nofun, nofun⟩
  · intro h
    simp [condPresent_conflictGo, and_assoc]
  · simp [condPresent_intergreenShort, and_assoc]
  · simp [condPresent_goMismatch, and_assoc]
  · simp [condPresent_aspectMismatch, and_assoc]
  · simp [condPresent_redOut, and_assoc]
  · simp [condPresent_senseSilent, and_assoc, Config.senseSilence]
  · simp [State.goDiffers]
  · simp [State.aspectDiffers, or_assoc]
  · simp [State.redOutDiffers, and_assoc]

/-! ### The comparison of the tables (R165) -/

theorem comparisonDue_iff : comparisonDue s = true ↔ s.pts.tables.isSome = true ∧ s.cmon.compareTimer = 0 := by
  simp [comparisonDue]

theorem finishComparison_cmon {x : Tables} {y : StoredTables} (hx : s.pts.tables = some x)
    (hy : s.pts.areas[s.pts.currentArea] = some y) : (finishComparison s).cmon.compareTimer = 50
      ∧ (finishComparison s).cmon.integrity = decide (tablesCheck x ≠ y.check) := by
  have hfails : comparisonFails s = decide (tablesCheck x ≠ y.check) := by simp only [comparisonFails, hx, hy]
  exact ⟨rfl, hfails⟩

/-- A look with a comparison under way leaves it so. -/
theorem evaluate_comparison (h : s.cmon.compareTimer ≠ 0) :
    (evaluate s).cmon.integrity = s.cmon.integrity ∧ (evaluate s).cmon.compareTimer = s.cmon.compareTimer := by
  by_cases hf : ∃ x ∈ allConds, s.condCounts x = true ∧ x ∉ s.cmon.counted
  · obtain ⟨l, k, z, -, hz, he⟩ := evaluate_found hf
    have hi := hz.integrity
    have hc := hz.compareTimer
    rw [comparedIfDue_idle h] at hi hc
    rw [he]
    exact ⟨hi, hc⟩
  · rw [evaluate_of_none fun x hx hc => hf ⟨x, hx, hc⟩]
    exact ⟨rfl, rfl⟩

theorem evaluateIf_cases (l : List Cond) (s : State) : evaluateIf l s = evaluate s ∨ evaluateIf l s = s := by
  unfold evaluateIf
  split
  · exact .inl rfl
  · exact .inr rfl

/-- Settles O59. -/
theorem comparisonAndShadowEnd : Obligations.ComparisonAndShadowEnd := by
  intro s
  refine ⟨fun x y hx hy ht => ?_, fun hn => ?_, fun g => ⟨dropEnded s.begun, rfl, fun c => ?_, rfl, rfl, rfl, fun ⟨h, hh⟩ => ?_,
    fun hno => ?_, rfl, rfl, rfl⟩⟩
  · refine ⟨completeComparison s.begun, congrArg Host.Outcome.next (perform_due (due := fun s => comparisonDue s)
      (comparisonDue_iff.mpr ⟨by rw [State.begun_pts, hx]; rfl, ht⟩)), ?_⟩
    obtain ⟨htimer, hintegrity⟩ := finishComparison_cmon (s := s.begun) hx hy
    have hkeeps : (finishComparison s.begun).pts = s.pts ∧ (finishComparison s.begun).jmc = s.jmc
        ∧ (finishComparison s.begun).cmon.latched = s.cmon.latched := ⟨rfl, rfl, rfl⟩
    rw [completeComparison]
    generalize finishComparison s.begun = v at htimer hintegrity hkeeps
    obtain ⟨hpts, hjmc, hlatched⟩ := hkeeps
    have hcmp : (evaluateIf [.tableIntegrity] v).cmon.integrity = v.cmon.integrity
        ∧ (evaluateIf [.tableIntegrity] v).cmon.compareTimer = v.cmon.compareTimer := by
      obtain h | h := evaluateIf_cases [.tableIntegrity] v
      · rw [h]
        exact evaluate_comparison (by omega)
      · rw [h]
        exact ⟨rfl, rfl⟩
    have htables : (evaluateIf [.tableIntegrity] v).pts = v.pts := by
      obtain h | h := evaluateIf_cases [.tableIntegrity] v
      · rw [h]
        exact (evaluate_keeps v).store.1
      · rw [h]
    refine ⟨hcmp.2.trans htimer, hcmp.1.trans hintegrity, by rw [htables, hpts], fun heq => ?_⟩
    have hsound : v.cmon.integrity = false := hintegrity.trans (decide_eq_false fun h => h heq)
    have hnone : evaluateIf [.tableIntegrity] v = v := evaluateIf_of_none fun c hc ⟨hcounts, _⟩ => by
      obtain rfl := List.mem_singleton.mp hc
      have hpresent : v.condPresent .tableIntegrity = v.cmon.integrity := rfl
      rw [condCounts_iff, hpresent, hsound] at hcounts
      exact Bool.noConfusion hcounts.2
    rw [hnone]
    exact ⟨hjmc, hlatched⟩
  · refine congrArg Host.Outcome.next (perform_notDue (due := fun s => comparisonDue s) fun hd => ?_)
    obtain ⟨hsome, hzero⟩ := comparisonDue_iff.mp hd
    obtain hn | hn := hn
    · rw [State.begun_pts, hn] at hsome
      exact Bool.noConfusion hsome
    · exact hn hzero
  · have hc : (dropEnded s.begun).cmon.counted = s.cmon.counted.filter s.begun.condPresent := rfl
    rw [hc, List.mem_filter, condPresent_begun]
  · have hp : s.begun.goMismatchPresent = true :=
      goMismatchPresent_iff.mpr ⟨h, by rw [condPresent_begun]; exact hh⟩
    exact if_pos hp
  · refine if_neg fun hp => ?_
    obtain ⟨h, hh⟩ := goMismatchPresent_iff.mp hp
    rw [condPresent_begun, hno h] at hh
    exact Bool.noConfusion hh

end Sys2Proof.Machine
end

section
namespace Sys2Proof.Machine

variable {s t : State} {g h : GroupId} {o : Option Override}

/-! ### Commands to one group, and to the groups of a transition (R7, R11, R81) -/

theorem sameOutsideGroups_closeCommand (g : GroupId) (s : State) : SameOutsideGroups s (closeCommand g s) := by
  refine SameOutsideGroups.ite (fun _ => rfl) fun hp => ?_
  split
  · rfl
  · rfl
  · dsimp only
    split
    · rfl
    · split
      · exact sameOutsideGroups_leaveOpen g s
      · rw [minComplete_eq]
        have hdone : SameOutsideGroups s (minCompleted g (s.onGrp g fun r => { r with closePending := true })) := rfl
        exact SameOutsideGroups.ite (fun _ => hdone.trans (sameOutsideGroups_leaveOpen g _)) fun _ => hdone
  · rfl
  · rfl
  · rfl

theorem sameOutsideGroups_openCommand (g : GroupId) (o : Option Override) (s : State) :
    SameOutsideGroups s (openCommand g o s) := by
  refine SameOutsideGroups.ite (fun _ => rfl) fun hp => ?_
  split
  · rfl
  · rfl
  · have hset : SameOutsideGroups s (s.onGrp g fun r => { r with openPending := true, override := o }) := rfl
    exact hset.trans (admitting_admitWaiting _).outside
  · rfl
  · rfl
  · rfl

/-- A close command to one group raises at most the clearance of another. -/
theorem closeCommand_other (hg : h ≠ g) (s : State) : (s.grp h).Raised ((closeCommand g s).grp h) := by
  have hon (f : GroupRec → GroupRec) : (s.grp h).Raised ((s.onGrp g f).grp h) := by
    rw [State.grp_onGrp_ne s (Ne.symm hg)]
    exact .refl _
  unfold closeCommand
  split
  · exact .refl _
  · split
    · exact .refl _
    · exact .refl _
    · dsimp only
      split
      · exact hon _
      · split
        · exact (leaveOpen_other hg s).1
        · refine (hon fun r => { r with closePending := true }).trans ?_
          rw [minComplete_eq, if_pos (by rw [State.grp_onGrp_self]), ← minCompleted_grp_ne hg]
          exact (leaveOpen_other hg _).1
    · exact hon _
    · exact hon _
    · exact hon _

/-- An open command to one group raises at most the clearance of another that is not CLOSED. -/
theorem openCommand_other (hg : h ≠ g) (hc : (s.grp h).state ≠ .closed) : (s.grp h).Raised ((openCommand g o s).grp h) := by
  have hon (f : GroupRec → GroupRec) : (s.onGrp g f).grp h = s.grp h := State.grp_onGrp_ne s (Ne.symm hg) f
  unfold openCommand
  split
  · exact .refl _
  · split
    · exact .refl _
    · exact .refl _
    · generalize hv : (s.onGrp g fun r => { r with openPending := true, override := o }) = v
      have hvh : v.grp h = s.grp h := by rw [← hv, hon]
      obtain hr | ⟨ha, -⟩ := (admitting_admitWaiting v).raised h
      · rwa [hvh] at hr
      · obtain ⟨-, hst, -⟩ := canAdmit_iff.mp ha
        rw [hvh] at hst
        exact absurd hst hc
    · rw [hon]
      exact .refl _
    · rw [hon]
      exact .refl _
    · rw [hon]
      exact .refl _

/-- The close commands of a transition. -/
def closing (l : List GroupId) (s : State) : State := l.foldl (fun s g => closeCommand g s) s

/-- The open commands of a transition. -/
def opening (o : Option Override) (l : List GroupId) (s : State) : State := l.foldl (fun s g => openCommand g o s) s

theorem closing_cons (g : GroupId) (l : List GroupId) (s : State) : closing (g :: l) s = closing l (closeCommand g s) := rfl

theorem opening_cons (o : Option Override) (g : GroupId) (l : List GroupId) (s : State) :
    opening o (g :: l) s = opening o l (openCommand g o s) := rfl

theorem closing_append (l m : List GroupId) (s : State) : closing (l ++ m) s = closing m (closing l s) := List.foldl_append

theorem opening_append (o : Option Override) (l m : List GroupId) (s : State) :
    opening o (l ++ m) s = opening o m (opening o l s) := List.foldl_append

theorem sameOutsideGroups_closing (l : List GroupId) (s : State) : SameOutsideGroups s (closing l s) :=
  SameOutsideGroups.foldl _ (fun s g => sameOutsideGroups_closeCommand g s) l s

theorem sameOutsideGroups_opening (o : Option Override) (l : List GroupId) (s : State) : SameOutsideGroups s (opening o l s) :=
  SameOutsideGroups.foldl _ (fun s g => sameOutsideGroups_openCommand g o s) l s

theorem closing_other {l : List GroupId} (hl : h ∉ l) (s : State) : (s.grp h).Raised ((closing l s).grp h) := by
  induction l generalizing s with
  | nil => exact .refl _
  | cons g l ih =>
    obtain ⟨hg, hl⟩ := not_or.mp fun e => hl (List.mem_cons.mpr e)
    rw [closing_cons]
    exact (closeCommand_other hg s).trans (ih hl _)

theorem opening_other {l : List GroupId} (hl : h ∉ l) (hc : (s.grp h).state ≠ .closed) :
    (s.grp h).Raised ((opening o l s).grp h) := by
  induction l generalizing s with
  | nil => exact .refl _
  | cons g l ih =>
    obtain ⟨hg, hl⟩ := not_or.mp fun e => hl (List.mem_cons.mpr e)
    have hr := openCommand_other (o := o) hg hc
    rw [opening_cons]
    exact hr.trans (ih hl (hr.reads.1 ▸ hc))

/-- What the close commands make of a group among those given: what its own does, in a state that differs by its clearance. -/
theorem closing_mem {l : List GroupId} (hl : l.Nodup) (hg : g ∈ l) (s : State) :
    ∃ v, SameOutsideGroups s v ∧ (s.grp g).Raised (v.grp g) ∧ ((closeCommand g v).grp g).Raised ((closing l s).grp g) := by
  obtain ⟨l₁, l₂, rfl⟩ := List.append_of_mem hg
  have hn := List.nodup_middle.mp hl
  obtain ⟨h1, h2⟩ := not_or.mp fun e => (List.nodup_cons.mp hn).1 (List.mem_append.mpr e)
  refine ⟨closing l₁ s, sameOutsideGroups_closing l₁ s, closing_other h1 s, ?_⟩
  rw [closing_append, closing_cons]
  exact closing_other h2 _

/-- What the open commands make of a group among those given that is CLOSING. -/
theorem opening_mem {l : List GroupId} (hl : l.Nodup) (hg : g ∈ l) (hp : s.present g = true) (hc : (s.grp g).state = .closing) :
    ((opening o l s).grp g).state = .closing ∧ ((opening o l s).grp g).openPending = true
      ∧ ((opening o l s).grp g).override = o := by
  obtain ⟨l₁, l₂, rfl⟩ := List.append_of_mem hg
  have hn := List.nodup_middle.mp hl
  obtain ⟨h1, h2⟩ := not_or.mp fun e => (List.nodup_cons.mp hn).1 (List.mem_append.mpr e)
  have hbefore := opening_other (o := o) h1 (s := s) (by rw [hc]; nofun)
  have hpv : (opening o l₁ s).present g = true := ((sameOutsideGroups_opening o l₁ s).present g).trans hp
  have hcv : ((opening o l₁ s).grp g).state = .closing := hbefore.reads.1.trans hc
  have hcmd := openCommand_closing (o := o) hpv hcv
  have hrec : (openCommand g o (opening o l₁ s)).grp g = { (opening o l₁ s).grp g with openPending := true, override := o } := by
    rw [hcmd, State.grp_onGrp_self]
  rw [opening_append, opening_cons]
  obtain ⟨c, -, hfinal⟩ := opening_other (o := o) (s := openCommand g o (opening o l₁ s)) h2 (by rw [hrec, hcv]; nofun)
  rw [hfinal, hrec]
  exact ⟨hcv, rfl, rfl⟩

/-! ### The transition to a stage (R81, R82) -/

/-- SEQ's record at the beginning of a transition. -/
def Seq.toStage (t : StageId) (new : GroupSet) (level : Nat) (resumed : Bool) (q : Seq) : Seq :=
  { q with
    current := some t, groups := new, status := some .transition, starting := GroupSet.minus new q.groups, level := level
    knownReady := false, resumed := resumed }

/-- The commands of a transition have been given. -/
def commanded (t : StageId) (level : Nat) (r : Option ResumeRec) (s : State) : State :=
  let new := s.stageGroups t
  opening (r.map (overrideFor s.sequence.resumeMin)) (GroupSet.members (GroupSet.minus new s.seq.groups))
    (closing (GroupSet.members (GroupSet.minus s.seq.groups new)) (s.onSeq (Seq.toStage t new level r.isSome)))

theorem beginTransition_eq (t : StageId) (level : Nat) (r : Option ResumeRec) (s : State) : beginTransition t level r s =
    if GroupSet.minus (s.stageGroups t) s.seq.groups = 0 then becomeRunning (commanded t level r s) else commanded t level r s := rfl

theorem sameOutsideGroups_commanded (t : StageId) (level : Nat) (r : Option ResumeRec) (s : State) :
    SameOutsideGroups (s.onSeq (Seq.toStage t (s.stageGroups t) level r.isSome)) (commanded t level r s) :=
  (sameOutsideGroups_closing _ _).trans (sameOutsideGroups_opening _ _ _)

theorem becomeRunning_eq {t : StageId} (h : s.seq.current = some t) : becomeRunning s =
    ((s.onSeq fun q => { q with status := some .running }).push (.running t)).push .retest := by
  simp only [becomeRunning, h]

/-- What the beginning of a transition leaves. -/
theorem beginTransition_spec (t : StageId) (level : Nat) (r : Option ResumeRec) (s : State) :
    let u := beginTransition t level r s
    let new := s.stageGroups t
    u.seq = { s.seq.toStage t new level r.isSome with
        status := some (if GroupSet.minus new s.seq.groups = 0 then .running else .transition) }
      ∧ (∀ g, u.grp g = (commanded t level r s).grp g)
      ∧ u.pri = s.pri ∧ u.dti = s.dti ∧ u.jmc = s.jmc ∧ u.pts = s.pts ∧ u.lnk = s.lnk ∧ u.time = s.time := by
  intro u new
  obtain ⟨hpts, hseq, hdti, hpri, hjmc, hlnk, htime, -⟩ := (sameOutsideGroups_commanded t level r s).reads
  have hu : u = if GroupSet.minus new s.seq.groups = 0 then becomeRunning (commanded t level r s) else commanded t level r s := rfl
  generalize commanded t level r s = v at *
  by_cases h0 : GroupSet.minus new s.seq.groups = 0
  · have hcur : v.seq.current = some t := by rw [hseq]; rfl
    rw [hu, if_pos h0, if_pos h0, becomeRunning_eq hcur]
    refine ⟨?_, fun g => rfl, hpri, hdti, hjmc, hpts, hlnk, htime⟩
    rw [State.push_seq, State.push_seq, State.onSeq_seq, hseq]
    rfl
  · rw [hu, if_neg h0, if_neg h0]
    exact ⟨hseq, fun g => rfl, hpri, hdti, hjmc, hpts, hlnk, htime⟩

end Sys2Proof.Machine
end

section
namespace Sys2Proof.Machine

variable {s : State}

/-! ### The ending of a stage (R79, R131 to R136) -/

/-- What PRI holds beside its calls, its holders and its timers, and what SEQ holds. -/
def planning (s : State) : Seq × Vector Approach 4 × Option ReqRef × Option PlanRec :=
  (s.seq, s.pri.approaches, s.pri.own, s.pri.standing)

theorem planning_removeHolder (g : GroupId) (x : Holder) (s : State) : planning (removeHolder g x s) = planning s := by
  unfold removeHolder releaseGroup
  split
  · dsimp only
    split
    · split <;> rfl
    · rfl
  · rfl

theorem planning_suspendCall (id : Nat) (s : State) : planning (suspendCall id s) = planning s := by
  have hevery : planning (removeEverywhere (.call id) s) = planning s :=
    foldl_same (r := planning) (fun u g => planning_removeHolder g _ u) groupIds s
  rw [← hevery, suspendCall]
  generalize removeEverywhere (.call id) s = u
  rfl

/-- The end of a stage reaches PRI: the standing plan and the request of the stage are set, and calls return to WAITING. -/
theorem priStageEnded_spec (old : StageId) (own : Option ReqRef) (s : State) :
    let u := priStageEnded old own s
    u.seq = s.seq ∧ u.pri.approaches = s.pri.approaches ∧ u.pri.own = own ∧ u.pri.standing = none
      ∧ SameOutsidePriority s u := by
  intro u
  have hu : u = priStageEnded old own s := rfl
  clear_value u
  unfold priStageEnded at hu
  generalize hv : (s.onPri fun p => { p with standing := none, own := own }) = v at hu
  dsimp only at hu
  generalize v.pri.calls.filter _ = l at hu
  have hplan : planning u = planning v := by
    rw [hu]
    exact foldl_same (r := planning) (f := fun s (c : Call) => suspendCall c.id s) (fun u c => planning_suspendCall c.id u) l v
  have hacts : PriActs (fun _ => True) True v u := by
    rw [hu]
    exact (PriActs.refl v).foldl (fun s (c : Call) => suspendCall c.id s) l fun _ c _ hw => hw.suspendCall trivial c.id
  have hsv : SameOutsidePriority s v := by
    rw [← hv]
    exact .of_eq rfl ⟨rfl, rfl, rfl, rfl⟩ ⟨rfl, rfl, rfl⟩ rfl
  simp only [planning, Prod.mk.injEq] at hplan
  obtain ⟨hseq, happ, hown, hstanding⟩ := hplan
  rw [hseq, happ, hown, hstanding]
  refine ⟨?_, ?_, ?_, ?_, hsv.trans hacts.outside⟩
  · rw [← hv]; rfl
  · rw [← hv]; rfl
  · rw [← hv]; rfl
  · rw [← hv]; rfl

/-- The record a yield resumes. -/
def Yield.record : Yield → Option ResumeRec
  | .resumed r => some r
  | _ => none

/-- SEQ's record as the ending of a stage leaves it, before the transition. -/
def Seq.ended (push : Bool) (r : ResumeRec) (y : Yield) (q : Seq) : Seq :=
  { q with
    stack := if push then r :: q.stack else q.stack
    h := none, mark := none, holdFreeSeen := false, knownReady := false
    position := match y with | .sequence k => k | _ => q.position }

/-- The state in which the transition to the chosen stage begins. -/
def stageEnded (c : EndClass) (old t : StageId) (y : Yield) (s : State) : State :=
  (priStageEnded old (ownFor y) (s.onSeq (Seq.ended (pushes s c) (resumeRecord s old) y))).report
    (.stageChange (some old) t (causeAndLevel y c).1 (causeAndLevel y c).2)

theorem endStage_eq {old : StageId} (h : s.seq.current = some old) (c : EndClass) (t : StageId) (y : Yield) :
    endStage c t y s = beginTransition t (causeAndLevel y c).2 y.record (stageEnded c old t y s) := by
  unfold endStage
  rw [h]
  cases y <;> rfl

theorem stageEnded_spec (c : EndClass) (old t : StageId) (y : Yield) (s : State) :
    let v := stageEnded c old t y s
    v.seq = s.seq.ended (pushes s c) (resumeRecord s old) y ∧ v.pri.approaches = s.pri.approaches ∧ v.pri.own = ownFor y
      ∧ v.pri.standing = none ∧ v.dti = s.dti ∧ v.jmc = s.jmc ∧ v.pts = s.pts
      ∧ ∀ g, { v.grp g with hold := (s.grp g).hold } = s.grp g := by
  intro v
  have hv : v = stageEnded c old t y s := rfl
  clear_value v
  unfold stageEnded at hv
  generalize hw : s.onSeq (Seq.ended (pushes s c) (resumeRecord s old) y) = w at hv
  obtain ⟨hseq, happ, hown, hstanding, hout⟩ := priStageEnded_spec old (ownFor y) w
  generalize priStageEnded old (ownFor y) w = z at hv hseq happ hown hstanding hout
  obtain ⟨hdti, -, hjmc, hpts⟩ := hout.blocks
  have hgroups := hout.groups
  rw [hv]
  refine ⟨?_, ?_, hown, hstanding, ?_, ?_, ?_, fun g => ?_⟩
  · rw [State.report_seq, hseq, ← hw]; rfl
  · rw [State.report_pri, happ, ← hw]; rfl
  · rw [State.report_dti, hdti, ← hw]; rfl
  · rw [State.report_jmc, hjmc, ← hw]; rfl
  · rw [State.report_pts, hpts, ← hw]; rfl
  · have hg : w.grp g = s.grp g := by rw [← hw]; rfl
    have hz := hgroups g
    rw [hg] at hz
    exact hz

theorem pushes_iff {c : EndClass} : pushes s c = true ↔ c ≠ .ready
    ∧ (s.seq.level = 0 ∨ ∃ q, s.pri.own = some q ∧ s.stillWaits q = true) ∧ s.seq.stack.length < 3
    ∧ ∀ r rest, s.seq.stack = r :: rest → r.level < s.seq.level := by
  have habove : aboveTop s.seq.level s.seq.stack = true ↔ ∀ r rest, s.seq.stack = r :: rest → r.level < s.seq.level := by
    cases s.seq.stack <;> simp [aboveTop]
  have hown : s.pri.own.any s.stillWaits = true ↔ ∃ q, s.pri.own = some q ∧ s.stillWaits q = true := by
    cases s.pri.own <;> simp
  rw [← habove, ← hown]
  simp [pushes, and_assoc]

theorem stageGroups_congr {u : State} (hp : u.pts.activeCopy = s.pts.activeCopy) (hs : u.seq.activeSlot = s.seq.activeSlot)
    (t : StageId) : u.stageGroups t = s.stageGroups t := by
  rw [State.stageGroups, State.stageGroups, plan?_congr hp hs]

theorem sequence_congr {u : State} (hp : u.pts.activeCopy = s.pts.activeCopy) (hs : u.seq.activeSlot = s.seq.activeSlot) :
    u.sequence = s.sequence := by
  rw [State.sequence, State.sequence, plan?_congr hp hs]

theorem has_minus (x y : GroupSet) (g : GroupId) :
    GroupSet.has (GroupSet.minus x y) g = (GroupSet.has x g && !GroupSet.has y g) := by
  simp [GroupSet.has, GroupSet.minus]

/-! What the commands of a transition make of the groups. -/

section Commanded

variable {t : StageId} {level : Nat} {r : Option ResumeRec} {g : GroupId}

/-- A group that both stages have, or neither, and that is not CLOSED keeps its record but for its clearance. -/
theorem commanded_same (hg : GroupSet.has s.seq.groups g = GroupSet.has (s.stageGroups t) g) (hc : (s.grp g).state ≠ .closed) :
    (s.grp g).Raised ((commanded t level r s).grp g) := by
  have h1 := closing_other (l := GroupSet.members (GroupSet.minus s.seq.groups (s.stageGroups t)))
    (h := g) (by rw [mem_members, has_minus, hg]; simp) (s.onSeq (Seq.toStage t (s.stageGroups t) level r.isSome))
  have h2 := opening_other (l := GroupSet.members (GroupSet.minus (s.stageGroups t) s.seq.groups)) (h := g)
    (o := r.map (overrideFor s.sequence.resumeMin)) (by rw [mem_members, has_minus, hg]; simp) (h1.reads.1 ▸ hc)
  exact h1.trans h2

/-- A group of the old stage that the new one leaves out is commanded to close. -/
theorem commanded_close (hold : GroupSet.has s.seq.groups g = true) (hnew : GroupSet.has (s.stageGroups t) g = false) :
    ∃ v, SameOutsideGroups (s.onSeq (Seq.toStage t (s.stageGroups t) level r.isSome)) v ∧ (s.grp g).Raised (v.grp g)
      ∧ (((closeCommand g v).grp g).state ≠ .closed → ((closeCommand g v).grp g).Raised ((commanded t level r s).grp g)) := by
  obtain ⟨v, hout, hr, hclose⟩ := closing_mem (members_nodup (GroupSet.minus s.seq.groups (s.stageGroups t)))
    (g := g) (by rw [mem_members, has_minus, hold, hnew]; rfl) (s.onSeq (Seq.toStage t (s.stageGroups t) level r.isSome))
  refine ⟨v, hout, hr, fun hc => hclose.trans (opening_other ?_ (hclose.reads.1 ▸ hc))⟩
  rw [mem_members, has_minus, hnew]
  simp

/-- A group the new stage adds that is CLOSING holds its open command, with the override of a resumed stage. -/
theorem commanded_open (hold : GroupSet.has s.seq.groups g = false) (hnew : GroupSet.has (s.stageGroups t) g = true)
    (hp : s.present g = true) (hc : (s.grp g).state = .closing) :
    ((commanded t level r s).grp g).state = .closing ∧ ((commanded t level r s).grp g).openPending = true
      ∧ ((commanded t level r s).grp g).override = r.map (overrideFor s.sequence.resumeMin) := by
  have hout := sameOutsideGroups_closing (GroupSet.members (GroupSet.minus s.seq.groups (s.stageGroups t)))
    (s.onSeq (Seq.toStage t (s.stageGroups t) level r.isSome))
  have hr := closing_other (l := GroupSet.members (GroupSet.minus s.seq.groups (s.stageGroups t)))
    (h := g) (by rw [mem_members, has_minus, hold]; simp) (s.onSeq (Seq.toStage t (s.stageGroups t) level r.isSome))
  exact opening_mem (members_nodup _) (by rw [mem_members, has_minus, hold, hnew]; rfl) ((hout.present g).trans hp)
    (hr.reads.1.trans hc)

end Commanded

theorem leaveOpen_grp_closing {g : GroupId} (h : 0 < (s.groupDef g).close) :
    ((leaveOpen g s).grp g).state = .closing ∧ ((leaveOpen g s).grp g).phaseTimer = (s.groupDef g).close := by
  rw [leaveOpen_eq, if_neg h.ne', changeGroup_grp_self]
  exact ⟨rfl, rfl⟩

/-- What a close command makes of a group in OPEN. -/
theorem closeCommand_opened_spec {g : GroupId} (hp : s.present g = true) (h : (s.grp g).state = .opened) :
    (0 < (s.grp g).mgRem → ((closeCommand g s).grp g).state = .opened ∧ ((closeCommand g s).grp g).closePending = true)
    ∧ ((s.grp g).mgRem = 0 → 0 < (s.groupDef g).close →
      ((closeCommand g s).grp g).state = .closing ∧ ((closeCommand g s).grp g).phaseTimer = (s.groupDef g).close) := by
  rw [closeCommand_opened hp h]
  refine ⟨fun hm => ?_, fun hm hclose => ?_⟩
  · rw [if_pos hm, State.grp_onGrp_self]
    exact ⟨h, rfl⟩
  · rw [if_neg (by omega)]
    split
    · exact leaveOpen_grp_closing hclose
    · rw [minComplete_eq, if_pos (by rw [State.grp_onGrp_self])]
      exact leaveOpen_grp_closing (s := minCompleted g (s.onGrp g fun r => { r with closePending := true })) hclose

/-- Settles O44. -/
theorem endingBeginsTheTransition : Obligations.EndingBeginsTheTransition := by
  intro s old t c y hcur u new members saved pushed
  obtain ⟨hseq, happ, hown, hstanding, hdti, hjmc, hpts, hgrp⟩ := stageEnded_spec c old t y s
  have hu : u = beginTransition t (causeAndLevel y c).2 y.record (stageEnded c old t y s) := endStage_eq hcur c t y
  clear_value u
  generalize stageEnded c old t y s = v at *
  have hslot : v.seq.activeSlot = s.seq.activeSlot := by rw [hseq]; rfl
  have hgroups : v.seq.groups = s.seq.groups := by rw [hseq]; rfl
  have hnew : v.stageGroups t = new := stageGroups_congr (by rw [hpts]) hslot t
  have hsequence : v.sequence = s.sequence := sequence_congr (by rw [hpts]) hslot
  have hdef (g : GroupId) : v.groupDef g = s.groupDef g := by rw [State.groupDef, State.groupDef, hpts]
  have hpres (g : GroupId) : v.present g = s.present g := present_of_tables (by rw [hpts]) g
  have hread (g : GroupId) : (v.grp g).state = (s.grp g).state ∧ (v.grp g).openElapsed = (s.grp g).openElapsed
      ∧ (v.grp g).mgRem = (s.grp g).mgRem := by
    rw [← hgrp g]
    exact ⟨rfl, rfl, rfl⟩
  obtain ⟨useq, ugrp, upri, udti, ujmc, upts, -⟩ := beginTransition_spec t (causeAndLevel y c).2 y.record v
  rw [← hu] at useq ugrp upri udti ujmc upts
  rw [hnew, hgroups, hseq] at useq
  simp only [hu] at ugrp
  have hstack : u.seq.stack = if pushes s c = true then saved :: s.seq.stack else s.seq.stack := by rw [useq]; rfl
  refine ⟨?_, ?_, ?_, ?_, ?_, ?_, ?_, ?_, fun hp => ?_, fun hp => ?_, ?_, ?_, ?_, ?_, udti.trans hdti, ujmc.trans hjmc,
    upts.trans hpts, ?_, fun g ho hn hst => ?_, fun g ho hn hp hst => ?_, fun g ho hn hp hst => ?_⟩
  · rw [useq]; rfl
  · rw [useq]; rfl
  · rw [useq]; rfl
  · rw [useq]; rfl
  · rw [useq]
  · rw [useq]; rfl
  · rw [useq]; rfl
  · rw [useq]; rfl
  · rw [hstack, if_pos (pushes_iff.mpr hp)]
  · rw [hstack, if_neg fun h => hp (pushes_iff.mp h)]
  · rw [useq]; rfl
  · rw [useq]; rfl
  · rw [upri, hstanding]
  · rw [upri, happ]
  · rw [upri, hown]
    cases y <;> rfl
  · obtain ⟨hs, he, hm⟩ := hread g
    obtain ⟨x, -, hr⟩ := commanded_same (t := t) (level := (causeAndLevel y c).2) (r := y.record) (s := v) (g := g)
      (by rw [hgroups, hnew, ho, hn]) (by rw [hs, hst]; nofun)
    rw [hu, ugrp, hr]
    exact ⟨hs.trans hst, he, hm⟩
  · obtain ⟨hs, -, hm⟩ := hread g
    obtain ⟨w, hout, ⟨x, -, hw⟩, hr⟩ := commanded_close (t := t) (level := (causeAndLevel y c).2) (r := y.record) (s := v) (g := g)
      (by rw [hgroups, ho]) (by rw [hnew, hn])
    have hwp : w.present g = true := by rw [hout.present, ← hp, ← hpres g]; rfl
    have hwd : w.groupDef g = s.groupDef g := by rw [hout.groupDef, ← hdef g]; rfl
    obtain ⟨hwait, hgo⟩ := closeCommand_opened_spec (s := w) (g := g) hwp (by rw [hw]; exact hs.trans hst)
    rw [show (w.grp g).mgRem = (s.grp g).mgRem by rw [hw]; exact hm] at hwait hgo
    rw [hwd] at hgo
    rw [hu, ugrp]
    refine ⟨fun hpos => ?_, fun hz hclose => ?_⟩
    · obtain ⟨h1, h2⟩ := hwait hpos
      obtain ⟨x, -, hfinal⟩ := hr (by rw [h1]; nofun)
      rw [hfinal]
      exact ⟨h1, h2⟩
    · obtain ⟨h1, h2⟩ := hgo hz hclose
      obtain ⟨x, -, hfinal⟩ := hr (by rw [h1]; nofun)
      rw [hfinal]
      exact ⟨h1, h2⟩
  · obtain ⟨hs, -, -⟩ := hread g
    obtain ⟨h1, h2, h3⟩ := commanded_open (t := t) (level := (causeAndLevel y c).2) (r := y.record) (s := v) (g := g)
      (by rw [hgroups, ho]) (by rw [hnew, hn]) (by rw [hpres, hp]) (hs.trans hst)
    rw [hu, ugrp]
    refine ⟨h1, h2, h3.trans ?_⟩
    rw [hsequence]
    cases y <;> rfl

end Sys2Proof.Machine
end

section
namespace Sys2Proof.Machine

variable {s : State}

/-! ### The events on which SEQ chooses (R66, R72, R74, R75, R80) -/

theorem stageRunning_iff : s.stageRunning = true ↔ s.seq.status = some .running := by simp [State.stageRunning]

theorem endCountdownExpired_due (hh : s.seq.h = some 0) (hm : s.jmc.mode = .normal) (hr : s.seq.status = some .running) :
    endCountdownExpired s = makeChoice true s :=
  if_pos (by simp [hh, hm, State.stageRunning, hr])

theorem endCountdownExpired_notDue (h : ¬ (s.seq.h = some 0 ∧ s.jmc.mode = .normal ∧ s.seq.status = some .running)) :
    endCountdownExpired s = s :=
  if_neg fun hd => h (by simpa [State.stageRunning, and_assoc] using hd)

theorem makeChoice_of_none {v : State} (h : choose s = (v, none)) : makeChoice true s = clearEnd v := by
  simp only [makeChoice, h, if_true]

theorem makeChoice_of_some {v : State} {t : StageId} {y : Yield} (e : Bool) (h : choose s = (v, some (t, y))) : makeChoice e s =
    endStage (if s.readyWith false = true then .ready else if s.ready = true then .cut else .expiry) t y v := by
  simp only [makeChoice, h]

theorem waitsTooLong_iff {g : GroupId} : s.waitsTooLong g = true ↔ (s.dem g).latched = true ∧ (s.grp g).state ≠ .opened
    ∧ (s.times g).maxwait ≠ 0 ∧ (s.times g).maxwait < (s.dem g).wait := by
  simp [State.waitsTooLong, and_assoc]

theorem overdue_iff {g : GroupId} : s.overdue g = true ↔ ((s.dem g).latched = true ∧ (s.grp g).state ≠ .opened
    ∧ (s.times g).maxwait ≠ 0 ∧ (s.times g).maxwait < (s.dem g).wait) ∧ GroupSet.has s.seq.overdueAwaited g = false := by
  rw [← waitsTooLong_iff, State.overdue, Bool.and_eq_true, Bool.not_eq_true']

/-- The state in which SEQ has taken a group's event, the group awaited no longer. -/
def overdueTaken (g : GroupId) (s : State) : State :=
  s.onSeq fun q => { q with overdueAwaited := GroupSet.minus q.overdueAwaited (GroupSet.only g) }

theorem has_only_self (g : GroupId) : GroupSet.has (GroupSet.only g) g = true := by
  rw [GroupSet.has, GroupSet.only]
  revert g
  decide

theorem overdueTaken_overdue {g : GroupId} : (overdueTaken g s).overdue g = true ↔ s.waitsTooLong g = true := by
  have hwait : (overdueTaken g s).waitsTooLong g = s.waitsTooLong g := rfl
  have htaken : GroupSet.has (overdueTaken g s).seq.overdueAwaited g = false := by
    rw [overdueTaken, State.onSeq_seq, has_minus, has_only_self, Bool.not_true, Bool.and_false]
  rw [State.overdue, hwait, htaken, Bool.not_false, Bool.and_true]

theorem takeOverdue_eq (g : GroupId) (s : State) : takeOverdue g s =
    if s.waitsTooLong g = true then becameOverdue (overdueTaken g s) else overdueTaken g s := by
  have h : takeOverdue g s = whenDue ((overdueTaken g s).overdue g) becameOverdue (overdueTaken g s) := rfl
  rw [h, whenDue]
  simp only [overdueTaken_overdue]

/-- Settles O42. -/
theorem sequencerEventsChoose : Obligations.SequencerEventsChoose := by
  refine ⟨fun s => ⟨fun hn => ?_, fun hh hm hr => ?_, fun g => ?_, fun hm hr hn => ?_⟩, fun c r q l k => ⟨rfl, rfl, ?_, ?_⟩⟩
  · exact congrArg (fun t => Host.Outcome.next (settle Config.reactionBound t)) (endCountdownExpired_notDue (s := s.begun) hn)
  · intro c
    have hexec : exec .endCountdownExpiry s = .next (settle Config.reactionBound (makeChoice true s.begun)) :=
      congrArg (fun t => Host.Outcome.next (settle Config.reactionBound t)) (endCountdownExpired_due (s := s.begun) hh hm hr)
    refine ⟨fun v hv => exec_congr hexec ?_, fun v t y hv => exec_congr hexec ?_⟩
    · rw [makeChoice_of_none hv]
      rfl
    · rw [makeChoice_of_some true hv]
      rfl
  · intro late taken
    have htaken : taken = overdueTaken g s.begun := rfl
    have hexec : exec (.groupOverdue g) s = .next (settle Config.reactionBound (takeOverdue g s.begun)) := rfl
    have hwait : s.begun.waitsTooLong g = s.waitsTooLong g := rfl
    refine ⟨overdue_iff, fun hl => ⟨?_, exec_congr hexec ?_⟩, fun hl => exec_congr hexec ?_⟩
    · rw [htaken, overdueTaken_overdue, hwait]
      exact waitsTooLong_iff.mpr hl
    · rw [takeOverdue_eq, if_pos (hwait.trans (waitsTooLong_iff.mpr hl)), ← htaken, becameOverdue]
      change ({ taken with notices := (taken.notices ++ [.retest]) ++ [.choose] } : State) = _
      rw [List.append_assoc]
      rfl
    · rw [takeOverdue_eq, if_neg fun h => hl (waitsTooLong_iff.mp (hwait.symm.trans h))]
      exact htaken.symm
  · have hcut : s.cutInForce = false := by simp [State.cutInForce, hn]
    rw [State.ready, hcut]
  · cases c <;> rfl
  · cases c <;> rfl

end Sys2Proof.Machine
end

section
namespace Sys2Proof.Machine

variable {s : State}

/-! ### The steps of the choice but the fifth (R76, R84, R134) -/

section Check

variable {n : SlotNo}

theorem slotsRead_readSlot (k : PlanSlot) (s : State) : SlotsRead s (readSlot k s).1 := by
  unfold readSlot
  dsimp only
  split
  · exact .refl s
  · split
    · exact .refl s
    · next hi => exact slotsRead_slotFails (Bool.eq_false_iff.mpr hi)

/-- A check of contents leaves everything as it is but a slot found broken. -/
theorem slotsRead_checkContents (n : SlotNo) (s : State) : SlotsRead s (checkContents n s).1 := by
  cases ht : s.pts.tables with
  | none =>
    rw [checkContents_noTables ht]
    exact .refl s
  | some x =>
    cases hk : SlotNo.plan? n with
    | none =>
      simp only [checkContents, ht, hk]
      cases s.pts.trial.complete? with
      | none => exact .refl s
      | some p =>
        dsimp only
        cases hc : wholePlanCheck x p <;> exact .refl s
    | some k =>
      have hread := slotsRead_readSlot k s
      simp only [checkContents, ht, hk]
      generalize readSlot k s = y at hread ⊢
      obtain ⟨v, c⟩ := y
      cases c with
      | none => exact hread
      | some p =>
        dsimp only
        cases hc : wholePlanCheck x p <;> exact hread

theorem activationCheck_busy (h : s.beingWritten n = true) : activationCheck n s = (s, .error { status := .busy }) := if_pos h

end Check

theorem choose_manual (h : s.jmc.mode = .manual) : choose s = chooseManual s := if_pos h

theorem choose_else (h : s.jmc.mode ≠ .manual) : choose s = chooseFrom s.seq.stack s := if_neg h

theorem chooseManual_none (h : s.seq.manualSlot = none) : chooseManual s = (s, none) := by simp only [chooseManual, h]

theorem chooseManual_some {t : StageId} {k : Nat} (h : s.seq.manualSlot = some (t, k)) :
    ∃ v, chooseManual s = (v, if s.seq.current = some t then none else some (t, .manual))
      ∧ v.seq = { s.seq with manualSlot := none, manualHold := some k } ∧ v.notices = s.notices ++ [.retest] := by
  unfold chooseManual
  rw [h]
  simp only [decide_eq_true_eq]
  split
  · exact ⟨_, rfl, rfl, rfl⟩
  · exact ⟨_, rfl, rfl, rfl⟩

theorem onSeq_self {f : Seq → Seq} (h : f s.seq = s.seq) : s.onSeq f = s := by
  change { s with seq := f s.seq } = s
  rw [h]

/-- The resume stack as the choice reads it is the list given, not the one the state holds. -/
theorem chooseFrom_stack (l m : List ResumeRec) (s : State) :
    chooseFrom l (s.onSeq fun q => { q with stack := m }) = chooseFrom l s := by
  induction l with
  | nil => rfl
  | cons r rest ih =>
    have hdisc : discarded (s.onSeq fun q => { q with stack := m }) r = discarded s r := rfl
    have hrule : rulingElsewhere (s.onSeq fun q => { q with stack := m }) = rulingElsewhere s := rfl
    simp only [chooseFrom, hdisc, hrule, ih]
    rfl

theorem rulingElsewhere_eq_some {q : ReqRef} :
    rulingElsewhere s = some q ↔ s.ruling = some q ∧ some (s.prioStage q) ≠ s.seq.current := by
  unfold rulingElsewhere
  split
  · next p hp =>
    rw [hp]
    by_cases hc : some (s.prioStage p) = s.seq.current
    · rw [if_pos hc]
      refine ⟨nofun, fun ⟨e, hq⟩ => ?_⟩
      cases e
      exact absurd hc hq
    · rw [if_neg hc]
      exact ⟨fun e => ⟨e, by cases e; exact hc⟩, fun h => h.1⟩
  · next hn =>
    rw [hn]
    exact ⟨nofun, nofun⟩

theorem rulingElsewhere_eq_none (h : ∀ q, ¬ (s.ruling = some q ∧ some (s.prioStage q) ≠ s.seq.current)) : rulingElsewhere s = none :=
  Option.eq_none_iff_forall_ne_some.mpr fun q hq => h q (rulingElsewhere_eq_some.mp hq)

theorem discarded_iff {r : ResumeRec} : discarded s r = true ↔
    some r.stage = s.seq.current ∨ (0 < r.level ∧ ∀ q, r.request = some q → s.stillWaits q = false) := by
  cases hr : r.request <;> simp [discarded, hr]

section Stack

variable {r : ResumeRec} {rest : List ResumeRec}

theorem chooseFrom_above {q : ReqRef} (hs : s.seq.stack = r :: rest) (hq : rulingElsewhere s = some q) (hl : r.level < s.reqLevel q) :
    chooseFrom s.seq.stack s = (s, some (s.prioStage q, .priority q (s.reqLevel q))) := by
  have hself : (s.onSeq fun x => { x with stack := r :: rest }) = s := onSeq_self (by rw [← hs])
  simp only [hs, chooseFrom, hq, Option.filter_some, decide_eq_true hl, if_true, hself]
  rfl

variable (hs : s.seq.stack = r :: rest)
  (hq : ∀ q, s.ruling = some q ∧ some (s.prioStage q) ≠ s.seq.current → s.reqLevel q ≤ r.level)
include hs hq

theorem filter_ruling : (rulingElsewhere s).filter (fun q => s.reqLevel q > r.level) = none := by
  refine Option.filter_eq_none_iff.mpr fun q hr => ?_
  simpa using hq q (rulingElsewhere_eq_some.mp hr)

theorem chooseFrom_resumes (hd : ¬ (some r.stage = s.seq.current
    ∨ (0 < r.level ∧ ∀ q, r.request = some q → s.stillWaits q = false))) :
    chooseFrom s.seq.stack s = ({ s with seq := { s.seq with stack := rest } }, some (r.stage, .resumed r)) := by
  have hdisc : discarded s r = false := Bool.eq_false_iff.mpr fun h => hd (discarded_iff.mp h)
  have hfilter := filter_ruling hs hq
  simp only [hs, chooseFrom, hfilter, hdisc, Bool.false_eq_true, if_false]
  rfl

theorem chooseFrom_discards (hd : some r.stage = s.seq.current
    ∨ (0 < r.level ∧ ∀ q, r.request = some q → s.stillWaits q = false)) :
    chooseFrom s.seq.stack s = chooseFrom rest { s with seq := { s.seq with stack := rest } } := by
  have hfilter := filter_ruling hs hq
  have hstack : chooseFrom rest { s with seq := { s.seq with stack := rest } } = chooseFrom rest s := chooseFrom_stack rest rest s
  rw [hstack, hs]
  simp only [chooseFrom, hfilter, discarded_iff.mpr hd, if_true]

end Stack

section Ordinary

variable (hs : s.seq.stack = [])
include hs

theorem chooseFrom_nil_ruling {q : ReqRef} (hq : rulingElsewhere s = some q) :
    chooseFrom s.seq.stack s = (s, some (s.prioStage q, .priority q (s.reqLevel q))) := by
  have hself : (s.onSeq fun x => { x with stack := [] }) = s := onSeq_self (by rw [← hs])
  simp only [hs, chooseFrom, hself, hq]
  rfl

theorem chooseFrom_nil (hq : rulingElsewhere s = none) : chooseFrom s.seq.stack s = chooseOrdinary s := by
  have hself : (s.onSeq fun x => { x with stack := [] }) = s := onSeq_self (by rw [← hs])
  simp only [hs, chooseFrom, hself, hq]

theorem switchPermitted_iff : switchPermitted s = true ↔ s.jmc.mode = .normal ∧ s.ruling = none
    ∧ (∀ a, (s.app a).episode ≠ .planned ∧ (s.app a).episode ≠ .serving) ∧ ∀ c ∈ s.pri.calls, c.state ≠ .serving := by
  have happ : (approachIds.all fun a => (s.app a).episode ≠ .planned && (s.app a).episode ≠ .serving) = true ↔
      ∀ a, (s.app a).episode ≠ .planned ∧ (s.app a).episode ≠ .serving := by
    simp [approachIds]
  simp only [switchPermitted, hs, Bool.and_eq_true, happ, decide_eq_true_iff, List.isEmpty_nil, List.all_eq_true,
    Option.isNone_iff_eq_none, and_true, and_assoc]

end Ordinary

theorem chooseOrdinary_rests (h : s.seq.pendingPlan = none ∨ ¬ switchPermitted s = true) :
    chooseOrdinary s = (s, chooseEntry s.seq.current s) := by
  unfold chooseOrdinary
  split
  · next n hn hp =>
    obtain h | h := h
    · cases h.symm.trans hn
    · exact absurd hp h
  · rfl

/-- What a switch leaves (R84). -/
theorem switchPlan_spec {n : SlotNo} {p : Plan} {x : Tables} (ht : s.pts.tables = some x) :
    (switchPlan n p s).seq.activeSlot = some n ∧ (switchPlan n p s).seq.pendingPlan = none
      ∧ (switchPlan n p s).seq.position = 0 ∧ (switchPlan n p s).seq.current = s.seq.current
      ∧ (switchPlan n p s).seq.groups = s.seq.groups ∧ (switchPlan n p s).pts.activeCopy = some (clampPlan x p).1 := by
  have hside := planSide_takePlan n p s
  rw [planSet_eq ht] at hside
  obtain ⟨hslot, -, hcur, hgrp, -⟩ := hside.reads
  have hpts := hside.pts
  unfold switchPlan
  generalize takePlan n p s = v at hslot hcur hgrp hpts
  dsimp only
  generalize hw : (v.onSeq fun q => { q with pendingPlan := none, position := 0 }) = w
  have hlatch : PlanSide w (w.presentGroups.foldl (fun s g =>
      if (s.grp g).state = .closed && (s.times g).recallOn then latch g .recalled s else s) w) :=
    .foldl (fun u g => DemandActs.planSide (DemandActs.ite (fun _ => (DemandActs.refl u).latch g _) fun _ => .refl u)) _ w
  obtain ⟨kslot, kpend, kcur, kgrp, kpos, -⟩ := hlatch.reads
  have kpts := hlatch.pts
  generalize w.presentGroups.foldl _ w = z at kslot kpend kcur kgrp kpos kpts
  rw [reportPlan, State.report_seq, State.report_pts, kslot, kpend, kcur, kgrp, kpos, kpts, ← hw]
  exact ⟨hslot, rfl, rfl, hcur, hgrp, by rw [State.onSeq_pts, hpts]⟩

section Pending

variable {n : SlotNo} (hn : s.seq.pendingPlan = some n) (hp : switchPermitted s = true)
include hn hp

theorem chooseOrdinary_busy (hb : s.beingWritten n = true) : chooseOrdinary s = (s, chooseEntry s.seq.current s) := by
  simp only [chooseOrdinary, hn, hp, activationCheck_busy hb, if_true]

theorem chooseOrdinary_discards {u : State} {d : Denial} (hb : ¬ s.beingWritten n = true) (hc : checkContents n s = (u, .error d))
    (hd : d.status ≠ .busy) : ∃ v, chooseOrdinary s = (v, chooseEntry s.seq.current v) ∧ v.seq = { s.seq with pendingPlan := none }
      ∧ v.lnk = (s.report (.planChanged s.seq.activeSlot n .discarded)).lnk := by
  have hread : SlotsRead s u := by
    have h := slotsRead_checkContents n s
    rwa [hc] at h
  obtain ⟨-, -, hseq, -, hlnk, htime, -⟩ := hread.reads
  simp only [chooseOrdinary, hn, hp, activationCheck_of_idle hb, hc, if_neg hd]
  refine ⟨_, Prod.ext rfl ?_, ?_, ?_⟩
  · dsimp only
    rw [reportPlan, State.report_seq, State.onSeq_seq, hseq]
  · change { u.seq with pendingPlan := none } = _
    rw [hseq]
  · rw [reportPlan, State.report_lnk, State.report_lnk, State.onSeq_lnk, State.onSeq_time, hlnk, htime, hseq]

theorem chooseOrdinary_switches {u : State} {p : Plan} {x : Tables} (hb : ¬ s.beingWritten n = true)
    (hc : checkContents n s = (u, .ok p)) (ht : s.pts.tables = some x) :
    ∃ v, chooseOrdinary s = (v, (chooseEntry none v).or (v.sequence.entries.head?.map fun e => (e.stage, .sequence 1)))
      ∧ v.seq.activeSlot = some n ∧ v.seq.pendingPlan = none ∧ v.seq.position = 0
      ∧ v.seq.current = s.seq.current ∧ v.seq.groups = s.seq.groups ∧ v.pts.activeCopy = some (clampPlan x p).1 := by
  have hread : SlotsRead s u := by
    have h := slotsRead_checkContents n s
    rwa [hc] at h
  obtain ⟨htab, -, hseq, -⟩ := hread.reads
  have hspec := switchPlan_spec (s := u) (n := n) (p := p) (x := x) (htab.trans ht)
  rw [hseq] at hspec
  simp only [chooseOrdinary, hn, hp, activationCheck_of_idle hb, hc]
  generalize switchPlan n p u = v at hspec ⊢
  refine ⟨v, ?_, hspec⟩
  rw [Option.orElse_eq_orElse, Option.orElse_eq_or, firstEntry]

end Pending

end Sys2Proof.Machine
end

section
namespace Sys2Proof.Machine

variable {s : State} {passed : Option StageId}

/-! ### The fifth step of the choice (R77, R78, R84) -/

theorem eligible_iff {e : SeqEntry} : eligible s passed e = true ↔ some e.stage ≠ passed
    ∧ (e.always = true ∨ ∃ g, GroupSet.has (s.stageGroups e.stage) g = true ∧ (s.grp g).state ≠ .opened
      ∧ (s.dem g).latched = true) := by
  simp [eligible, mem_members]

section Numbered

variable {l : List SeqEntry}

theorem getElem?_numbered (k : Nat) : (l.zipIdx 1)[k]? = l[k]?.map fun e => (e, k + 1) := by
  rw [List.getElem?_zipIdx, Nat.add_comm]

variable {p : SeqEntry × Nat → Bool}

theorem find?_numbered_none (h : ∀ e ∈ l, ∀ n, p (e, n) = false) {m : List (SeqEntry × Nat)} (hm : ∀ x ∈ m, x ∈ l.zipIdx 1) :
    m.find? p = none :=
  List.find?_eq_none.mpr fun x hx => by
    obtain ⟨k, hk⟩ := List.mem_iff_getElem?.mp (hm x hx)
    rw [getElem?_numbered] at hk
    obtain ⟨e, he, rfl⟩ := Option.map_eq_some_iff.mp hk
    simp [h e (List.mem_of_getElem? he)]

/-- The first of the numbered entries that meets a test. -/
theorem find?_numbered {k : Nat} {e : SeqEntry} (hk : l[k]? = some e) (he : p (e, k + 1) = true)
    (hlow : ∀ i x, l[i]? = some x → i < k → p (x, i + 1) = false) : (l.zipIdx 1).find? p = some (e, k + 1) := by
  have hnum := getElem?_numbered (l := l) k
  rw [hk] at hnum
  obtain ⟨hlen, hget⟩ := List.getElem?_eq_some_iff.mp hnum
  refine List.find?_eq_some_iff_getElem.mpr ⟨he, k, hlen, hget, fun i hi => ?_⟩
  have hin : i < l.length := by
    rw [List.length_zipIdx] at hlen
    omega
  have hi' : (l.zipIdx 1)[i] = (l[i], i + 1) := by
    rw [List.getElem_zipIdx, Nat.add_comm]
  rw [hi', hlow i l[i] (List.getElem?_eq_getElem hin) hi]
  rfl

/-- The first of the numbered entries that meets a test, in the order that goes round from the position. -/
theorem find?_numbered_round {k n : Nat} {e : SeqEntry} (hk : l[k]? = some e) (he : p (e, k + 1) = true)
    (hlow : ∀ i x, l[i]? = some x → (n ≤ i ∧ k < n) ∨ (i < k ∧ (n ≤ i ↔ n ≤ k)) → p (x, i + 1) = false) :
    ((l.zipIdx 1).drop n ++ (l.zipIdx 1).take n).find? p = some (e, k + 1) := by
  have hlen : (l.zipIdx 1).length = l.length := List.length_zipIdx
  have hkl : k < l.length := (List.getElem?_eq_some_iff.mp hk).1
  have hat (i : Nat) (hi : i < l.length) (h : i < (l.zipIdx 1).length) : (l.zipIdx 1)[i] = (l[i], i + 1) := by
    rw [List.getElem_zipIdx, Nat.add_comm]
  have hnot (i : Nat) (hi : i < l.length) (h : (n ≤ i ∧ k < n) ∨ (i < k ∧ (n ≤ i ↔ n ≤ k))) : p (l[i], i + 1) = false :=
    hlow i l[i] (List.getElem?_eq_getElem hi) h
  have hkeep : l[k] = e := (List.getElem?_eq_some_iff.mp hk).2
  rw [List.find?_append]
  by_cases hn : n ≤ k
  · have hfirst : ((l.zipIdx 1).drop n).find? p = some (e, k + 1) := by
      refine List.find?_eq_some_iff_getElem.mpr ⟨he, k - n, by rw [List.length_drop, hlen]; omega, ?_, fun i hi => ?_⟩
      · rw [List.getElem_drop, hat _ (by omega)]
        simp only [show n + (k - n) = k by omega, hkeep]
      · rw [List.getElem_drop, hat _ (by omega), hnot (n + i) (by omega) (.inr (by omega))]
        rfl
    rw [hfirst]
    rfl
  · have hrest : ((l.zipIdx 1).drop n).find? p = none := by
      refine List.find?_eq_none.mpr fun x hx => ?_
      obtain ⟨i, hi, rfl⟩ := List.mem_iff_getElem.mp hx
      rw [List.length_drop, hlen] at hi
      rw [List.getElem_drop, hat _ (by omega), hnot (n + i) (by omega) (.inl (by omega))]
      exact Bool.false_ne_true
    have hfirst : ((l.zipIdx 1).take n).find? p = some (e, k + 1) := by
      refine List.find?_eq_some_iff_getElem.mpr ⟨he, k, by rw [List.length_take, hlen]; omega, ?_, fun i hi => ?_⟩
      · rw [List.getElem_take, hat _ hkl, hkeep]
      · rw [List.getElem_take, hat _ (by omega), hnot i (by omega) (.inr (by omega))]
        rfl
    rw [hrest, hfirst]
    rfl

end Numbered

/-! An overdue group has precedence in RANKED mode. -/

/-- One group looked at for the largest excess. -/
def excessStep (s : State) (passed : Option StageId) (l : List (SeqEntry × Nat)) (best : Option (Nat × (SeqEntry × Nat)))
    (g : GroupId) : Option (Nat × (SeqEntry × Nat)) :=
  if s.overdue g then
    match entryFor s passed l g with
    | none => best
    | some e =>
      match best with
      | none => some (excess s g, e)
      | some (x, _) => if excess s g > x then some (excess s g, e) else best
  else best

theorem mostOverdue_eq (s : State) (passed : Option StageId) (l : List (SeqEntry × Nat)) :
    mostOverdue s passed l = (groupIds.foldl (excessStep s passed l) none).map Prod.snd := rfl

section Excess

variable {l : List (SeqEntry × Nat)}

theorem excessStep_skips {g : GroupId} (best : Option (Nat × (SeqEntry × Nat)))
    (h : s.overdue g = true → entryFor s passed l g = none) : excessStep s passed l best g = best := by
  unfold excessStep
  split
  · next ho => rw [h ho]
  · rfl

theorem excessStep_takes {g : GroupId} {e : SeqEntry × Nat} {best : Option (Nat × (SeqEntry × Nat))} (ho : s.overdue g = true)
    (he : entryFor s passed l g = some e) (h : ∀ x y, best = some (x, y) → x < excess s g) :
    excessStep s passed l best g = some (excess s g, e) := by
  unfold excessStep
  rw [if_pos ho, he]
  cases best with
  | none => rfl
  | some b => exact if_pos (h b.1 b.2 rfl)

theorem excessStep_keeps {g : GroupId} {x : Nat} {e : SeqEntry × Nat} (h : excess s g ≤ x) :
    excessStep s passed l (some (x, e)) g = some (x, e) := by
  unfold excessStep
  split
  · split
    · rfl
    · exact if_neg (by omega)
  · rfl

/-- What the groups looked at leave is one of them, overdue and answered. -/
theorem foldl_excess_some {gs : List GroupId} {x : Nat} {e : SeqEntry × Nat}
    (h : gs.foldl (excessStep s passed l) none = some (x, e)) :
    ∃ g ∈ gs, s.overdue g = true ∧ entryFor s passed l g = some e ∧ x = excess s g := by
  induction gs using List.reverseRecOn generalizing x e with
  | nil => cases h
  | append_singleton gs g ih =>
    rw [List.foldl_append, List.foldl_cons, List.foldl_nil] at h
    have hbefore (hb : gs.foldl (excessStep s passed l) none = some (x, e)) :
        ∃ k ∈ gs ++ [g], s.overdue k = true ∧ entryFor s passed l k = some e ∧ x = excess s k := by
      obtain ⟨k, hk, hrest⟩ := ih hb
      exact ⟨k, List.mem_append_left _ hk, hrest⟩
    unfold excessStep at h
    split at h
    · next ho =>
      split at h
      · exact hbefore h
      · next y hy =>
        split at h
        · cases h
          exact ⟨g, by simp, ho, hy, rfl⟩
        · next hb =>
          split at h
          · cases h
            exact ⟨g, by simp, ho, hy, rfl⟩
          · exact hbefore h
    · exact hbefore h

/-- The overdue group of largest excess that an entry answers, the lower number between equals, gives its entry. -/
theorem mostOverdue_eq_some {g : GroupId} {e : SeqEntry × Nat} (ho : s.overdue g = true) (he : entryFor s passed l g = some e)
    (hmax : ∀ h, s.overdue h = true → (entryFor s passed l h).isSome = true →
      excess s h < excess s g ∨ (excess s h = excess s g ∧ g ≤ h)) : mostOverdue s passed l = some e := by
  have hsorted : groupIds.Pairwise (· < ·) := List.pairwise_lt_finRange 24
  obtain ⟨l₁, l₂, hl⟩ := List.append_of_mem (mem_groupIds g)
  rw [hl] at hsorted
  obtain ⟨-, -, hbefore⟩ := List.pairwise_append.mp hsorted
  have hless (x : Nat) (y : SeqEntry × Nat) (h : l₁.foldl (excessStep s passed l) none = some (x, y)) : x < excess s g := by
    obtain ⟨k, hk, hko, hke, rfl⟩ := foldl_excess_some h
    have hkg : k < g := hbefore k hk g (List.mem_cons_self ..)
    exact (hmax k hko (by rw [hke]; rfl)).resolve_right fun ⟨_, hle⟩ => absurd hkg (not_lt_of_ge hle)
  have hkept (m : List GroupId) : m.foldl (excessStep s passed l) (some (excess s g, e)) = some (excess s g, e) := by
    induction m with
    | nil => rfl
    | cons k m ih =>
      have hstep : excessStep s passed l (some (excess s g, e)) k = some (excess s g, e) := by
        by_cases hk : s.overdue k = true ∧ (entryFor s passed l k).isSome = true
        · exact excessStep_keeps (by obtain h | h := hmax k hk.1 hk.2 <;> omega)
        · exact excessStep_skips _ fun hko => by simpa [hko] using hk
      rw [List.foldl_cons, hstep, ih]
  rw [mostOverdue_eq, hl, List.foldl_append, List.foldl_cons, excessStep_takes ho he hless, hkept]
  rfl

theorem mostOverdue_eq_none (h : ∀ g, s.overdue g = true → entryFor s passed l g = none) : mostOverdue s passed l = none := by
  have hnone (m : List GroupId) : m.foldl (excessStep s passed l) none = none := by
    induction m with
    | nil => rfl
    | cons g m ih => rw [List.foldl_cons, excessStep_skips none (h g), ih]
  rw [mostOverdue_eq, hnone]
  rfl

end Excess

/-! The entry chosen. -/

theorem chooseEntry_cyclic (h : s.sequence.mode = .cyclic) : chooseEntry passed s =
    (((s.sequence.entries.zipIdx 1).drop s.seq.position ++ (s.sequence.entries.zipIdx 1).take s.seq.position).find?
      fun e => eligible s passed e.1).map fun e => (e.1.stage, Yield.sequence e.2) := by
  simp only [chooseEntry, h]

theorem chooseEntry_ranked (h : s.sequence.mode = .ranked) : chooseEntry passed s =
    ((mostOverdue s passed (s.sequence.entries.zipIdx 1)).or
      ((s.sequence.entries.zipIdx 1).find? fun e => eligible s passed e.1)).map fun e => (e.1.stage, Yield.sequence e.2) := by
  simp only [chooseEntry, h, Option.orElse_eq_orElse, Option.orElse_eq_or]

theorem entryFor_first {g : GroupId} {k : Nat} {e : SeqEntry} (hk : s.sequence.entries[k]? = some e)
    (ha : GroupSet.has (s.stageGroups e.stage) g = true ∧ some e.stage ≠ passed)
    (hlow : ∀ i x, s.sequence.entries[i]? = some x → i < k →
      ¬ (GroupSet.has (s.stageGroups x.stage) g = true ∧ some x.stage ≠ passed)) :
    entryFor s passed (s.sequence.entries.zipIdx 1) g = some (e, k + 1) := by
  refine find?_numbered hk (by simpa using ha) fun i x hi hik => ?_
  have hx := hlow i x hi hik
  simpa using hx

theorem entryFor_none {g : GroupId} (h : ∀ e ∈ s.sequence.entries,
    ¬ (GroupSet.has (s.stageGroups e.stage) g = true ∧ some e.stage ≠ passed)) :
    entryFor s passed (s.sequence.entries.zipIdx 1) g = none :=
  find?_numbered_none (l := s.sequence.entries) (fun e he n => by simpa using h e he) fun _ hx => hx

theorem exists_of_entryFor {g : GroupId} (h : (entryFor s passed (s.sequence.entries.zipIdx 1) g).isSome = true) :
    ∃ e ∈ s.sequence.entries, GroupSet.has (s.stageGroups e.stage) g = true ∧ some e.stage ≠ passed := by
  by_contra hno
  rw [entryFor_none fun e he ha => hno ⟨e, he, ha⟩] at h
  exact Bool.noConfusion h

/-- Settles O43. -/
theorem nextStageChoiceInOrderOfSteps : Obligations.NextStageChoiceInOrderOfSteps := by
  refine ⟨fun s => ?_, fun s passed => ?_⟩
  · intro elsewhere mayswitch
    refine ⟨fun hm => ⟨fun hn => ?_, fun t k hk => ?_⟩, fun hm => ⟨fun r rest hs => ?_, fun hs => ⟨fun q hq => ?_, fun hq => ?_⟩⟩⟩
    · rw [choose_manual hm, chooseManual_none hn]
    · rw [choose_manual hm]
      exact chooseManual_some hk
    · intro gone
      rw [choose_else hm]
      refine ⟨fun q hq hl => chooseFrom_above hs (rulingElsewhere_eq_some.mpr hq) hl, fun hq =>
        ⟨fun hd => chooseFrom_resumes hs hq hd, fun hd => ?_⟩⟩
      rw [chooseFrom_discards hs hq hd, choose_else (s := { s with seq := { s.seq with stack := rest } }) hm]
    · rw [choose_else hm, chooseFrom_nil_ruling hs (rulingElsewhere_eq_some.mpr hq)]
    · rw [choose_else hm, chooseFrom_nil hs (rulingElsewhere_eq_none hq)]
      have hpermit : switchPermitted s = true ↔ mayswitch := switchPermitted_iff hs
      refine ⟨fun h => chooseOrdinary_rests (h.imp_right fun hn hp => hn (hpermit.mp hp)), fun n hn hmay =>
        ⟨fun hw => chooseOrdinary_busy hn (hpermit.mpr hmay) (beingWritten_iff.mpr hw), fun hw =>
          ⟨fun u d hc hd => ?_, fun u p x hc ht => ?_⟩⟩⟩
      · exact chooseOrdinary_discards hn (hpermit.mpr hmay) (fun hb => hw (beingWritten_iff.mp hb)) hc hd
      · exact chooseOrdinary_switches hn (hpermit.mpr hmay) (fun hb => hw (beingWritten_iff.mp hb)) hc ht
  · intro entries wanted answers sooner yields
    have hwanted (e : SeqEntry) : eligible s passed e = true ↔ wanted e := eligible_iff
    have hnot (e : SeqEntry) (h : ¬ wanted e) : eligible s passed e = false := Bool.eq_false_iff.mpr fun he => h ((hwanted e).mp he)
    refine ⟨fun hm => ⟨fun hn => ?_, fun k e hk he hlow => ?_⟩, fun hm => ⟨fun g k e ho hk ha hlow hmax => ?_, fun hn =>
      ⟨fun hw => ?_, fun k e hk he hlow => ?_⟩⟩⟩
    · rw [chooseEntry_cyclic hm, find?_numbered_none (l := s.sequence.entries) (fun e he n => hnot e (hn e he))]
      · rfl
      · exact fun x hx => (List.mem_append.mp hx).elim List.mem_of_mem_drop List.mem_of_mem_take
    · change chooseEntry passed s = _
      rw [chooseEntry_cyclic hm, find?_numbered_round hk ((hwanted e).mpr he) fun i x hi hs => hnot x (hlow i x hi hs)]
      rfl
    · change chooseEntry passed s = _
      rw [chooseEntry_ranked hm, mostOverdue_eq_some ho (entryFor_first hk ha hlow) fun h hh hs => hmax h hh (exists_of_entryFor hs)]
      rfl
    · rw [chooseEntry_ranked hm, mostOverdue_eq_none fun g hg => entryFor_none (hn g hg),
        find?_numbered_none (l := s.sequence.entries) (fun e he n => hnot e (hw e he)) fun _ hx => hx]
      rfl
    · change chooseEntry passed s = _
      rw [chooseEntry_ranked hm, mostOverdue_eq_none fun g hg => entryFor_none (hn g hg),
        find?_numbered hk ((hwanted e).mpr he) fun i x hi hs => hnot x (hlow i x hi hs)]
      rfl

end Sys2Proof.Machine
end

section
namespace Sys2Proof.Machine

variable {s t u : State}

/-! ### What an operation tells the host -/

/-- The time stands, and the link has got nothing but reports. -/
structure Tells (s t : State) : Prop where
  time : t.time = s.time
  reports : ∃ l : List ReportBody, t.lnk = (l.foldl State.report s).lnk

theorem Tells.refl (s : State) : Tells s s := ⟨rfl, [], rfl⟩

theorem Tells.trans (h : Tells s t) (k : Tells t u) : Tells s u :=
  ⟨k.time.trans h.time, reports_trans h.time h.reports k.reports⟩

theorem Tells.of_eq (hl : t.lnk = s.lnk) (ht : t.time = s.time) : Tells s t := ⟨ht, [], hl⟩

theorem tells_report (s : State) (b : ReportBody) : Tells s (s.report b) := ⟨rfl, [b], rfl⟩

theorem Ordered.tells (h : Ordered s t) : Tells s t := ⟨h.store.2.2.1, h.reports⟩

theorem SameOutsideGroups.tells (h : SameOutsideGroups s t) : Tells s t := by
  obtain ⟨-, -, -, -, -, hlnk, htime, -⟩ := h.reads
  exact .of_eq hlnk htime

theorem PlanSide.tells (h : PlanSide s t) : Tells s t := ⟨h.time, h.reports⟩

theorem PriActs.tells {A : ApproachId → Prop} {C : Prop} (h : PriActs A C s t) : Tells s t := ⟨h.outside.kept.1, h.reports⟩

theorem LookKeeps.tells (h : LookKeeps s t) : Tells s t := ⟨h.store.2.2.1, h.reports⟩

theorem SlotsRead.tells (h : SlotsRead s t) : Tells s t := .of_eq h.reads.2.2.2.2.1 h.reads.2.2.2.2.2.1

theorem Tells.foldl {α : Type} {f : State → α → State} (hf : ∀ u x, Tells u (f u x)) (l : List α) (s : State) :
    Tells s (l.foldl f s) := by
  induction l generalizing s with
  | nil => exact .refl s
  | cons x l ih => exact (hf s x).trans (ih _)

theorem Lnk.accept_tx (l : Lnk) (r : Report) : (l.accept r).tx = l.tx := by
  unfold Lnk.accept
  dsimp only
  split
  · split <;> rfl
  · split <;> rfl
  · split
    · rfl
    · split <;> rfl

theorem Lnk.begin'_of_busy {l : Lnk} {f : TxFrame} (h : l.tx = some f) : l.begin' = l := by simp only [Lnk.begin', h]

theorem report_tx_of_busy {f : TxFrame} (h : s.lnk.tx = some f) (b : ReportBody) : (s.report b).lnk.tx = some f := by
  have haccept : (s.lnk.accept { time := s.time, body := b }).tx = some f := (Lnk.accept_tx _ _).trans h
  rw [State.report_lnk, Lnk.begin'_of_busy haccept, haccept]

/-- A frame in transmission stays there while reports are queued. -/
theorem Tells.tx (h : Tells s t) {f : TxFrame} (hb : s.lnk.tx = some f) : t.lnk.tx = some f := by
  obtain ⟨l, hl⟩ := h.reports
  rw [hl]
  clear hl h
  induction l generalizing s with
  | nil => exact hb
  | cons b l ih => exact ih (report_tx_of_busy hb b)

/-- An idle transmitter begins a reply at once. -/
theorem reply_tx_of_idle (h : s.lnk.tx = none) (hr : s.lnk.replies = []) (code tag : Byte) (x : Status) (items : List Byte) :
    (s.reply code tag x items).lnk.tx = some (.reply {
      kind := code + 0x40, tag := tag, status := x, items := items, markers := { requestsLost := s.lnk.requestsLost } }) := by
  have hlen : s.lnk.replies.length < Config.replyCapacity := by
    rw [hr]
    decide
  rw [State.reply, State.onLnk_lnk, Lnk.reply_of_lt _ hlen, hr]
  simp only [Lnk.begin', h, List.nil_append]

/-! ### The start check and the entry into STARTUP (R145, R146) -/

theorem makeActiveCopy_rest (p : Plan) (s : State) :
    { makeActiveCopy p s with pts := { (makeActiveCopy p s).pts with activeCopy := s.pts.activeCopy, clamped := s.pts.clamped } } = s := by
  unfold makeActiveCopy
  split <;> rfl

theorem readSlot_snd_congr (h : t.pts = s.pts) (k : PlanSlot) : (readSlot k t).2 = (readSlot k s).2 := by
  unfold readSlot
  rw [State.slot, State.slot, h]
  dsimp only
  split
  · rfl
  · split <;> rfl

/-- Whether contents pass their check depends on the store alone. -/
theorem checkContents_snd_congr (h : t.pts = s.pts) (n : SlotNo) : (checkContents n t).2 = (checkContents n s).2 := by
  cases hx : s.pts.tables with
  | none => rw [checkContents_noTables hx, checkContents_noTables (h ▸ hx)]
  | some x =>
    cases hk : SlotNo.plan? n with
    | none =>
      simp only [checkContents, h, hx, hk]
      cases s.pts.trial.complete? with
      | none => rfl
      | some p =>
        dsimp only
        cases wholePlanCheck x p <;> rfl
    | some k =>
      simp only [checkContents, h, hx, hk, readSlot_snd_congr h k]
      cases (readSlot k s).2 with
      | none => rfl
      | some p =>
        dsimp only
        cases wholePlanCheck x p <;> rfl

theorem activationCheck_snd_congr (h : t.pts = s.pts) (n : SlotNo) : (activationCheck n t).2 = (activationCheck n s).2 := by
  have hb : t.beingWritten n = s.beingWritten n := by
    rw [State.beingWritten, State.beingWritten, State.writingSlot?, State.writingSlot?, h]
  unfold activationCheck
  rw [hb]
  split
  · rfl
  · exact checkContents_snd_congr h n

theorem slotsRead_activationCheck (n : SlotNo) (s : State) : SlotsRead s (activationCheck n s).1 := by
  unfold activationCheck
  split
  · exact .refl s
  · exact slotsRead_checkContents n s

theorem fitToRun_congr (h : t.pts = s.pts) (hs : t.seq.activeSlot = s.seq.activeSlot) : fitToRun t = fitToRun s := by
  unfold fitToRun
  rw [hs]
  cases s.seq.activeSlot with
  | none => rfl
  | some n =>
    dsimp only
    rw [activationCheck_snd_congr h]

theorem startCheck_latched (h : s.cmon.first.isSome = true) : startCheck s = (s, some .faultLatched) := if_pos h

section StartCheck

variable (hf : s.cmon.first = none)
include hf

/-- A plan that is fit to run is taken as it stands, on a copy made anew. -/
theorem startCheck_fit (h : fitToRun s = true) : ∃ v p, startCheck s = (makeActiveCopy p v, none) ∧ SlotsRead s v := by
  unfold fitToRun at h
  split at h
  · cases h
  · next n hn =>
    split at h
    · next p hp =>
      have hread := slotsRead_activationCheck n s
      generalize hy : activationCheck n s = y at hread hp
      obtain ⟨v, c⟩ := y
      dsimp only at hp hread
      subst hp
      refine ⟨v, p, ?_, hread⟩
      simp only [startCheck, State.faultLatched, hf, hn, hy, Option.isSome_none, Bool.false_eq_true, if_false, if_true]
    · cases h

/-- A plan that is not fit to run gives way to what the start-plan selection finds. -/
theorem startCheck_unfit (h : fitToRun s = false) : ∃ v, SlotsRead s v ∧ startCheck s =
    (startPlanSelection v, if (startPlanSelection v).seq.activeSlot.isSome = true then none else some .invalid) := by
  have apart (z : State) (c : Prop) [Decidable c] : (if c then (z, none) else (z, some Status.invalid)) =
      (z, if c then none else some .invalid) := by split <;> rfl
  unfold fitToRun at h
  cases hn : s.seq.activeSlot with
  | none =>
    refine ⟨s, .refl s, ?_⟩
    simp only [startCheck, State.faultLatched, hf, hn, Option.isSome_none, Bool.false_eq_true, if_false, apart]
  | some n =>
    rw [hn] at h
    dsimp only at h
    have hread := slotsRead_activationCheck n s
    generalize hy : activationCheck n s = y at hread h
    obtain ⟨v, c⟩ := y
    cases c with
    | ok p => cases h
    | error d =>
      refine ⟨v, hread, ?_⟩
      simp only [startCheck, State.faultLatched, hf, hn, hy, Option.isSome_none, Bool.false_eq_true, if_false, apart]

end StartCheck

end Sys2Proof.Machine
end

section
namespace Sys2Proof.Machine

variable {s t u : State}

/-! ### SEQ at a start (R86) -/

/-- What latching demands from state writes: the demands, the notices and reports. -/
structure LatchesOnly (s t : State) : Prop where
  rest : { t with seq := { t.seq with demand := s.seq.demand }, notices := s.notices, lnk := s.lnk } = s
  tells : Tells s t

theorem LatchesOnly.refl (s : State) : LatchesOnly s s := ⟨rfl, .refl s⟩

theorem LatchesOnly.trans (h : LatchesOnly s t) (k : LatchesOnly t u) : LatchesOnly s u :=
  ⟨by rw [← h.rest, ← k.rest], h.tells.trans k.tells⟩

theorem latchesOnly_latch {src : DemandSource} (h : src ≠ .button) (g : GroupId) (s : State) : LatchesOnly s (latch g src s) := by
  have hb : (decide (src = .button) && !DemandSet.has (s.dem g).sources .button) = false := by simp [h]
  rw [latch_eq, if_neg (by rw [hb]; exact Bool.false_ne_true), demanded]
  split
  · exact ⟨rfl, rfl, [], rfl⟩
  · exact ⟨rfl, rfl, [_], rfl⟩

theorem latchesOnly_latchFromState (g : GroupId) (s : State) : LatchesOnly s (latchFromState g s) := by
  unfold latchFromState
  split
  · exact .refl s
  · dsimp only
    have h1 : LatchesOnly s (if (s.times g).recallOn = true then latch g .recalled s else s) := by
      split
      · exact latchesOnly_latch (src := .recalled) nofun g s
      · exact .refl s
    generalize (if (s.times g).recallOn = true then latch g .recalled s else s) = v at h1 ⊢
    split
    · exact h1.trans (latchesOnly_latch (src := .fault) nofun g v)
    · exact h1

theorem LatchesOnly.foldl {α : Type} {f : State → α → State} (hf : ∀ u x, LatchesOnly u (f u x)) (l : List α) (s : State) :
    LatchesOnly s (l.foldl f s) := by
  induction l generalizing s with
  | nil => exact .refl s
  | cons x l ih => exact (hf s x).trans (ih _)

theorem LatchesOnly.reads (h : LatchesOnly s t) : t.sge = s.sge ∧ t.dti = s.dti ∧ t.pri = s.pri ∧ t.jmc = s.jmc ∧ t.pts = s.pts
    ∧ t.cmon = s.cmon ∧ { t.seq with demand := s.seq.demand } = s.seq := by
  rw [← h.rest]
  exact ⟨rfl, rfl, rfl, rfl, rfl, rfl, rfl⟩

/-- The state in which the transition to START_STAGE begins. -/
def startNoticed (s : State) : State :=
  let v := s.presentGroups.foldl (fun s g => latchFromState g s) s
  let place := positionOf v.sequence.entries v.sequence.startStage
  v.onSeq fun x => { x with position := place }

theorem startUpNotice_eq (s : State) : startUpNotice s =
    (beginTransition (startNoticed s).sequence.startStage 0 none (startNoticed s)).report
      (.stageChange none (startNoticed s).sequence.startStage .startup 0) := rfl

theorem startNoticed_spec (s : State) : (startNoticed s).sge = s.sge ∧ (startNoticed s).dti = s.dti ∧ (startNoticed s).pri = s.pri
    ∧ (startNoticed s).jmc = s.jmc ∧ (startNoticed s).pts = s.pts ∧ (startNoticed s).cmon = s.cmon
    ∧ { (startNoticed s).seq with demand := s.seq.demand, position := s.seq.position } = s.seq ∧ Tells s (startNoticed s) := by
  have h := LatchesOnly.foldl (f := fun s g => latchFromState g s) (fun u g => latchesOnly_latchFromState g u) s.presentGroups s
  unfold startNoticed
  generalize s.presentGroups.foldl (fun s g => latchFromState g s) s = v at h ⊢
  obtain ⟨hsge, hdti, hpri, hjmc, hpts, hcmon, hseq⟩ := h.reads
  refine ⟨hsge, hdti, hpri, hjmc, hpts, hcmon, ?_, h.tells.trans (.of_eq rfl rfl)⟩
  rw [← hseq]
  rfl

/-- What SEQ's taking of the start-up notice leaves. -/
theorem startUpNotice_spec (s : State) :
    let u := startUpNotice s
    u.seq.current = some s.sequence.startStage ∧ u.seq.groups = s.stageGroups s.sequence.startStage ∧ u.seq.level = 0
      ∧ u.seq.activeSlot = s.seq.activeSlot ∧ u.dti = s.dti ∧ u.pri = s.pri ∧ u.jmc = s.jmc ∧ u.pts = s.pts
      ∧ (∀ g, u.grp g = (commanded (startNoticed s).sequence.startStage 0 none (startNoticed s)).grp g) ∧ Tells s u := by
  obtain ⟨-, hdti, hpri, hjmc, hpts, -, hseq, htells⟩ := startNoticed_spec s
  have hslot : (startNoticed s).seq.activeSlot = s.seq.activeSlot := by rw [← hseq]
  have hsequence : (startNoticed s).sequence = s.sequence := sequence_congr (by rw [hpts]) hslot
  have hstage (t : StageId) : (startNoticed s).stageGroups t = s.stageGroups t := stageGroups_congr (by rw [hpts]) hslot t
  rw [startUpNotice_eq]
  generalize startNoticed s = v at hdti hpri hjmc hpts hseq htells hslot hsequence hstage ⊢
  obtain ⟨useq, ugrp, upri, udti, ujmc, upts, ulnk, utime⟩ := beginTransition_spec v.sequence.startStage 0 none v
  generalize beginTransition v.sequence.startStage 0 none v = w at useq ugrp upri udti ujmc upts ulnk utime ⊢
  intro u
  refine ⟨?_, ?_, ?_, ?_, ?_, ?_, ?_, ?_, fun g => ugrp g, ?_⟩
  · change w.seq.current = _
    rw [useq, ← hsequence]
    rfl
  · change w.seq.groups = _
    rw [useq, ← hsequence, ← hstage]
    rfl
  · change w.seq.level = _
    rw [useq]
    rfl
  · change w.seq.activeSlot = _
    rw [useq, ← hslot]
    rfl
  · exact udti.trans hdti
  · exact upri.trans hpri
  · exact ujmc.trans hjmc
  · exact upts.trans hpts
  · exact (htells.trans (.of_eq ulnk utime)).trans (tells_report w _)

/-! ### ALL_RED and STARTUP (R22, R146, R147) -/

/-- The state after ALL_RED's orders to the groups. -/
def allRed (s : State) : State := groupsToAllRed (setPhase .allRed s.monitorStart.startClear s)

theorem beginAllRed_eq (s : State) : beginAllRed s = startUpNotice (allRed s) := rfl

theorem allRed_spec (s : State) : (allRed s).jmc = { s.jmc with phase := some .allRed, timer := s.monitorStart.startClear }
    ∧ (allRed s).seq = s.seq ∧ (allRed s).dti = s.dti ∧ (allRed s).pri = s.pri ∧ (allRed s).pts = s.pts ∧ Tells s (allRed s) := by
  have hout := sameOutsideGroups_groupsToAllRed (setPhase .allRed s.monitorStart.startClear s)
  have htells : Tells s (setPhase .allRed s.monitorStart.startClear s) := ⟨rfl, [_], rfl⟩
  obtain ⟨hpts, hseq, hdti, hpri, hjmc, -⟩ := hout.reads
  unfold allRed
  generalize groupsToAllRed (setPhase .allRed s.monitorStart.startClear s) = v at hout hpts hseq hdti hpri hjmc ⊢
  exact ⟨hjmc, hseq, hdti, hpri, hpts, htells.trans hout.tells⟩

/-- What the beginning of ALL_RED leaves. -/
theorem beginAllRed_spec (s : State) :
    let u := beginAllRed s
    u.jmc = { s.jmc with phase := some .allRed, timer := s.monitorStart.startClear }
      ∧ u.seq.current = some s.sequence.startStage ∧ u.seq.groups = s.stageGroups s.sequence.startStage ∧ u.seq.level = 0
      ∧ u.seq.activeSlot = s.seq.activeSlot ∧ u.dti = s.dti ∧ u.pri = s.pri ∧ u.pts = s.pts ∧ Tells s u := by
  obtain ⟨hjmc, hseq, hdti, hpri, hpts, htells⟩ := allRed_spec s
  have hslot : (allRed s).seq.activeSlot = s.seq.activeSlot := by rw [hseq]
  have hsequence : (allRed s).sequence = s.sequence := sequence_congr (by rw [hpts]) hslot
  have hstage (t : StageId) : (allRed s).stageGroups t = s.stageGroups t := stageGroups_congr (by rw [hpts]) hslot t
  rw [beginAllRed_eq]
  generalize allRed s = v at hjmc hseq hdti hpri hpts htells hslot hsequence hstage ⊢
  obtain ⟨ucur, ugrp, ulev, uslot, udti, upri, ujmc, upts, -, utells⟩ := startUpNotice_spec v
  rw [hsequence] at ucur ugrp
  rw [hstage] at ugrp
  exact ⟨ujmc.trans hjmc, ucur, ugrp, ulev, uslot.trans hslot, udti.trans hdti, upri.trans hpri, upts.trans hpts,
    htells.trans utells⟩

theorem abandonTableWrite_spec (s : State) :
    { abandonTableWrite s with pts := { (abandonTableWrite s).pts with write := s.pts.write }, lnk := s.lnk } = s
      ∧ Tells s (abandonTableWrite s) := by
  unfold abandonTableWrite
  split
  · exact ⟨rfl, rfl, [_], rfl⟩
  · exact ⟨rfl, .refl s⟩

/-- The state in which CMON looks as STARTUP is entered. -/
def starting (cause : ModeCause) (s : State) : State :=
  abandonTableWrite (setMode .startup (some .startFlashing) none cause
    (s.onJmc fun j => { j with timer := s.monitorStart.startFlash, firstRunning := false }))

theorem enterStartUp_eq (cause : ModeCause) (s : State) : enterStartUp cause s =
    if (s.monitorStart.startFlash = 0 && (evaluate (starting cause s)).jmc.mode = .startup) = true then
      beginAllRed (evaluate (starting cause s))
    else evaluate (starting cause s) := rfl

theorem starting_spec (cause : ModeCause) (s : State) : (starting cause s).jmc.mode = .startup
    ∧ (starting cause s).seq = s.seq ∧ { (starting cause s).pts with write := s.pts.write } = s.pts
    ∧ (s.jmc.mode ≠ .dark → (starting cause s).cmon.recs = s.cmon.recs) ∧ (starting cause s).cmon.integrity = s.cmon.integrity
    ∧ (starting cause s).cmon.compareTimer = s.cmon.compareTimer ∧ Tells s (starting cause s) := by
  obtain ⟨v, hv⟩ : ∃ v, v = s.onJmc fun j => { j with timer := s.monitorStart.startFlash, firstRunning := false } := ⟨_, rfl⟩
  have hstart : starting cause s = abandonTableWrite (setMode .startup (some .startFlashing) none cause v) := by rw [hv]; rfl
  have hord : Ordered v (setMode .startup (some .startFlashing) none cause v) := (Ordered.refl v).setMode _ _ _ _
  have hjmc : (setMode .startup (some .startFlashing) none cause v).jmc.mode = .startup := by rw [setMode, setModeFrom_jmc]
  have hseq : (setMode .startup (some .startFlashing) none cause v).seq = v.seq := setModeFrom_seq v _ _ _ _ _
  have hrecs : (setMode .startup (some .startFlashing) none cause v).cmon.recs = v.cmon.recs := by
    have hmode : (monitorMode v.jmc.mode (v.onJmc fun j =>
        { j with mode := .startup, phase := some .startFlashing, darkCause := none })).cmon.recs = v.cmon.recs := by
      unfold monitorMode
      dsimp only
      rw [if_neg (by simp)]
      rfl
    rw [setMode, setModeFrom, State.report_cmon, hmode]
  obtain ⟨hpts, -⟩ := hord.store
  obtain ⟨-, -, -, -, -, hint, hcmp⟩ := hord.recorded
  rw [hstart]
  generalize setMode .startup (some .startFlashing) none cause v = w at hord hjmc hseq hrecs hpts hint hcmp ⊢
  obtain ⟨hrest, htells⟩ := abandonTableWrite_spec w
  generalize abandonTableWrite w = z at hrest htells ⊢
  have hz : z.jmc = w.jmc ∧ z.seq = w.seq ∧ z.cmon = w.cmon ∧ { z.pts with write := w.pts.write } = w.pts := by
    rw [← hrest]
    exact ⟨rfl, rfl, rfl, rfl⟩
  obtain ⟨zjmc, zseq, zcmon, zpts⟩ := hz
  have htells' : Tells s z := (Tells.of_eq (s := s) (t := v) (by rw [hv]; rfl) (by rw [hv]; rfl)).trans (hord.tells.trans htells)
  rw [zjmc, zseq, zcmon]
  refine ⟨hjmc, by rw [hseq, hv]; rfl, ?_, fun _ => by rw [hrecs, hv]; rfl, by rw [hint, hv]; rfl, by rw [hcmp, hv]; rfl, htells'⟩
  have hvp : v.pts = s.pts := by rw [hv]; rfl
  rw [hpts, hvp] at zpts
  exact zpts

/-- What an entry into STARTUP leaves. -/
theorem enterStartUp_spec (cause : ModeCause) (s : State) :
    let u := enterStartUp cause s
    u.seq.activeSlot = s.seq.activeSlot ∧ { u.pts with write := s.pts.write } = s.pts
      ∧ (u.jmc.mode = .startup ∨ (u.jmc.mode = .flash ∧ u.jmc.phase = none ∧ u.cmon.first.isSome = true)) ∧ Tells s u := by
  obtain ⟨hmode, hseq, hpts, -, -, -, htells⟩ := starting_spec cause s
  have hkeeps := evaluate_keeps (starting cause s)
  rw [enterStartUp_eq]
  generalize starting cause s = v at hmode hseq hpts htells hkeeps ⊢
  obtain ⟨vpts, -⟩ := hkeeps.store
  have vslot := hkeeps.activeSlot
  have vmode := hkeeps.mode
  have vtells := hkeeps.tells
  generalize evaluate v = w at vpts vslot vmode vtells ⊢
  dsimp only
  split
  · next h0 =>
    have hw : w.jmc.mode = .startup := of_decide_eq_true (Bool.and_eq_true_iff.mp h0).2
    obtain ⟨ujmc, -, -, -, uslot, -, -, upts, utells⟩ := beginAllRed_spec w
    refine ⟨?_, ?_, .inl ?_, (htells.trans vtells).trans utells⟩
    · rw [uslot, vslot, hseq]
    · rw [upts, vpts, hpts]
    · rw [ujmc]
      exact hw
  · refine ⟨?_, ?_, ?_, htells.trans vtells⟩
    · rw [vslot, hseq]
    · rw [vpts, hpts]
    · exact vmode.imp_left fun hj => by rw [hj, hmode]

/-- A start with no comparison due and nothing fatal present goes on. -/
theorem enterStartUp_sound (cause : ModeCause) (hm : s.jmc.mode ≠ .dark) (ht : s.cmon.compareTimer ≠ 0)
    (h : ∀ x ∈ allConds, s.condPresent x = true → SourceSet.has s.monitorStart.fatal x.source = false) :
    (enterStartUp cause s).jmc.mode = .startup := by
  obtain ⟨hmode, -, hpts, hrecs, hint, hcmp, -⟩ := starting_spec cause s
  rw [enterStartUp_eq]
  generalize starting cause s = v at hmode hpts hrecs hint hcmp ⊢
  have htab : v.pts.tables = s.pts.tables := by rw [← hpts]
  have hfatal : v.monitorStart = s.monitorStart := by rw [State.monitorStart, State.monitorStart, htab]
  have hstay : (evaluate v).jmc = v.jmc := by
    by_cases hf : ∃ x ∈ allConds, v.condCounts x = true ∧ x ∉ v.cmon.counted
    · obtain ⟨-, -, -, hcalm⟩ := evaluate_looked hf
      refine (hcalm fun x hx => ?_).2.2.1
      obtain ⟨hall, hcounts, -⟩ := hx
      rw [comparedIfDue_idle (by rw [hcmp]; exact ht)] at hcounts
      have hpres := (condCounts_iff.mp hcounts).2
      rw [condPresent_congr_of_dark (s := s) (by simp [hmode, hm]) htab (hrecs hm) hint] at hpres
      rw [hfatal]
      exact h x hall hpres
    · rw [evaluate_of_none fun x hx hc => hf ⟨x, hx, hc⟩]
  generalize evaluate v = w at hstay ⊢
  split
  · rw [(beginAllRed_spec w).1]
    exact hstay ▸ hmode
  · rw [hstay, hmode]

end Sys2Proof.Machine
end

section
namespace Sys2Proof.Machine

variable {s t u v : State} {tag : Byte}

/-! ### What a change of mode tells the host, and the mode it leaves (R144, R150 to R155) -/

theorem releaseAll_spec (l : List GroupId) (s : State) :
    (l.foldl (fun s g => if (s.holders g).isEmpty then s else releaseGroup g (s.setHolders g [])) s).jmc = s.jmc
      ∧ Tells s (l.foldl (fun s g => if (s.holders g).isEmpty then s else releaseGroup g (s.setHolders g [])) s) := by
  have hstep (u : State) (g : GroupId) : (if (u.holders g).isEmpty then u else releaseGroup g (u.setHolders g [])).jmc = u.jmc
      ∧ (if (u.holders g).isEmpty then u else releaseGroup g (u.setHolders g [])).lnk = u.lnk
      ∧ (if (u.holders g).isEmpty then u else releaseGroup g (u.setHolders g [])).time = u.time := by
    unfold releaseGroup
    split
    · exact ⟨rfl, rfl, rfl⟩
    · split <;> exact ⟨rfl, rfl, rfl⟩
  exact ⟨foldl_same (r := State.jmc) (fun u g => (hstep u g).1) l s,
    Tells.foldl (fun u g => .of_eq (hstep u g).2.1 (hstep u g).2.2) l s⟩

theorem dropCalls_spec (s : State) : (dropCalls s).jmc = s.jmc ∧ Tells s (dropCalls s) := by
  have hdrop (l : List Call) (u : State) : (l.foldl (fun s c => reportCall .dropped c.id s) u).jmc = u.jmc
      ∧ Tells u (l.foldl (fun s c => reportCall .dropped c.id s) u) :=
    ⟨foldl_same (r := State.jmc) (fun _ _ => by rfl) l u, Tells.foldl (fun u c => tells_report u _) l u⟩
  obtain ⟨hjmc, htells⟩ := hdrop s.pri.calls s
  unfold dropCalls
  generalize s.pri.calls.foldl (fun s c => reportCall .dropped c.id s) s = v at hjmc htells ⊢
  exact ⟨hjmc, htells.trans (.of_eq rfl rfl)⟩

theorem priEndNormal_spec (s : State) : (priEndNormal s).jmc = s.jmc ∧ Tells s (priEndNormal s) := by
  obtain ⟨hjmc, htells⟩ := releaseAll_spec groupIds (stopPlanning s)
  have hstop : (stopPlanning s).jmc = s.jmc ∧ Tells s (stopPlanning s) := ⟨rfl, .of_eq rfl rfl⟩
  unfold priEndNormal
  generalize stopPlanning s = v at hjmc htells hstop ⊢
  dsimp only
  generalize groupIds.foldl _ v = w at hjmc htells ⊢
  obtain ⟨kjmc, ktells⟩ := dropCalls_spec w
  generalize dropCalls w = z at kjmc ktells ⊢
  exact ⟨kjmc.trans (hjmc.trans hstop.1), (hstop.2.trans htells).trans (ktells.trans (.of_eq rfl rfl))⟩

theorem setMode_spec (m : Mode) (p : Option Phase) (d : Option DarkCause) (c : ModeCause) (s : State) :
    (setMode m p d c s).jmc = { s.jmc with mode := m, phase := p, darkCause := d } ∧ Tells s (setMode m p d c s) :=
  ⟨setModeFrom_jmc _ m p d c s, ((Ordered.refl s).setMode m p d c).tells⟩

theorem enterManual_spec (s : State) : (enterManual s).jmc.mode = .manual ∧ Tells s (enterManual s) := by
  obtain ⟨hjmc, htells⟩ := setMode_spec .manual none none .request s
  unfold enterManual
  generalize setMode .manual none none .request s = v at hjmc htells ⊢
  obtain ⟨kjmc, ktells⟩ := priEndNormal_spec (seqManual v)
  generalize priEndNormal (seqManual v) = w at kjmc ktells ⊢
  have hmode : w.jmc.mode = .manual := by
    rw [kjmc]
    change v.jmc.mode = _
    rw [hjmc]
  have hman : Tells v (seqManual v) := .of_eq rfl rfl
  exact ⟨hmode, (htells.trans hman).trans (ktells.trans (.of_eq rfl rfl))⟩

theorem normalBegins_spec (s : State) : (normalBegins s).jmc = s.jmc ∧ Tells s (normalBegins s) := by
  have hacts : PriActs (fun _ => True) True s
      (approachIds.foldl (fun s a => if takesOver s a then serveHead a s else s) s) :=
    (PriActs.refl s).foldl _ _ fun _ a _ hu => PriActs.ite (fun _ => hu.serveHead trivial) fun _ => hu
  unfold normalBegins
  generalize approachIds.foldl (fun s a => if takesOver s a then serveHead a s else s) s = v at hacts ⊢
  obtain ⟨-, -, hjmc, -⟩ := hacts.outside.blocks
  exact ⟨hjmc, hacts.tells.trans (.of_eq rfl rfl)⟩

theorem leaveManual_spec (s : State) : (leaveManual s).jmc.mode = .normal ∧ Tells s (leaveManual s) := by
  obtain ⟨hjmc, htells⟩ := setMode_spec .normal none none .request s
  unfold leaveManual
  generalize setMode .normal none none .request s = v at hjmc htells ⊢
  obtain ⟨kjmc, ktells⟩ := normalBegins_spec (seqNormal v)
  have hnormal : Tells v (seqNormal v) := .of_eq rfl rfl
  refine ⟨?_, (htells.trans hnormal).trans ktells⟩
  rw [kjmc]
  change v.jmc.mode = _
  rw [hjmc]

theorem flashFromStartUp_spec (s : State) : (flashFromStartUp s).jmc.mode = .flash ∧ Tells s (flashFromStartUp s) := by
  obtain ⟨hjmc, htells⟩ := setMode_spec .flash none none .request (endStartUp s)
  have hend : Tells s (endStartUp s) := .of_eq rfl rfl
  have hord := (Ordered.refl (setMode .flash none none .request (endStartUp s))).flashOrders
  refine ⟨?_, (hend.trans htells).trans hord.tells⟩
  rw [flashFromStartUp, flashOrders_jmc, hjmc]

theorem flashFromDark_spec (s : State) : (flashFromDark s).jmc.mode = .flash ∧ Tells s (flashFromDark s) := by
  obtain ⟨hjmc, htells⟩ := setMode_spec .flash none none .request s
  have hord := (Ordered.refl (setMode .flash none none .request s)).flashOrders
  have hmode : (flashOrders (setMode .flash none none .request s)).jmc.mode = .flash := by rw [flashOrders_jmc, hjmc]
  unfold flashFromDark
  generalize flashOrders (setMode .flash none none .request s) = v at hord hmode ⊢
  have hkeeps := evaluate_keeps v
  refine ⟨?_, (htells.trans hord.tells).trans hkeeps.tells⟩
  obtain h | ⟨h, -⟩ := hkeeps.mode
  · rw [h, hmode]
  · exact h

theorem enterClearing_spec (s : State) : (enterClearing s).jmc.mode = .clearing ∧ Tells s (enterClearing s) := by
  obtain ⟨hjmc, htells⟩ := setMode_spec .clearing none none .request (endStartUp s)
  have hend : Tells s (endStartUp s) := .of_eq rfl rfl
  unfold enterClearing
  generalize setMode .clearing none none .request (endStartUp s) = v at hjmc htells ⊢
  dsimp only
  obtain ⟨kjmc, ktells⟩ := priEndNormal_spec (seqAbandon v)
  generalize priEndNormal (seqAbandon v) = w at kjmc ktells ⊢
  have hout := sameOutsideGroups_closing w.presentGroups w
  rw [closing] at hout
  generalize w.presentGroups.foldl (fun s g => closeCommand g s) w = z at hout ⊢
  obtain ⟨-, -, -, -, zjmc, -⟩ := hout.reads
  have habandon : Tells v (seqAbandon v) := .of_eq rfl rfl
  refine ⟨?_, (hend.trans htells).trans (habandon.trans (ktells.trans (hout.tells.trans (.of_eq rfl rfl))))⟩
  rw [State.push_jmc, zjmc, kjmc]
  change v.jmc.mode = _
  rw [hjmc]

theorem enterDark_tells (w : DarkCause) (c : ModeCause) (s : State) : Tells s (enterDark w c s) :=
  ((Ordered.refl s).enterDark w c).tells

/-- An idle transmitter begins the reply that a mode request was taken before any report of the change. -/
theorem modeTaken_tx {m : Mode} (hl : v.lnk = s.lnk) (h : Tells (modeTaken tag m v) u) (ht : s.lnk.tx = none)
    (hr : s.lnk.replies = []) : u.lnk.tx = some (.reply {
      kind := 0x4A, tag := tag, status := .ok, items := [BitVec.ofNat 8 m.code]
      markers := { requestsLost := s.lnk.requestsLost } }) := by
  have hbegun := reply_tx_of_idle (s := v) (by rw [hl]; exact ht) (by rw [hl]; exact hr) 0x0A tag .ok (byte1 m.code)
  rw [h.tx hbegun, hl]
  rfl

/-! ### MODE_REQUEST by the mode it finds (R144) -/

section Rows

theorem exec_modeRequest (tag : Byte) (code : Nat) (s : State) :
    exec (.modeRequest tag code) s = .next (settle Config.reactionBound (takeModeRequest tag code s.begun)) := rfl

theorem takeModeRequest_range {code : Nat} (h : code = 2 ∨ 4 < code) (s : State) :
    takeModeRequest tag code s = s.reply 0x0A tag .range := by
  obtain rfl | h := h
  · rfl
  · match code, h with
    | 5, _ => rfl
    | n + 6, _ => rfl

theorem modeRefused_dropped (h : s.jmc.mode = .dark ∧ s.jmc.darkCause = some .safeDropped) :
    modeRefused tag s = s.reply 0x0A tag .faultLatched := by
  simp [modeRefused, h.1, h.2]

theorem modeRefused_else (h : ¬ (s.jmc.mode = .dark ∧ s.jmc.darkCause = some .safeDropped)) :
    modeRefused tag s = s.reply 0x0A tag .wrongMode :=
  if_neg (by simpa using h)

theorem takeModeRequest_dark (tag : Byte) (s : State) : takeModeRequest tag 0 s =
    if s.jmc.mode = .flash then enterDark .requested .request (modeTaken tag .dark s) else modeRefused tag s := rfl

theorem takeModeRequest_manual (tag : Byte) (s : State) : takeModeRequest tag 4 s =
    if s.jmc.mode = .normal then enterManual (modeTaken tag .manual s) else modeRefused tag s := rfl

theorem takeModeRequest_flash (tag : Byte) (s : State) : takeModeRequest tag 1 s = requestFlash tag s := rfl

theorem takeModeRequest_normal (tag : Byte) (s : State) : takeModeRequest tag 3 s = requestNormal tag s := rfl

theorem requestNormal_flash (h : s.jmc.mode = .flash) {v : State} :
    (startCheck s = (v, none) → requestNormal tag s = enterStartUp .request (modeTaken tag .startup v))
    ∧ ∀ e, startCheck s = (v, some e) → requestNormal tag s = v.reply 0x0A tag e := by
  constructor
  · intro hc
    simp only [requestNormal, h, hc]
  · intro e hc
    simp only [requestNormal, h, hc]

theorem requestNormal_manual (h : s.jmc.mode = .manual) : requestNormal tag s = leaveManual (modeTaken tag .normal s) := by
  simp only [requestNormal, h]

theorem requestNormal_else (h : s.jmc.mode ≠ .flash) (h' : s.jmc.mode ≠ .manual) : requestNormal tag s = modeRefused tag s := by
  unfold requestNormal
  split
  · exact absurd ‹_› h
  · exact absurd ‹_› h'
  · rfl

end Rows

section Start

variable (hm : s.jmc.mode = .flash) (hf : s.cmon.first = none)
include hm hf

/-- A start in FLASH on a plan that is fit to run. -/
theorem requestNormal_fit (h : fitToRun s = true) : ∃ v, requestNormal tag s = enterStartUp .request (modeTaken tag .startup v)
    ∧ v.lnk = s.lnk ∧ v.jmc = s.jmc ∧ v.cmon = s.cmon ∧ v.pts.tables = s.pts.tables := by
  obtain ⟨v, p, hcheck, hread⟩ := startCheck_fit hf h
  obtain ⟨htab, -, -, hjmc, hlnk, -, -, -, -, hcmon, -⟩ := hread.reads
  have hrest := makeActiveCopy_rest p v
  have hcopy : (makeActiveCopy p v).lnk = v.lnk ∧ (makeActiveCopy p v).jmc = v.jmc ∧ (makeActiveCopy p v).cmon = v.cmon
      ∧ (makeActiveCopy p v).pts.tables = v.pts.tables := by
    generalize makeActiveCopy p v = w at hrest ⊢
    rw [← hrest]
    exact ⟨rfl, rfl, rfl, rfl⟩
  obtain ⟨h1, h2, h3, h4⟩ := hcopy
  exact ⟨_, (requestNormal_flash hm).1 hcheck, h1.trans hlnk, h2.trans hjmc, h3.trans hcmon, h4.trans htab⟩

end Start

/-- Settles O54. -/
theorem modeRequestsByMode : Obligations.ModeRequestsByMode := by
  intro tag s m dropped refused answered taken sound
  have hrefused (code : Nat) (x : Status) (h : takeModeRequest tag code s.begun = s.begun.reply 0x0A tag x) : refused code x :=
    exec_congr (exec_modeRequest tag code s) h
  have htaken (code : Nat) (result : Mode) (f : State → State)
      (h : takeModeRequest tag code s.begun = f (modeTaken tag result s.begun))
      (hf : ∀ v, (f v).jmc.mode = result ∧ Tells v (f v)) : taken code result := by
    refine ⟨f (modeTaken tag result s.begun), exec_congr (exec_modeRequest tag code s) h, (hf _).1, fun ht hr => ?_⟩
    exact modeTaken_tx (s := s) (v := s.begun) rfl (hf _).2 ht hr
  have start (h : m = .flash) (hf : s.cmon.first = none) (hfit : fitToRun s = true) :
      ∃ v, takeModeRequest tag 3 s.begun = enterStartUp .request (modeTaken tag .startup v)
        ∧ v.lnk = s.lnk ∧ v.jmc = s.jmc ∧ v.cmon = s.cmon ∧ v.pts.tables = s.pts.tables :=
    requestNormal_fit (s := s.begun) h hf ((fitToRun_congr (s := s) (t := s.begun) rfl rfl).trans hfit)
  refine ⟨fun code hc => hrefused code .range (takeModeRequest_range hc s.begun), fun hd => ?_, fun hd => ?_⟩
  · have hrow : modeRefused tag s.begun = s.begun.reply 0x0A tag .faultLatched := modeRefused_dropped (s := s.begun) hd
    have hne : s.begun.jmc.mode ≠ .flash ∧ s.begun.jmc.mode ≠ .normal ∧ s.begun.jmc.mode ≠ .manual := by
      rw [show s.begun.jmc.mode = .dark from hd.1]
      exact ⟨nofun, nofun, nofun⟩
    refine ⟨hrefused 0 _ ?_, hrefused 1 _ ?_, hrefused 3 _ ?_, hrefused 4 _ ?_⟩
    · rw [takeModeRequest_dark, if_neg hne.1, hrow]
    · rw [takeModeRequest_flash]
      simp only [requestFlash, show s.begun.jmc.mode = .dark from hd.1, show s.begun.jmc.darkCause = some .safeDropped from hd.2]
    · rw [takeModeRequest_normal, requestNormal_else hne.1 hne.2.2, hrow]
    · rw [takeModeRequest_manual, if_neg hne.2.1, hrow]
  · have hrow : modeRefused tag s.begun = s.begun.reply 0x0A tag .wrongMode := modeRefused_else (s := s.begun) hd
    refine ⟨fun h => htaken 0 .dark _ (if_pos h) fun v => ⟨by rw [enterDark_jmc], enterDark_tells ..⟩,
      fun h => hrefused 0 _ ?_, fun h => htaken 4 .manual _ (if_pos h) enterManual_spec, fun h => hrefused 4 _ ?_,
      fun h hc => hrefused 1 _ ?_, fun h hc => hrefused 1 _ ?_, fun h hc => htaken 1 .flash flashFromDark ?_ flashFromDark_spec,
      fun h => hrefused 1 _ ?_, fun h hp => htaken 1 .flash flashFromStartUp ?_ flashFromStartUp_spec,
      fun h hp => htaken 1 .clearing enterClearing ?_ enterClearing_spec,
      fun h => htaken 1 .clearing enterClearing ?_ enterClearing_spec,
      fun h => htaken 3 .normal leaveManual (requestNormal_manual (s := s.begun) h) leaveManual_spec,
      fun h hf => hrefused 3 _ ?_, fun h hf hfit hs => ?_, fun h hf hfit => ?_,
      fun h h' => hrefused 3 _ ?_⟩
    · rw [takeModeRequest_dark, if_neg (show ¬ s.begun.jmc.mode = .flash from h), hrow]
    · rw [takeModeRequest_manual, if_neg (show ¬ s.begun.jmc.mode = .normal from h), hrow]
    · simp only [takeModeRequest_flash, requestFlash, show s.begun.jmc.mode = .dark from h,
        show s.begun.jmc.darkCause = some .verifying from hc]
    · simp only [takeModeRequest_flash, requestFlash, show s.begun.jmc.mode = .dark from h,
        show s.begun.jmc.darkCause = some .noTables from hc]
    · simp only [takeModeRequest_flash, requestFlash, show s.begun.jmc.mode = .dark from h,
        show s.begun.jmc.darkCause = some .requested from hc]
    · obtain h | h := h
      · simp only [takeModeRequest_flash, requestFlash, show s.begun.jmc.mode = .flash from h]
      · simp only [takeModeRequest_flash, requestFlash, show s.begun.jmc.mode = .clearing from h]
    · obtain hp | hp := hp
      · simp only [takeModeRequest_flash, requestFlash, show s.begun.jmc.mode = .startup from h,
          show s.begun.jmc.phase = some .startFlashing from hp]
      · simp only [takeModeRequest_flash, requestFlash, show s.begun.jmc.mode = .startup from h,
          show s.begun.jmc.phase = some .allRed from hp]
    · simp only [takeModeRequest_flash, requestFlash, show s.begun.jmc.mode = .startup from h,
        show s.begun.jmc.phase = some .firstStage from hp]
    · obtain h | h := h
      · simp only [takeModeRequest_flash, requestFlash, show s.begun.jmc.mode = .normal from h]
      · simp only [takeModeRequest_flash, requestFlash, show s.begun.jmc.mode = .manual from h]
    · rw [takeModeRequest_normal, (requestNormal_flash (s := s.begun) h).2 _ (startCheck_latched (s := s.begun) hf)]
    · obtain ⟨v, hv, hlnk, hjmc, hcmon, htab⟩ := start h hf hfit
      obtain ⟨hcmp, hnone⟩ := hs
      have hrecs : (modeTaken tag .startup v).cmon.recs = s.cmon.recs := congrArg Cmon.recs hcmon
      have hstart : (modeTaken tag .startup v).monitorStart = s.monitorStart := by
        rw [State.monitorStart, State.monitorStart, ← htab]
        rfl
      have hmode : (modeTaken tag .startup v).jmc.mode = s.jmc.mode := congrArg Jmc.mode hjmc
      refine ⟨_, exec_congr (exec_modeRequest tag 3 s) hv, enterStartUp_sound .request ?_ ?_ fun x hx hp => ?_,
        fun ht hr => modeTaken_tx hlnk (enterStartUp_spec .request _).2.2.2 ht hr⟩
      · rw [hmode, show s.jmc.mode = .flash from h]
        nofun
      · rw [show (modeTaken tag .startup v).cmon.compareTimer = s.cmon.compareTimer from congrArg Cmon.compareTimer hcmon]
        exact hcmp
      · rw [condPresent_congr hmode htab hrecs (congrArg Cmon.integrity hcmon)] at hp
        rw [hstart]
        exact hnone x hx hp
    · obtain ⟨v, hv, hlnk, -⟩ := start h hf hfit
      obtain ⟨-, -, hmode, htells⟩ := enterStartUp_spec .request (modeTaken tag .startup v)
      exact ⟨_, exec_congr (exec_modeRequest tag 3 s) hv, hmode, fun ht hr => modeTaken_tx hlnk htells ht hr⟩
    · rw [takeModeRequest_normal, requestNormal_else (s := s.begun) h h', hrow]

end Sys2Proof.Machine
end

section
namespace Sys2Proof.Machine

variable {s t u : State}

/-! ### What a selection of the start plan leaves alone (R142) -/

/-- What taking a plan, or none, keeps: the mode, the time, the fault record, the states of the groups, the store but for its
slots and the active copy, and of SEQ what a plan does not touch. -/
structure Selected (s t : State) : Prop where
  jmc : t.jmc = s.jmc
  pts : { t.pts with slots := s.pts.slots, activeCopy := s.pts.activeCopy, clamped := s.pts.clamped } = s.pts
  time : t.time = s.time
  seq : { t.seq with
    activeSlot := s.seq.activeSlot, h := s.seq.h, mark := s.seq.mark, level := s.seq.level, demand := s.seq.demand } = s.seq
  record : { t.cmon with recs := s.cmon.recs, counted := s.cmon.counted, dropTimer := s.cmon.dropTimer } = s.cmon
  states : ∀ g, (t.grp g).state = (s.grp g).state
  reports : ∃ l : List ReportBody, t.lnk = (l.foldl State.report s).lnk

theorem Selected.trans (h : Selected s t) (k : Selected t u) : Selected s u :=
  ⟨k.jmc.trans h.jmc, by rw [← h.pts, ← k.pts], k.time.trans h.time, by rw [← h.seq, ← k.seq], by rw [← h.record, ← k.record],
    fun g => (k.states g).trans (h.states g), reports_trans h.time h.reports k.reports⟩

theorem PlanSide.selected (h : PlanSide s t) : Selected s t :=
  ⟨h.jmc, by rw [h.pts], h.time, by rw [← h.seq], h.record, h.states, h.reports⟩

theorem SlotsRead.selected (h : SlotsRead s t) : Selected s t := by
  obtain ⟨-, -, hseq, hjmc, hlnk, htime, -, -, -, hcmon, hsge, -⟩ := h.reads
  refine ⟨hjmc, ?_, htime, by rw [hseq], by rw [hcmon], fun g => by rw [State.grp, State.grp, hsge], [], hlnk⟩
  rw [← h.rest]

theorem selected_planSet (n : SlotNo) (p : Plan) (s : State) : Selected s (planSet n p s) := by
  unfold planSet makeActiveCopy
  split <;> exact ⟨rfl, rfl, rfl, rfl, rfl, fun _ => rfl, [], rfl⟩

theorem selected_takePlan (n : SlotNo) (p : Plan) (s : State) : Selected s (takePlan n p s) :=
  (selected_planSet n p s).trans (planSide_takePlan n p s).selected

theorem selected_activate (n : SlotNo) (s : State) : Selected s (activate n s).1 := by
  have hread := slotsRead_activationCheck n s
  unfold activate
  dsimp only
  generalize activationCheck n s = x at hread ⊢
  obtain ⟨v, c⟩ := x
  cases c with
  | error d => exact hread.selected
  | ok p => exact (hread.selected.trans (selected_takePlan n p v)).trans (planSide_report _ _).selected

theorem selected_selectFrom (l : List PlanSlot) (s : State) : Selected s (selectFrom l s).1 := by
  induction l generalizing s with
  | nil => exact (PlanSide.refl s).selected
  | cons n l ih =>
    have hact := selected_activate (slotOf n) s
    unfold selectFrom
    generalize activate (slotOf n) s = x at hact ⊢
    obtain ⟨v, c⟩ := x
    cases c with
    | none => exact hact
    | some d => exact hact.trans (ih v)

theorem startPlanSelection_cases (s : State) : startPlanSelection s = (selectFrom (selectionOrder s) s).1
    ∨ startPlanSelection s = noPlan (selectFrom (selectionOrder s) s).1
    ∨ ∃ p, startPlanSelection s = blocksUnderPlan p (noPlan (selectFrom (selectionOrder s) s).1) := by
  unfold startPlanSelection
  generalize selectFrom (selectionOrder s) s = x
  obtain ⟨v, b⟩ := x
  cases b with
  | true => exact .inl rfl
  | false =>
    dsimp only
    split
    · exact .inr (.inr ⟨_, rfl⟩)
    · exact .inr (.inl rfl)

theorem selected_startPlanSelection (s : State) : Selected s (startPlanSelection s) := by
  have hsel := selected_selectFrom (selectionOrder s) s
  have hnone (v : State) : Selected v (noPlan v) := ⟨rfl, rfl, rfl, rfl, rfl, fun _ => rfl, [_], rfl⟩
  obtain h | h | ⟨p, h⟩ := startPlanSelection_cases s
  · exact h ▸ hsel
  · exact h ▸ hsel.trans (hnone _)
  · exact h ▸ (hsel.trans (hnone _)).trans (planSide_blocksUnderPlan p _).selected

/-! ### A part with no requests and no settled detector (R154) -/

/-- No tram and no call is known, and no detector's state is settled, as after a reset. -/
structure Vacant (s : State) : Prop where
  queues : ∀ a, (s.app a).queue = []
  calls : s.pri.calls = []
  unsettled : ∀ d, (s.det d).settled = false

theorem Vacant.of_eq (h : Vacant s) (hp : t.pri = s.pri) (hd : t.dti = s.dti) : Vacant t :=
  ⟨fun a => by rw [State.app, hp]; exact h.queues a, by rw [hp]; exact h.calls, fun d => by rw [State.det, hd]; exact h.unsettled d⟩

theorem Vacant.of_priActs (h : Vacant s) (k : PriActs (fun _ => False) False s t) : Vacant t := by
  obtain ⟨hdti, -⟩ := k.outside.blocks
  refine ⟨fun a => ?_, (k.calls.resolve_left id).trans h.calls, fun d => ?_⟩
  · rw [(k.queues a).resolve_right fun hx => hx.1, h.queues a]
  · rw [State.det, hdti]
    exact h.unsettled d

theorem Vacant.ruling (h : Vacant s) : s.ruling = none := by
  refine Option.eq_none_iff_forall_ne_some.mpr fun r hr => ?_
  by_cases hm : s.jmc.mode = .normal
  · obtain ⟨m, hmem, -⟩ := State.exists_waiter_of_ruling hm hr
    obtain ⟨ref, level, age, num⟩ := m
    obtain hmem | hmem := List.mem_append.mp hmem
    · obtain ⟨a, x, -, hx, -⟩ := State.mem_tramWaiters.mp hmem
      rw [State.head?, h.queues a] at hx
      cases hx
    · obtain ⟨c, hc, -⟩ := State.mem_callWaiters.mp hmem
      rw [h.calls] at hc
      cases hc
  · rw [State.ruling_of_not_normal hm] at hr
    cases hr

theorem Vacant.onPri (h : Vacant s) {f : Pri → Pri} (ha : (f s.pri).approaches = s.pri.approaches) (hc : (f s.pri).calls = s.pri.calls) :
    Vacant (s.onPri f) :=
  ⟨fun a => by rw [← h.queues a, State.app, State.app, State.onPri_pri, ha], hc.trans h.calls, h.unsettled⟩

theorem Vacant.determineRuling (h : Vacant s) (force : Bool) : Vacant (determineRuling force s) :=
  (h.onPri (f := fun p => { p with rulingHeld := s.ruling }) rfl rfl).of_priActs
    (PriActs.determineRuling_allowed force fun r hr => by rw [h.ruling] at hr; cases hr)

theorem Vacant.approachUnderPlan (h : Vacant s) (a : ApproachId) : Vacant (approachUnderPlan a s) := by
  have hset (v : State) (hp : v.pri = s.pri) (hd : v.dti = s.dti) (f : Approach → Approach) (hf : (f (s.app a)).queue = []) :
      Vacant (v.onApp a f) := by
    have hv := h.of_eq hp hd
    refine ⟨fun b => ?_, hv.calls, fun d => hv.unsettled d⟩
    by_cases hb : a = b
    · subst hb
      rw [State.app_onApp_self, State.app, hp]
      exact hf
    · rw [State.app_onApp_ne v hb]
      exact hv.queues b
  unfold Machine.approachUnderPlan
  simp only [h.queues a, List.foldl_nil, List.takeWhile_nil]
  split
  · split
    · refine hset s rfl rfl _ ?_
      rfl
    · refine hset (s.push .choose) rfl rfl _ ?_
      rfl
  · refine hset s rfl rfl _ ?_
    rw [h.queues a]
    rfl

theorem Vacant.foldl {α : Type} {f : State → α → State} (hf : ∀ u x, Vacant u → Vacant (f u x)) (l : List α) (h : Vacant s) :
    Vacant (l.foldl f s) := by
  induction l generalizing s with
  | nil => exact h
  | cons x l ih => exact ih (hf s x h)

theorem Vacant.offerAmong_nil (h : Vacant s) : Vacant (offerAmong [] s) := h.of_eq rfl rfl

theorem Vacant.priUnderPlan (h : Vacant s) : Vacant (priUnderPlan s) := by
  have hfronts : approachIds.filter (losesHead s) = [] :=
    List.filter_eq_nil_iff.mpr fun a _ => by simp [losesHead, State.head?, h.queues a]
  have happ : Vacant (approachIds.foldl (fun s a => Machine.approachUnderPlan a s) s) := Vacant.foldl (fun u a hu => hu.approachUnderPlan a) approachIds h
  unfold Machine.priUnderPlan
  rw [hfronts]
  dsimp only
  generalize approachIds.foldl (fun s a => Machine.approachUnderPlan a s) s = v at happ ⊢
  have hgone : (v.pri.calls.filter fun c => c.state = .waiting && v.stageGroups c.target = 0) = [] := by
    rw [happ.calls]
    rfl
  rw [hgone]
  refine Vacant.determineRuling (Vacant.offerAmong_nil (happ.onPri rfl ?_)) false
  dsimp only
  rw [happ.calls]
  rfl

theorem foldl_settled {f : State → DetId → State} {r : Vector DetRec 32}
    (hf : ∀ u d, ((f u d).det d).settled = r[d].settled ∧ ∀ e, e ≠ d → (f u d).det e = u.det e) (l : List DetId)
    (h : ∀ d, (s.det d).settled = r[d].settled) (d : DetId) : ((l.foldl f s).det d).settled = r[d].settled := by
  induction l generalizing s with
  | nil => exact h d
  | cons e l ih =>
    obtain ⟨hself, hothers⟩ := hf s e
    refine ih fun c => ?_
    by_cases hc : c = e
    · subst hc
      exact hself
    · rw [hothers c hc, h c]

/-- Bringing the detectors under a plan settles none. -/
theorem dtiUnderPlan_settled (old : Option Plan) (s : State) (d : DetId) :
    ((dtiUnderPlan old s).det d).settled = (s.det d).settled := by
  have hdemands (f : State → DetId → Bool) (u : State) :
      DemandActs u (detIds.foldl (fun s d => if f s d then sendDemand d s else s) u) :=
    (DemandActs.refl u).foldl _ _ fun _ d hv => DemandActs.ite (fun _ => hv.sendDemand d) fun _ => hv
  unfold dtiUnderPlan
  dsimp only
  rw [State.det, (hdemands (fun u d => demandsUnderPlan (detSettings old d) (u.detSet d) s.dti.recs[d] (u.det d)) _).dti,
    (recomputeInputs_follows _).recs]
  refine foldl_settled (r := s.dti.recs) (fun u e => ?_) detIds (fun c => rfl) d
  have hself : ((u.onDet e fun _ => s.dti.recs[e].underPlan (u.detSet e)).det e).settled = s.dti.recs[e].settled := by
    rw [State.det_onDet_self]
    rfl
  have hothers (c : DetId) (hc : c ≠ e) : (u.onDet e fun _ => s.dti.recs[e].underPlan (u.detSet e)).det c = u.det c :=
    State.det_onDet_ne u (Ne.symm hc) _
  split
  · exact ⟨hself, hothers⟩
  · exact ⟨hself, hothers⟩

theorem dtiUnderPlan_pri (old : Option Plan) (s : State) : (dtiUnderPlan old s).pri = s.pri := by
  have hdemands (f : State → DetId → Bool) (u : State) :
      DemandActs u (detIds.foldl (fun s d => if f s d then sendDemand d s else s) u) :=
    (DemandActs.refl u).foldl _ _ fun _ d hv => DemandActs.ite (fun _ => hv.sendDemand d) fun _ => hv
  unfold dtiUnderPlan
  dsimp only
  rw [(hdemands (fun u d => demandsUnderPlan (detSettings old d) (u.detSet d) s.dti.recs[d] (u.det d)) _).pri,
    (recomputeInputs_follows _).pri]
  refine foldl_same (r := State.pri) (fun u d => ?_) detIds s
  split <;> rfl

theorem Vacant.blocksUnderPlan (h : Vacant s) (old : Option Plan) : Vacant (blocksUnderPlan old s) := by
  have hdti : Vacant (dtiUnderPlan old s) := by
    have hpri := dtiUnderPlan_pri old s
    exact ⟨fun a => by rw [State.app, hpri]; exact h.queues a, by rw [hpri]; exact h.calls,
      fun d => by rw [dtiUnderPlan_settled]; exact h.unsettled d⟩
  have hpri := hdti.priUnderPlan
  unfold Machine.blocksUnderPlan
  generalize Machine.priUnderPlan (dtiUnderPlan old s) = v at hpri ⊢
  exact hpri.of_eq rfl rfl

theorem Vacant.takePlan (h : Vacant s) (n : SlotNo) (p : Plan) : Vacant (takePlan n p s) := by
  have hset : Vacant (planSet n p s) := h.of_eq (by unfold planSet makeActiveCopy; split <;> rfl)
    (by unfold planSet makeActiveCopy; split <;> rfl)
  exact hset.blocksUnderPlan _

theorem Vacant.selectFrom (l : List PlanSlot) (h : Vacant s) : Vacant (selectFrom l s).1 := by
  induction l generalizing s with
  | nil => exact h
  | cons n l ih =>
    have hread := slotsRead_activationCheck (slotOf n) s
    unfold Machine.selectFrom activate
    dsimp only
    generalize activationCheck (slotOf n) s = x at hread ⊢
    obtain ⟨v, c⟩ := x
    obtain ⟨-, -, -, -, -, -, hpri, hdti, -⟩ := hread.reads
    have hv : Vacant v := h.of_eq hpri hdti
    cases c with
    | error d => exact ih hv
    | ok p =>
      have htake := hv.takePlan (slotOf n) p
      dsimp only
      generalize Machine.takePlan (slotOf n) p v = w at htake ⊢
      exact htake.of_eq rfl rfl

theorem Vacant.startPlanSelection (h : Vacant s) : Vacant (startPlanSelection s) := by
  have hsel := h.selectFrom (selectionOrder s)
  obtain e | e | ⟨p, e⟩ := startPlanSelection_cases s
  · exact e ▸ hsel
  · exact e ▸ hsel.of_eq rfl rfl
  · have hnone : Vacant (noPlan (Machine.selectFrom (selectionOrder s) s).1) := hsel.of_eq rfl rfl
    exact e ▸ hnone.blocksUnderPlan p

end Sys2Proof.Machine
end

section
namespace Sys2Proof.Machine

variable {s t u : State}

/-! ### The entry into FLASH on tables in force (R141, R154) -/

/-- The orders at the entry into FLASH have been given, and CMON has not looked yet. -/
def flashOrdered (before : Mode) (cause : ModeCause) (s : State) : State :=
  groupsToFlash (setModeFrom before .flash none none cause (s.onJmc fun j => { j with safeRequest := true }))

/-- FLASH is entered, and CMON has looked. -/
def flashEntered (before : Mode) (cause : ModeCause) (s : State) : State := evaluate (flashOrdered before cause s)

theorem tablesVerified_eq (before : Mode) (cause : ModeCause) (s : State) :
    tablesVerified before cause s = autostart (startPlanSelection (flashEntered before cause s)) := rfl

section Entry

variable (before : Mode) (cause : ModeCause) (s : State)

theorem flashOrdered_ordered : Ordered s (flashOrdered before cause s) :=
  (((Ordered.refl s).onJmc fun j => { j with safeRequest := true }).setModeFrom before .flash none none cause).groupsToFlash

theorem flashOrdered_spec : (flashOrdered before cause s).jmc = { s.jmc with
      mode := .flash, phase := none, darkCause := none, safeRequest := true }
    ∧ (flashOrdered before cause s).seq = s.seq ∧ (flashOrdered before cause s).pri = s.pri
    ∧ ∀ g, ((flashOrdered before cause s).grp g).state = if s.present g = true then .flash else (s.grp g).state := by
  obtain ⟨v, hv⟩ : ∃ v, v = s.onJmc fun j => { j with safeRequest := true } := ⟨_, rfl⟩
  have hord : flashOrdered before cause s = groupsToFlash (setModeFrom before .flash none none cause v) := by rw [hv]; rfl
  have hjmc := setModeFrom_jmc before .flash none none cause v
  have hseq := setModeFrom_seq v before .flash none none cause
  have hpri := setModeFrom_pri before .flash none none cause v
  have hsge := setModeFrom_sge before .flash none none cause v
  have hpts := setModeFrom_pts before .flash none none cause v
  rw [hord]
  generalize setModeFrom before .flash none none cause v = w at hjmc hseq hpri hsge hpts ⊢
  obtain ⟨-, kseq, -, kpri, kjmc, -⟩ := (sameOutsideGroups_groupsToFlash w).reads
  refine ⟨?_, ?_, ?_, fun g => ?_⟩
  · rw [kjmc, hjmc, hv]; rfl
  · rw [kseq, hseq, hv]; rfl
  · rw [kpri, hpri, hv]; rfl
  · have hp : w.present g = s.present g := present_of_tables (by rw [hpts, hv]; rfl) g
    have hg : w.grp g = s.grp g := by rw [State.grp, State.grp, hsge, hv]; rfl
    rw [groupsToFlash_state, hp, hg]

/-- What the entry into FLASH leaves. -/
theorem flashEntered_spec :
    let w := flashEntered before cause s
    w.jmc = { s.jmc with mode := .flash, phase := none, darkCause := none, safeRequest := true }
      ∧ w.seq = s.seq ∧ w.pri = s.pri ∧ w.dti = s.dti ∧ w.pts = s.pts
      ∧ (∀ g, (w.grp g).state = if s.present g = true then .flash else (s.grp g).state)
      ∧ (∀ f, SourceSet.has s.cmon.latched f = true → SourceSet.has w.cmon.latched f = true)
      ∧ (s.cmon.lockout = true → w.cmon.lockout = true) ∧ (s.cmon.first.isSome = true → w.cmon.first = s.cmon.first)
      ∧ Tells s w := by
  have hord := flashOrdered_ordered before cause s
  obtain ⟨hjmc, hseq, hpri, hstates⟩ := flashOrdered_spec before cause s
  obtain ⟨hpts, hdti, -⟩ := hord.store
  obtain ⟨hfirst, hlatched, hlockout, -⟩ := hord.recorded
  have htells := hord.tells
  unfold flashEntered
  generalize flashOrdered before cause s = v at hjmc hseq hpri hstates hpts hdti hfirst hlatched hlockout htells ⊢
  have hkeeps := evaluate_keeps v
  have hmode : v.jmc.mode = .flash := by rw [hjmc]
  have hsame := hkeeps.halted (.inl hmode)
  have hw : (evaluate v).jmc = v.jmc ∧ (evaluate v).seq = v.seq ∧ (evaluate v).pri = v.pri ∧ (evaluate v).dti = v.dti
      ∧ (evaluate v).pts = v.pts ∧ (evaluate v).sge = v.sge :=
    ⟨(congrArg State.jmc hsame :), (congrArg State.seq hsame :), (congrArg State.pri hsame :), (congrArg State.dti hsame :),
      (congrArg State.pts hsame :), (congrArg State.sge hsame :)⟩
  have hrec := hkeeps.record
  have hlock := hkeeps.lockout
  have hone := hkeeps.first
  have hreports := hkeeps.tells
  generalize evaluate v = w at hw hrec hlock hone hreports ⊢
  obtain ⟨wjmc, wseq, wpri, wdti, wpts, wsge⟩ := hw
  refine ⟨wjmc.trans hjmc, wseq.trans hseq, wpri.trans hpri, wdti.trans hdti, wpts.trans hpts, fun g => ?_, fun f hf => ?_, fun hl => ?_,
    fun hf => ?_, htells.trans hreports⟩
  · rw [State.grp, wsge, ← State.grp, hstates]
  · exact hrec f (by rw [hlatched]; exact hf)
  · exact hlock (by rw [hlockout]; exact hl)
  · rw [hone (by rw [hfirst]; exact hf), hfirst]

end Entry

theorem autostart_off (h : s.monitorStart.autostart = false) : autostart s = s := if_neg (by simp [h])

theorem autostart_latched (h : s.cmon.first.isSome = true) : autostart s = s := by
  unfold autostart
  split
  · simp only [startCheck_latched h]
  · rfl

theorem Selected.tables (h : Selected s t) : t.pts.tables = s.pts.tables := by rw [← h.pts]

/-- Without AUTOSTART the entry into FLASH ends with the start-plan selection. -/
theorem tablesVerified_of_off {x : Tables} (before : Mode) (cause : ModeCause) (ht : s.pts.tables = some x)
    (ha : x.monitor.autostart = false) :
    tablesVerified before cause s = startPlanSelection (flashEntered before cause s) := by
  obtain ⟨-, -, -, -, hpts, -⟩ := flashEntered_spec before cause s
  rw [tablesVerified_eq]
  refine autostart_off ?_
  rw [State.monitorStart, (selected_startPlanSelection _).tables, hpts, ht]
  exact ha

/-! ### The end of the verification and RESTART (R141, R154, R178) -/

theorem verificationDue_iff : verificationDue s = true ↔ s.pts.verify = some 0 := by simp [verificationDue]

theorem exec_verificationEnd (h : s.pts.verify = some 0) :
    exec .verificationEnd s = .next (settle Config.reactionBound (endVerification s.begun)) :=
  congrArg Host.Outcome.next (perform_due (due := fun s => verificationDue s) (verificationDue_iff.mpr h))

/-- The store as the verification leaves it. -/
def verified (s : State) : State :=
  s.onPts fun p => { p with verify := none, slots := p.slots.map Slot.verified, tables := verifiedTables s.pts }

theorem endVerification_some {x : Tables} (h : verifiedTables s.pts = some x) : endVerification s =
    tablesVerified s.jmc.mode .tables ((verified s).onCmon fun c => { c with compareTimer := Config.comparisonPeriod }) :=
  if_pos (by rw [h]; rfl)

theorem endVerification_none (h : verifiedTables s.pts = none) : endVerification s = tablesFailed (verified s) :=
  if_neg (by rw [h]; exact Bool.false_ne_true)

theorem verified_slot (s : State) (n : PlanSlot) : (verified s).slot n =
    if (s.slot n).state = .valid ∧ (s.slot n).intact = false then { s.slot n with state := .invalid } else s.slot n := by
  have hslot : (verified s).slot n = (s.slot n).verified := by simp [State.slot, verified, State.onPts]
  rw [hslot, Slot.verified]
  simp only [Bool.and_eq_true, decide_eq_true_eq, Bool.not_eq_true']

theorem takeRestart_wrongMode {tag : Byte} (h : s.jmc.mode ≠ .flash) (h' : s.jmc.mode ≠ .dark) :
    takeRestart tag s = s.reply 0x14 tag .wrongMode := if_pos (by simp [h, h'])

section Restart

variable {tag : Byte} (hm : s.jmc.mode = .flash ∨ s.jmc.mode = .dark)
include hm

theorem takeRestart_busy (h : s.jmc.darkCause = some .verifying) : takeRestart tag s = s.reply 0x14 tag .busy := by
  rw [takeRestart, if_neg (by obtain hm | hm := hm <;> simp [hm]), if_pos h]

variable (hv : s.jmc.darkCause ≠ some .verifying)
include hv

theorem takeRestart_latched (h : s.jmc.darkCause = some .safeDropped ∨ s.cmon.first.isSome = true) :
    takeRestart tag s = s.reply 0x14 tag .faultLatched := by
  rw [takeRestart, if_neg (by obtain hm | hm := hm <;> simp [hm]), if_neg hv, if_pos (by simpa [State.faultLatched] using h)]

theorem takeRestart_taken (hd : s.jmc.darkCause ≠ some .safeDropped) (hf : s.cmon.first = none) :
    takeRestart tag s = restartPart (s.reply 0x14 tag .ok) := by
  rw [takeRestart, if_neg (by obtain hm | hm := hm <;> simp [hm]), if_neg hv, if_neg (by simp [State.faultLatched, hd, hf])]

end Restart

theorem restartPart_some {x : Tables} (h : s.pts.tables = some x) :
    restartPart s = tablesVerified s.jmc.mode .restart (reinitialise s) := by
  have hpts : (reinitialise s).pts = s.pts := by rw [reinitialise, monitorMode_pts]
  unfold restartPart
  dsimp only
  rw [if_pos (by rw [hpts, h]; rfl)]

theorem restartPart_none (h : s.pts.tables = none) : restartPart s = tablesFailed (reinitialise s) := by
  have hpts : (reinitialise s).pts = s.pts := by rw [reinitialise, monitorMode_pts]
  unfold restartPart
  dsimp only
  rw [if_neg (by rw [hpts, h]; exact Bool.false_ne_true)]

/-- What the reinitialisation leaves. -/
theorem reinitialise_spec (s : State) :
    let r := reinitialise s
    r.sge = Sge.reset ∧ r.seq = {} ∧ r.pri = {} ∧ r.dti = Dti.reset ∧ r.jmc = { safeRequest := s.jmc.safeRequest }
      ∧ r.pts = s.pts ∧ r.lnk = s.lnk ∧ r.time = s.time
      ∧ r.cmon.latched = s.cmon.latched ∧ r.cmon.lockout = s.cmon.lockout ∧ r.cmon.first = s.cmon.first := by
  obtain ⟨d, k, c, h⟩ := monitorMode_eq .flash { s with
    sge := Sge.reset, seq := {}, pri := {}, dti := Dti.reset, jmc := { safeRequest := s.jmc.safeRequest }, notices := [] }
  intro r
  have hr : r = _ := h
  rw [hr]
  exact ⟨rfl, rfl, rfl, rfl, rfl, rfl, rfl, rfl, rfl, rfl, rfl⟩

/-- Settles O55. -/
theorem startPlanSelectionTakesTheFirstFitSlot : Obligations.StartPlanSelectionTakesTheFirstFitSlot := by
  intro s fits chosen nothing
  have hfits (v : State) (hr : SlotsRead s.begun v) (n : PlanSlot) (p : Plan) : SlotFits v n p ↔ fits n p :=
    hr.fits_iff (n := n) (p := p)
  refine ⟨fun n p x hx hc => startPlanSelection_taken hx hc, fun hn => startPlanSelection_none hn, fun hm hf hunfit tag => ?_,
    fun x hv hx ha => ?_, fun tag x hx ha hm hnv hnd hf => ?_⟩
  · have hm' : s.begun.jmc.mode = .flash := hm
    obtain ⟨v, hread, hcheck⟩ := startCheck_unfit (s := s.begun) hf ((fitToRun_congr (s := s) (t := s.begun) rfl rfl).trans hunfit)
    obtain ⟨htab, -, hseq, hjmc, hlnk, htime, -⟩ := hread.reads
    have hexec := exec_modeRequest tag 3 s
    rw [takeModeRequest_normal] at hexec
    refine ⟨fun hn => ?_, fun n p x hx hc => ?_⟩
    · obtain ⟨hslot, kjmc, -, hidle, hactive⟩ := startPlanSelection_none (s := v) fun n p h => hn n p ((hfits v hread n p).mp h)
      rw [hslot] at hcheck
      have hreq := (requestNormal_flash (tag := tag) hm').2 _ hcheck
      have hslots : v.seq.activeSlot = s.seq.activeSlot := by rw [hseq]; rfl
      have hstart : (v.report .noValidPlan).lnk = (s.begun.report .noValidPlan).lnk := foldl_report_lnk_congr [.noValidPlan] hlnk htime
      have hl : ∃ l : List ReportBody, (s.seq.activeSlot = none → l = [])
          ∧ (startPlanSelection v).lnk = (l.foldl State.report (s.begun.report .noValidPlan)).lnk := by
        cases hs : s.seq.activeSlot with
        | none => exact ⟨[], fun _ => rfl, (hidle (hslots.trans hs)).1.trans hstart⟩
        | some k =>
          obtain ⟨-, -, l, hl⟩ := hactive (by rw [hslots, hs]; rfl)
          exact ⟨l, nofun, hl.trans (foldl_report_lnk_congr l hstart htime)⟩
      obtain ⟨l, hnil, hl⟩ := hl
      refine ⟨_, l, exec_congr hexec hreq, ?_, hslot, hnil, ?_⟩
      · exact kjmc.trans hjmc
      · rw [State.reply, State.reply, State.onLnk_lnk, State.onLnk_lnk, hl]
    · have hchosen : Chosen v n p := by
        obtain ⟨hfit, hfirst⟩ := hc
        refine ⟨(hfits v hread n p).mpr hfit, ?_⟩
        rw [hread.store.2.1]
        exact hfirst.imp_right fun ⟨h1, h2⟩ => ⟨fun q hq => h1 q ((hfits v hread _ q).mp hq),
          fun m q hmn hq => h2 m q hmn ((hfits v hread m q).mp hq)⟩
      obtain ⟨hslot, hcopy, hclamped, -⟩ := startPlanSelection_taken (htab.trans hx) hchosen
      rw [hslot] at hcheck
      have hreq := (requestNormal_flash (tag := tag) hm').1 hcheck
      obtain ⟨kslot, kpts, kmode, -⟩ := enterStartUp_spec .request (modeTaken tag .startup (startPlanSelection v))
      refine ⟨_, exec_congr hexec hreq, kslot.trans hslot, ?_, ?_, kmode⟩
      · rw [← hcopy]
        exact (congrArg Pts.activeCopy kpts :)
      · rw [← hclamped]
        exact (congrArg Pts.clamped kpts :)
  · obtain ⟨y, hy⟩ : ∃ y, y = (verified s.begun).onCmon fun c => { c with compareTimer := Config.comparisonPeriod } := ⟨_, rfl⟩
    have hyt : y.pts.tables = some x := by rw [hy]; exact hx
    have hend : endVerification s.begun = startPlanSelection (flashEntered s.begun.jmc.mode .tables y) := by
      rw [endVerification_some (s := s.begun) hx, ← hy]
      exact tablesVerified_of_off _ _ hyt ha
    obtain ⟨wjmc, wseq, -, -, wpts, -⟩ := flashEntered_spec s.begun.jmc.mode .tables y
    refine ⟨_, exec_congr (exec_verificationEnd hv) hend, ?_, ?_, ?_, ?_, ?_, fun n => ?_⟩
    · rw [wjmc]
    · rw [wseq, hy]; rfl
    · rw [wpts, hyt]
    · rw [wpts, hy]; rfl
    · rw [wpts, hy]; rfl
    · have hslot : (verified s.begun).slot n = _ := verified_slot s.begun n
      rw [State.slot, wpts, hy]
      exact hslot
  · obtain ⟨rsge, rseq, -, -, -, rpts, -⟩ := reinitialise_spec (s.begun.reply 0x14 tag .ok)
    have htake := takeRestart_taken (s := s.begun) (tag := tag) hm hnv hnd hf
    rw [restartPart_some (s := s.begun.reply 0x14 tag .ok) hx] at htake
    generalize reinitialise (s.begun.reply 0x14 tag .ok) = y at rseq rpts htake
    rw [tablesVerified_of_off _ _ (by rw [rpts]; exact hx) ha] at htake
    obtain ⟨wjmc, wseq, -, -, wpts, -⟩ := flashEntered_spec (s.begun.reply 0x14 tag .ok).jmc.mode .restart y
    refine ⟨_, exec_congr (exec_restart tag s) htake, ?_, ?_, ?_⟩
    · rw [wjmc]
    · rw [wseq, rseq]
    · rw [wpts, rpts]
      rfl

end Sys2Proof.Machine
end

section
namespace Sys2Proof.Machine

variable {s t u : State} {c : Nat}

/-! ### The groups at the beginning of ALL_RED (R22, R147) -/

/-- Every present group has the clearance given, and is CLOSED or, where its OPENT is as long, in OPENING. -/
def Shut (c : Nat) (s : State) : Prop := ∀ g, s.present g = true →
  (s.grp g).cr = c ∧ ((s.grp g).state = .closed ∨ c ≤ (s.groupDef g).opent ∧ (s.grp g).state = .opening)

theorem Shut.of_eq (h : Shut c s) (hg : t.sge = s.sge) (hp : t.pts.tables = s.pts.tables) : Shut c t := by
  intro g ht
  have hdef : t.groupDef g = s.groupDef g := by rw [State.groupDef, State.groupDef, hp]
  rw [State.grp, hg, hdef]
  exact h g (present_of_tables hp g ▸ ht)

/-- A change to one group that keeps its clearance and leaves it shut. -/
theorem Shut.change {g : GroupId} (h : Shut c s) (hout : SameOutsideGroups s t) (hne : ∀ b ≠ g, t.grp b = s.grp b)
    (hself : s.present g = true → (t.grp g).cr = (s.grp g).cr
      ∧ ((t.grp g).state = (s.grp g).state ∨ c ≤ (s.groupDef g).opent ∧ (t.grp g).state = .opening)) : Shut c t := by
  intro b ht
  rw [hout.present] at ht
  rw [hout.groupDef]
  by_cases hb : b = g
  · subst hb
    obtain ⟨hcr, hstate⟩ := hself ht
    obtain ⟨h1, h2⟩ := h b ht
    refine ⟨hcr.trans h1, ?_⟩
    obtain hsame | hopening := hstate
    · rwa [hsame]
    · exact .inr hopening
  · rw [hne b hb]
    exact h b ht

theorem Shut.onGrp (h : Shut c s) (g : GroupId) {f : GroupRec → GroupRec} (hcr : (f (s.grp g)).cr = (s.grp g).cr)
    (hstate : (f (s.grp g)).state = (s.grp g).state) : Shut c (s.onGrp g f) :=
  h.change (g := g) rfl (fun _ hb => State.grp_onGrp_ne s (Ne.symm hb) f) fun _ => by
    rw [State.grp_onGrp_self]
    exact ⟨hcr, .inl hstate⟩

theorem Shut.admitStep (hc : 0 < c) (h : Shut c s) (g : GroupId) : Shut c (admitStep s g) := by
  unfold Machine.admitStep
  split
  · next ha =>
    obtain ⟨hp, -, -, hle, -⟩ := canAdmit_iff.mp ha
    rw [(h g hp).1] at hle
    unfold admitGroup
    dsimp only
    rw [if_neg (Nat.ne_of_gt (Nat.lt_of_lt_of_le hc hle))]
    refine Shut.of_eq (s := changeGroup g _ s) ?_ rfl rfl
    refine h.change (g := g) rfl (fun b hb => changeGroup_grp_ne hb _ s) fun _ => ?_
    rw [changeGroup_grp_self]
    exact ⟨rfl, .inr ⟨hle, rfl⟩⟩
  · exact h

theorem Shut.admitWaiting (hc : 0 < c) (h : Shut c s) : Shut c (admitWaiting s) := by
  rw [admitWaiting_eq]
  generalize groupIds = l
  induction l generalizing s with
  | nil => exact h
  | cons g l ih => exact ih (h.admitStep hc g)

theorem Shut.openCommand (hc : 0 < c) (h : Shut c s) (g : GroupId) (o : Option Override) : Shut c (openCommand g o s) := by
  cases hp : s.present g with
  | false => rw [(commands_of_absent hp).1]; exact h
  | true =>
    obtain hst | ⟨-, hst⟩ := (h g hp).2
    · rw [openCommand_closed hp hst]
      exact (h.onGrp g rfl rfl).admitWaiting hc
    · rw [openCommand_opening_or_opened hp (.inl hst)]
      exact h.onGrp g rfl rfl

theorem Shut.closeCommand (h : Shut c s) (g : GroupId) : Shut c (closeCommand g s) := by
  cases hp : s.present g with
  | false => rw [(commands_of_absent (o := none) hp).2]; exact h
  | true =>
    obtain hst | ⟨-, hst⟩ := (h g hp).2
    · rw [closeCommand_closed_or_closing hp (.inl hst)]
      refine h.onGrp g ?_ ?_
      · split <;> rfl
      · split <;> rfl
    · rw [closeCommand_opening hp hst]
      exact h.onGrp g rfl rfl

theorem Shut.closing (h : Shut c s) (l : List GroupId) : Shut c (closing l s) := by
  induction l generalizing s with
  | nil => exact h
  | cons g l ih => exact ih (h.closeCommand g)

theorem Shut.opening (hc : 0 < c) (h : Shut c s) (o : Option Override) (l : List GroupId) : Shut c (opening o l s) := by
  induction l generalizing s with
  | nil => exact h
  | cons g l ih => exact ih (h.openCommand hc g o)

theorem Shut.commanded (hc : 0 < c) (h : Shut c s) (x : StageId) (level : Nat) (r : Option ResumeRec) :
    Shut c (commanded x level r s) := by
  have hset : Shut c (s.onSeq (Seq.toStage x (s.stageGroups x) level r.isSome)) := h.of_eq rfl rfl
  exact (hset.closing _).opening hc _ _

theorem foldl_closed_cr (c : Nat) (l : List GroupId) (s : State) (g : GroupId) :
    ((l.foldl (fun s g => changeGroup g (fun r => { r with state := .closed, cr := c }) s) s).grp g).cr
      = if g ∈ l then c else (s.grp g).cr := by
  induction l generalizing s with
  | nil => rfl
  | cons b l ih =>
    rw [List.foldl_cons, ih]
    by_cases hb : g = b
    · subst hb
      rw [changeGroup_grp_self]
      simp
    · rw [changeGroup_grp_ne hb]
      simp [hb]

theorem shut_groupsToAllRed (s : State) : Shut s.monitorStart.startClear (groupsToAllRed s) := by
  intro g hg
  rw [(sameOutsideGroups_groupsToAllRed s).present] at hg
  refine ⟨?_, .inl ?_⟩
  · rw [groupsToAllRed, foldl_closed_cr, if_pos (mem_presentGroups.mpr hg)]
  · rw [groupsToAllRed_state, if_pos hg]

theorem shut_beginAllRed (hc : 0 < s.monitorStart.startClear) : Shut s.monitorStart.startClear (beginAllRed s) := by
  have hshut : Shut s.monitorStart.startClear (allRed s) :=
    shut_groupsToAllRed (setPhase .allRed s.monitorStart.startClear s)
  rw [beginAllRed_eq]
  generalize allRed s = v at hshut ⊢
  obtain ⟨-, -, -, -, -, -, -, hpts, hgrp, -⟩ := startUpNotice_spec v
  obtain ⟨nsge, -, -, -, npts, -⟩ := startNoticed_spec v
  have hnoticed : Shut s.monitorStart.startClear (startNoticed v) := hshut.of_eq nsge (by rw [npts])
  have hcommanded := hnoticed.commanded hc (startNoticed v).sequence.startStage 0 none
  have htables : (commanded (startNoticed v).sequence.startStage 0 none (startNoticed v)).pts = v.pts := by
    obtain ⟨kpts, -⟩ := (sameOutsideGroups_commanded (startNoticed v).sequence.startStage 0 none (startNoticed v)).reads
    exact kpts.trans npts
  generalize commanded (startNoticed v).sequence.startStage 0 none (startNoticed v) = w at hgrp hcommanded htables
  intro g hg
  have hdef : (startUpNotice v).groupDef g = w.groupDef g := by rw [State.groupDef, State.groupDef, hpts, htables]
  have hpres : (startUpNotice v).present g = w.present g := present_of_tables (by rw [hpts, htables]) g
  rw [hgrp, hdef]
  exact hcommanded g (hpres ▸ hg)

/-! ### The blocks that run stay empty from the reinitialisation to the end of a RESTART (R154) -/

/-- No request, no settled detector, and nothing on the resume stack. -/
def Cleared (s : State) : Prop := Vacant s ∧ s.seq.stack = []

theorem Cleared.of_eq (h : Cleared s) (hp : t.pri = s.pri) (hd : t.dti = s.dti) (hq : t.seq.stack = s.seq.stack) : Cleared t :=
  ⟨h.1.of_eq hp hd, hq.trans h.2⟩

theorem Cleared.flashOrders (h : Cleared s) : Cleared (flashOrders s) := by
  obtain ⟨hvac, -⟩ := h
  obtain ⟨-, -, hdti, hpri, -⟩ := (sameOutsideGroups_groupsToFlash s).reads
  have hv : Vacant (groupsToFlash s) := hvac.of_eq hpri hdti
  have hab : Vacant (seqAbandon (groupsToFlash s)) := hv.of_eq rfl rfl
  have hstack : (seqAbandon (groupsToFlash s)).seq.stack = [] := rfl
  unfold Machine.flashOrders
  generalize seqAbandon (groupsToFlash s) = w at hab hstack ⊢
  have hstop : Vacant (stopPlanning w) := by
    refine ⟨fun a => ?_, hab.calls, hab.unsettled⟩
    have happ : (stopPlanning w).app a = if (w.app a).episode = .planned then { w.app a with episode := .idle } else w.app a := by
      simp [stopPlanning, State.app, State.onPri]
      rfl
    rw [happ]
    split <;> exact hab.queues a
  have hcalls : ((stopPlanning w).onPri fun p => { p with holders := Vector.replicate 24 [] }).pri.calls = [] := hab.calls
  have hheld : Vacant ((stopPlanning w).onPri fun p => { p with holders := Vector.replicate 24 [] }) := hstop.onPri rfl rfl
  have hseq : ((stopPlanning w).onPri fun p => { p with holders := Vector.replicate 24 [] }).seq = w.seq := rfl
  unfold priFlash
  dsimp only
  generalize (stopPlanning w).onPri (fun p => { p with holders := Vector.replicate 24 [] }) = z at hcalls hheld hseq ⊢
  rw [dropCalls, hcalls, List.foldl_nil]
  refine ⟨(hheld.onPri (f := fun p => { p with calls := [] }) rfl hcalls.symm).of_eq rfl rfl, ?_⟩
  exact (congrArg Seq.stack hseq).trans hstack

theorem Cleared.forceFlash (h : Cleared s) : Cleared (forceFlash s) := by
  by_cases hm : s.jmc.mode = .flash ∨ s.jmc.mode = .dark
  · rw [forceFlash_of_halted s hm]
    exact h
  · have hend : Cleared (endStartUp s) := h.of_eq rfl rfl rfl
    have hset : Cleared (setMode .flash none none .fault (endStartUp s)) := by
      obtain ⟨-, hdti, -⟩ := ((Ordered.refl (endStartUp s)).setMode .flash none none .fault).store
      exact hend.of_eq (setModeFrom_pri (endStartUp s).jmc.mode .flash none none .fault (endStartUp s)) hdti
        (congrArg Seq.stack (setModeFrom_seq (endStartUp s) (endStartUp s).jmc.mode .flash none none .fault))
    rw [forceFlash_of_running hm]
    exact hset.flashOrders.of_eq rfl rfl rfl

theorem Cleared.occur (h : Cleared s) (x : Cond) : Cleared (occur s x) := by
  have hnoted : Cleared (Occurred.noted s x) := h.of_eq rfl rfl rfl
  rw [Occurred.occur_eq]
  split
  · exact hnoted.forceFlash
  · exact hnoted

theorem Cleared.foldl {α : Type} {f : State → α → State} (hf : ∀ u x, Cleared u → Cleared (f u x)) (l : List α) (h : Cleared s) :
    Cleared (l.foldl f s) := by
  induction l generalizing s with
  | nil => exact h
  | cons x l ih => exact ih (hf s x h)

theorem Cleared.evaluate (h : Cleared s) : Cleared (evaluate s) := by
  obtain ⟨i, c, k, d, hcmp⟩ := comparedIfDue_eq s
  have hcompared : Cleared (comparedIfDue s) := hcmp ▸ h.of_eq rfl rfl rfl
  unfold Machine.evaluate
  split
  · exact h
  · dsimp only
    generalize comparedIfDue s = v at hcompared ⊢
    generalize newConds v = l
    have hfree : Cleared (freeOrder l v).2 := hcompared.of_eq rfl rfl rfl
    generalize freeOrder l v = x at hfree ⊢
    have hocc := Cleared.foldl (f := Machine.occur) (fun u x hu => hu.occur x) x.1 hfree
    generalize List.foldl Machine.occur x.2 x.1 = w at hocc ⊢
    exact hocc.of_eq rfl rfl rfl

theorem startUpNotice_stack (s : State) : (startUpNotice s).seq.stack = s.seq.stack := by
  obtain ⟨-, -, -, -, -, -, hseq, -⟩ := startNoticed_spec s
  rw [startUpNotice_eq]
  generalize startNoticed s = v at hseq ⊢
  have htrans := (beginTransition_spec v.sequence.startStage 0 none v).1
  generalize beginTransition v.sequence.startStage 0 none v = w at htrans ⊢
  rw [State.report_seq, htrans, ← hseq]
  rfl

theorem Cleared.beginAllRed (h : Cleared s) : Cleared (beginAllRed s) := by
  obtain ⟨-, hseq, hdti, hpri, -⟩ := allRed_spec s
  obtain ⟨-, -, -, -, -, udti, upri, -⟩ := beginAllRed_spec s
  refine h.of_eq upri udti ?_
  rw [beginAllRed_eq, startUpNotice_stack, hseq]

theorem starting_rest (cause : ModeCause) (s : State) : (starting cause s).pri = s.pri ∧ (starting cause s).dti = s.dti
    ∧ (starting cause s).cmon.first = s.cmon.first ∧ (starting cause s).cmon.latched = s.cmon.latched
    ∧ (starting cause s).cmon.lockout = s.cmon.lockout := by
  obtain ⟨v, hv⟩ : ∃ v, v = s.onJmc fun j => { j with timer := s.monitorStart.startFlash, firstRunning := false } := ⟨_, rfl⟩
  have hstart : starting cause s = abandonTableWrite (setMode .startup (some .startFlashing) none cause v) := by rw [hv]; rfl
  have hord : Ordered v (setMode .startup (some .startFlashing) none cause v) := (Ordered.refl v).setMode _ _ _ _
  have hpri : (setMode .startup (some .startFlashing) none cause v).pri = v.pri := setModeFrom_pri _ _ _ _ _ v
  obtain ⟨-, hdti, -⟩ := hord.store
  obtain ⟨hfirst, hlatched, hlockout, -⟩ := hord.recorded
  have hvs : v.pri = s.pri ∧ v.dti = s.dti ∧ v.cmon = s.cmon := by rw [hv]; exact ⟨rfl, rfl, rfl⟩
  obtain ⟨vpri, vdti, vcmon⟩ := hvs
  rw [hstart]
  generalize setMode .startup (some .startFlashing) none cause v = w at hpri hdti hfirst hlatched hlockout ⊢
  have hrest := (abandonTableWrite_spec w).1
  generalize abandonTableWrite w = z at hrest ⊢
  have hz : z.pri = w.pri ∧ z.dti = w.dti ∧ z.cmon = w.cmon := by
    rw [← hrest]
    exact ⟨rfl, rfl, rfl⟩
  obtain ⟨zpri, zdti, zcmon⟩ := hz
  rw [zpri, zdti, zcmon, hpri, hdti, hfirst, hlatched, hlockout, vpri, vdti, vcmon]
  exact ⟨rfl, rfl, rfl, rfl, rfl⟩

theorem Cleared.enterStartUp (h : Cleared s) (cause : ModeCause) : Cleared (enterStartUp cause s) := by
  obtain ⟨hpri, hdti, -⟩ := starting_rest cause s
  obtain ⟨-, hseq, -⟩ := starting_spec cause s
  have hlook := (h.of_eq hpri hdti (congrArg Seq.stack hseq)).evaluate
  rw [enterStartUp_eq]
  generalize Machine.evaluate (starting cause s) = v at hlook ⊢
  split
  · exact hlook.beginAllRed
  · exact hlook

theorem Selected.cleared (h : Selected s t) (hv : Vacant s → Vacant t) (hc : Cleared s) : Cleared t := by
  refine ⟨hv hc.1, ?_⟩
  have hstack := congrArg Seq.stack h.seq
  exact hstack.trans hc.2

/-! ### What a RESTART keeps (R154) -/

/-- The tables in force and the time stand, and nothing CMON has latched is forgotten. -/
structure Recalls (s t : State) : Prop where
  tables : t.pts.tables = s.pts.tables
  time : t.time = s.time
  latched : ∀ f, SourceSet.has s.cmon.latched f = true → SourceSet.has t.cmon.latched f = true
  lockout : s.cmon.lockout = true → t.cmon.lockout = true

theorem Recalls.refl (s : State) : Recalls s s := ⟨rfl, rfl, fun _ => id, id⟩

theorem Recalls.trans (h : Recalls s t) (k : Recalls t u) : Recalls s u :=
  ⟨k.tables.trans h.tables, k.time.trans h.time, fun f hf => k.latched f (h.latched f hf), fun hl => k.lockout (h.lockout hl)⟩

theorem Selected.record_reads (h : Selected s t) : t.cmon.first = s.cmon.first ∧ t.cmon.latched = s.cmon.latched
    ∧ t.cmon.lockout = s.cmon.lockout := by
  rw [← h.record]
  exact ⟨rfl, rfl, rfl⟩

theorem Selected.recalls (h : Selected s t) : Recalls s t := by
  obtain ⟨-, hlatched, hlockout⟩ := h.record_reads
  exact ⟨h.tables, h.time, fun f hf => by rw [hlatched]; exact hf, fun hl => by rw [hlockout]; exact hl⟩

theorem LookKeeps.recalls (h : LookKeeps s t) : Recalls s t := by
  obtain ⟨hpts, -, htime, -⟩ := h.store
  exact ⟨by rw [hpts], htime, h.record, h.lockout⟩

/-- The group engine writes nothing of the fault record. -/
theorem SameOutsideGroups.recalls (h : SameOutsideGroups s t) : Recalls s t := by
  have hpts := h.reads.1
  obtain ⟨-, -, -, -, -, -, htime, -⟩ := h.reads
  have hcmon : t.cmon.latched = s.cmon.latched ∧ t.cmon.lockout = s.cmon.lockout := by
    unfold SameOutsideGroups at h
    rw [← h]
    exact ⟨rfl, rfl⟩
  exact ⟨by rw [hpts], htime, fun f hf => by rw [hcmon.1]; exact hf, fun hl => by rw [hcmon.2]; exact hl⟩

theorem recalls_beginTransition (x : StageId) (level : Nat) (r : Option ResumeRec) (s : State) :
    Recalls s (beginTransition x level r s) := by
  have hset : Recalls s (s.onSeq (Seq.toStage x (s.stageGroups x) level r.isSome)) := ⟨rfl, rfl, fun _ => id, id⟩
  have hcommanded := hset.trans (sameOutsideGroups_commanded x level r s).recalls
  have hseq := (sameOutsideGroups_commanded x level r s).reads.2.1
  rw [beginTransition_eq]
  generalize commanded x level r s = v at hcommanded hseq ⊢
  split
  · have hcur : v.seq.current = some x := by rw [hseq]; rfl
    rw [becomeRunning_eq hcur]
    exact hcommanded.trans ⟨rfl, rfl, fun _ => id, id⟩
  · exact hcommanded

theorem recalls_beginAllRed (s : State) : Recalls s (beginAllRed s) := by
  have hphase : Recalls s (setPhase .allRed s.monitorStart.startClear s) := ⟨rfl, rfl, fun _ => id, id⟩
  have hred : Recalls s (allRed s) := hphase.trans (sameOutsideGroups_groupsToAllRed _).recalls
  rw [beginAllRed_eq]
  generalize allRed s = v at hred ⊢
  obtain ⟨-, -, -, -, hpts, hcmon, -, htells⟩ := startNoticed_spec v
  have hnoticed : Recalls v (startNoticed v) :=
    ⟨by rw [hpts], htells.time, fun f hf => by rw [hcmon]; exact hf, fun hl => by rw [hcmon]; exact hl⟩
  rw [startUpNotice_eq]
  generalize startNoticed v = w at hnoticed ⊢
  have htrans := recalls_beginTransition w.sequence.startStage 0 none w
  generalize beginTransition w.sequence.startStage 0 none w = z at htrans ⊢
  exact ((hred.trans hnoticed).trans htrans).trans ⟨rfl, rfl, fun _ => id, id⟩

theorem recalls_enterStartUp (cause : ModeCause) (s : State) : Recalls s (enterStartUp cause s) := by
  obtain ⟨-, -, -, hlatched, hlockout⟩ := starting_rest cause s
  obtain ⟨-, -, hpts, -, -, -, htells⟩ := starting_spec cause s
  have hstart : Recalls s (starting cause s) :=
    ⟨(congrArg Pts.tables hpts :), htells.time, fun f hf => by rw [hlatched]; exact hf, fun hl => by rw [hlockout]; exact hl⟩
  have hlook := hstart.trans (evaluate_keeps (starting cause s)).recalls
  rw [enterStartUp_eq]
  generalize evaluate (starting cause s) = v at hlook ⊢
  split
  · exact hlook.trans (recalls_beginAllRed v)
  · exact hlook

theorem SlotsRead.vacant (h : SlotsRead s t) (hv : Vacant s) : Vacant t := by
  obtain ⟨-, -, -, -, -, -, hpri, hdti, -⟩ := h.reads
  exact hv.of_eq hpri hdti

/-- The checks of a start leave the part cleared, and forget nothing. -/
theorem startCheck_cleared (h : Cleared s) : Cleared (startCheck s).1 ∧ Recalls s (startCheck s).1 := by
  cases hf : s.cmon.first with
  | some f =>
    rw [startCheck_latched (by rw [hf]; rfl)]
    exact ⟨h, .refl s⟩
  | none =>
    cases hfit : fitToRun s with
    | true =>
      obtain ⟨v, p, hcheck, hread⟩ := startCheck_fit hf hfit
      have hv : Cleared v := hread.selected.cleared hread.vacant h
      have hrest := makeActiveCopy_rest p v
      rw [hcheck]
      dsimp only
      generalize makeActiveCopy p v = w at hrest ⊢
      have hw : w.pri = v.pri ∧ w.dti = v.dti ∧ w.seq = v.seq ∧ w.pts.tables = v.pts.tables ∧ w.time = v.time ∧ w.cmon = v.cmon := by
        rw [← hrest]
        exact ⟨rfl, rfl, rfl, rfl, rfl, rfl⟩
      obtain ⟨wpri, wdti, wseq, wtab, wtime, wcmon⟩ := hw
      exact ⟨hv.of_eq wpri wdti (by rw [wseq]), hread.selected.recalls.trans
        ⟨wtab, wtime, fun f hf => by rw [wcmon]; exact hf, fun hl => by rw [wcmon]; exact hl⟩⟩
    | false =>
      obtain ⟨v, hread, hcheck⟩ := startCheck_unfit hf hfit
      have hv : Cleared v := hread.selected.cleared hread.vacant h
      rw [hcheck]
      exact ⟨(selected_startPlanSelection v).cleared Vacant.startPlanSelection hv,
        hread.selected.recalls.trans (selected_startPlanSelection v).recalls⟩

theorem autostart_cleared (h : Cleared s) : Cleared (autostart s) ∧ Recalls s (autostart s) := by
  obtain ⟨hc, hr⟩ := startCheck_cleared h
  unfold autostart
  split
  · generalize startCheck s = x at hc hr ⊢
    obtain ⟨v, x⟩ := x
    cases x with
    | none => exact ⟨hc.enterStartUp _, hr.trans (recalls_enterStartUp _ v)⟩
    | some e => exact ⟨hc, hr⟩
  · exact ⟨h, .refl s⟩

theorem tablesVerified_cleared (before : Mode) (cause : ModeCause) (h : Cleared s) :
    Cleared (tablesVerified before cause s) ∧ Recalls s (tablesVerified before cause s) := by
  obtain ⟨-, wseq, wpri, wdti, wpts, -, wlatched, wlockout, -, wtells⟩ := flashEntered_spec before cause s
  have hw : Cleared (flashEntered before cause s) := h.of_eq wpri wdti (by rw [wseq])
  have hwr : Recalls s (flashEntered before cause s) := ⟨by rw [wpts], wtells.time, wlatched, wlockout⟩
  rw [tablesVerified_eq]
  generalize flashEntered before cause s = w at hw hwr ⊢
  have hsel := (selected_startPlanSelection w).cleared Vacant.startPlanSelection hw
  have hselr := (selected_startPlanSelection w).recalls
  generalize startPlanSelection w = v at hsel hselr ⊢
  obtain ⟨ha, har⟩ := autostart_cleared hsel
  exact ⟨ha, (hwr.trans hselr).trans har⟩

/-! ### RESTART (R154) -/

theorem cleared_reinitialise (s : State) : Cleared (reinitialise s) := by
  obtain ⟨-, hseq, hpri, hdti, -⟩ := reinitialise_spec s
  generalize reinitialise s = r at hseq hpri hdti ⊢
  refine ⟨⟨fun a => ?_, by rw [hpri], fun d => ?_⟩, by rw [hseq]⟩
  · rw [State.app, hpri]
    simp
  · rw [State.det, hdti]
    simp [Dti.reset]

theorem recalls_reinitialise (s : State) : Recalls s (reinitialise s) := by
  obtain ⟨-, -, -, -, -, hpts, -, htime, hlatched, hlockout, -⟩ := reinitialise_spec s
  exact ⟨by rw [hpts], htime, fun f hf => by rw [hlatched]; exact hf, fun hl => by rw [hlockout]; exact hl⟩

/-- The reinitialisation ends every mismatch, and moves no silence timer. -/
theorem reinitialise_mon (s : State) (g : GroupId) :
    ((reinitialise s).mon g).goTimer = 0 ∧ ((reinitialise s).mon g).silence = (s.mon g).silence := by
  unfold reinitialise monitorMode
  simp [State.mon, State.onCmon]

/-- With no board silent, nothing counts at the entry into FLASH after a RESTART. -/
theorem flashEntered_restart (before : Mode) (s : State) (h : ∀ g, s.present g = true → (s.mon g).silence < 10) :
    (flashEntered before .restart (reinitialise s)).cmon.latched = s.cmon.latched
      ∧ (flashEntered before .restart (reinitialise s)).cmon.lockout = s.cmon.lockout
      ∧ (flashEntered before .restart (reinitialise s)).cmon.first = s.cmon.first := by
  obtain ⟨-, -, -, -, -, rpts, -, -, rlatched, rlockout, rfirst⟩ := reinitialise_spec s
  have rmon := reinitialise_mon s
  have rpres (g : GroupId) : (reinitialise s).present g = s.present g := present_of_tables (by rw [rpts]) g
  generalize reinitialise s = r at rlatched rlockout rfirst rmon rpres ⊢
  have hord := flashOrdered_ordered before .restart r
  obtain ⟨hjmc, -⟩ := flashOrdered_spec before .restart r
  unfold flashEntered
  generalize flashOrdered before .restart r = v at hord hjmc ⊢
  obtain ⟨vfirst, vlatched, vlockout, -⟩ := hord.recorded
  have vpres (g : GroupId) : v.present g = r.present g := present_of_tables (by rw [hord.store.1]) g
  have hnone : evaluate v = v := by
    refine evaluate_of_none fun x _ hx => ?_
    obtain ⟨hsrc, hpresent⟩ := condCounts_iff.mp hx.1
    have hflash : v.jmc.mode = .flash := by rw [hjmc]
    obtain hrun | ⟨-, hsrc⟩ := hsrc
    · exact hrun.2 hflash
    · cases x with
      | goMismatch g =>
        rw [condPresent_goMismatch] at hpresent
        simp only [Bool.and_eq_true, decide_eq_true_eq] at hpresent
        have := hord.goTimers g
        rw [(rmon g).1] at this
        omega
      | senseSilent g =>
        rw [condPresent_senseSilent] at hpresent
        simp only [Bool.and_eq_true, decide_eq_true_eq] at hpresent
        obtain ⟨-, hpg, hsil⟩ := hpresent
        obtain ⟨-, -, -, -, vsil, -⟩ := hord.lamps g
        rw [vsil, (rmon g).2] at hsil
        exact absurd hsil (Nat.not_le.mpr (h g (by rw [← rpres, ← vpres]; exact hpg)))
      | conflictGo => simp [Cond.source] at hsrc
      | intergreenShort => simp [Cond.source] at hsrc
      | aspectMismatch => simp [Cond.source] at hsrc
      | redOut => simp [Cond.source] at hsrc
      | tableIntegrity => simp [Cond.source] at hsrc
  rw [hnone, vlatched, vlockout, vfirst]
  exact ⟨rlatched, rlockout, rfirst⟩

/-- What a RESTART leaves with no tables in force. -/
theorem restartPart_none_spec (h : s.pts.tables = none) :
    (restartPart s).jmc = { safeRequest := s.jmc.safeRequest, mode := .dark, darkCause := some .noTables }
      ∧ (restartPart s).sge = Sge.reset ∧ (restartPart s).seq = {} ∧ (restartPart s).pts = s.pts
      ∧ (restartPart s).cmon.latched = s.cmon.latched ∧ (restartPart s).cmon.lockout = s.cmon.lockout
      ∧ (restartPart s).cmon.first = s.cmon.first ∧ Cleared (restartPart s) ∧ Recalls s (restartPart s) := by
  obtain ⟨rsge, rseq, rpri, rdti, rjmc, rpts, -, -, rlatched, rlockout, rfirst⟩ := reinitialise_spec s
  have hc := cleared_reinitialise s
  have hr := recalls_reinitialise s
  rw [restartPart_none h]
  generalize reinitialise s = r at rsge rseq rpri rdti rjmc rpts rlatched rlockout rfirst hc hr ⊢
  refine ⟨?_, rsge, rseq, rpts, rlatched, rlockout, rfirst, hc.of_eq rfl rfl rfl, hr.trans ⟨rfl, rfl, fun _ => id, id⟩⟩
  rw [tablesFailed, State.report_jmc, State.onJmc_jmc, rjmc]

/-- What a RESTART leaves with tables in force. -/
theorem restartPart_some_spec {x : Tables} (h : s.pts.tables = some x) : Cleared (restartPart s) ∧ Recalls s (restartPart s) := by
  obtain ⟨hc, hr⟩ := tablesVerified_cleared s.jmc.mode .restart (cleared_reinitialise s)
  rw [restartPart_some h]
  exact ⟨hc, (recalls_reinitialise s).trans hr⟩

/-- What a RESTART leaves with tables in force that do not ask for AUTOSTART. -/
theorem restartPart_off_spec {x : Tables} (h : s.pts.tables = some x) (ha : x.monitor.autostart = false) :
    let u := restartPart s
    u.jmc.mode = .flash ∧ u.jmc.darkCause = none ∧ u.jmc.safeRequest = true ∧ u.seq.current = none ∧ u.pts.write = s.pts.write
      ∧ (∀ g, (u.grp g).state = if x.groups[g].present then .flash else .dark)
      ∧ ((∀ g, s.present g = true → (s.mon g).silence < 10) →
        u.cmon.latched = s.cmon.latched ∧ u.cmon.lockout = s.cmon.lockout ∧ u.cmon.first = s.cmon.first) := by
  obtain ⟨rsge, rseq, -, -, -, rpts, -⟩ := reinitialise_spec s
  have hquiet := flashEntered_restart s.jmc.mode s
  have hpart := tablesVerified_of_off s.jmc.mode .restart (s := reinitialise s) (by rw [rpts]; exact h) ha
  have hgrp (g : GroupId) : ((reinitialise s).grp g).state = .dark := by
    rw [State.grp, rsge]
    simp [Sge.reset]
  have hpres (g : GroupId) : (reinitialise s).present g = x.groups[g].present := by
    simp [State.present, State.groupDef, rpts, h]
  rw [restartPart_some h, hpart]
  obtain ⟨wjmc, wseq, -, -, wpts, wstate, -⟩ := flashEntered_spec s.jmc.mode .restart (reinitialise s)
  have hsel := selected_startPlanSelection (flashEntered s.jmc.mode .restart (reinitialise s))
  rw [rpts] at wpts
  rw [rseq] at wseq
  generalize flashEntered s.jmc.mode .restart (reinitialise s) = w at hquiet wjmc wseq wpts wstate hsel ⊢
  generalize startPlanSelection w = v at hsel ⊢
  obtain ⟨hfirst, hlatched, hlockout⟩ := hsel.record_reads
  dsimp only
  rw [hsel.jmc, wjmc, hfirst, hlatched, hlockout]
  refine ⟨rfl, rfl, rfl, ?_, ?_, fun g => ?_, hquiet⟩
  · exact (congrArg Seq.current hsel.seq :).trans (by rw [wseq])
  · exact (congrArg Pts.write hsel.pts :).trans (by rw [wpts])
  · rw [hsel.states, wstate, hpres, hgrp]

theorem startFlashingDue_iff : startFlashingDue s = true ↔
    s.jmc.mode = .startup ∧ s.jmc.phase = some .startFlashing ∧ s.jmc.timer = 0 := by simp [startFlashingDue, and_assoc]

theorem allRedDue_iff : allRedDue s = true ↔ s.jmc.mode = .startup ∧ s.jmc.phase = some .allRed ∧ s.jmc.timer = 0 := by
  simp [allRedDue, and_assoc]

/-- Settles O56. -/
theorem startUpPhasesAndRestart : Obligations.StartUpPhasesAndRestart := by
  intro s
  refine ⟨fun hm hp ht => ?_, fun hn => ?_, fun hm hp ht => ?_, fun hn => ?_, fun tag => ?_⟩
  · have hdue : startFlashingDue s.begun = true := startFlashingDue_iff.mpr ⟨hm, hp, ht⟩
    have hexec : exec .startFlashingExpiry s = .next (settle Config.reactionBound (beginAllRed s.begun)) :=
      congrArg Host.Outcome.next (perform_due (due := startFlashingDue) hdue)
    obtain ⟨ujmc, ucur, ugrp, ulev, -, udti, upri, upts, -⟩ := beginAllRed_spec s.begun
    refine ⟨_, hexec, by rw [ujmc]; exact hm, by rw [ujmc], by rw [ujmc]; rfl, ucur, ugrp, ulev, udti, upri, upts,
      fun g hg hlong hopent => ?_⟩
    have hpos : 0 < s.begun.monitorStart.startClear := Nat.zero_lt_of_lt hlong
    have hup : (beginAllRed s.begun).present g = true := (present_of_tables (t := s) (by rw [upts]; rfl) g).trans hg
    obtain ⟨hcr, hclosed | ⟨hle, -⟩⟩ := shut_beginAllRed hpos g hup
    · exact ⟨hclosed, hcr⟩
    · have hdef : (beginAllRed s.begun).groupDef g = s.groupDef g := by rw [State.groupDef, State.groupDef, upts]; rfl
      have hstart : s.begun.monitorStart.startClear = s.monitorStart.startClear := rfl
      rw [hdef, hstart] at hle
      omega
  · exact congrArg Host.Outcome.next (perform_notDue (due := startFlashingDue) fun hd => hn (startFlashingDue_iff.mp hd))
  · have hdue : allRedDue s.begun = true := allRedDue_iff.mpr ⟨hm, hp, ht⟩
    exact congrArg Host.Outcome.next (perform_due (due := allRedDue) (f := beginFirstStage) hdue)
  · exact congrArg Host.Outcome.next (perform_notDue (due := allRedDue) fun hd => hn (allRedDue_iff.mp hd))
  · intro refused
    have hexec := exec_restart tag s
    refine ⟨fun h1 h2 => exec_congr hexec (takeRestart_wrongMode (s := s.begun) h1 h2), fun hm => ⟨fun hv => ?_, fun hv => ⟨fun hl => ?_,
      fun hd hf => ?_⟩⟩⟩
    · exact exec_congr hexec (takeRestart_busy (s := s.begun) hm hv)
    · exact exec_congr hexec (takeRestart_latched (s := s.begun) hm hv hl)
    · have htake := takeRestart_taken (s := s.begun) (tag := tag) hm hv hd hf
      have hbase : (s.begun.reply 0x14 tag .ok).pts = s.pts ∧ (s.begun.reply 0x14 tag .ok).cmon = s.cmon
          ∧ (s.begun.reply 0x14 tag .ok).jmc = s.jmc ∧ (s.begun.reply 0x14 tag .ok).time = s.time := ⟨rfl, rfl, rfl, rfl⟩
      obtain ⟨bpts, bcmon, bjmc, btime⟩ := hbase
      generalize s.begun.reply 0x14 tag .ok = b at htake bpts bcmon bjmc btime
      have hends : Cleared (restartPart b) ∧ Recalls b (restartPart b) := by
        cases ht : b.pts.tables with
        | none =>
          obtain ⟨-, -, -, -, -, -, -, hc⟩ := restartPart_none_spec ht
          exact hc
        | some x => exact restartPart_some_spec ht
      obtain ⟨⟨hvac, hstack⟩, hrec⟩ := hends
      refine ⟨_, exec_congr hexec htake, hstack, hvac.calls, hvac.queues, hvac.unsettled, hrec.time.trans btime,
        hrec.tables.trans (by rw [bpts]), fun f hl => hrec.latched f (by rw [bcmon]; exact hl), fun hl => hrec.lockout (by rw [bcmon]; exact hl),
        fun hn => ?_, fun hoff hsil => ?_, fun hn => ?_, fun x hx ha => ?_⟩
      · obtain ⟨-, -, -, -, hlatched, hlockout, -⟩ := restartPart_none_spec (s := b) (by rw [bpts]; exact hn)
        rw [hlatched, hlockout, bcmon]
        exact ⟨rfl, rfl⟩
      · cases ht : s.pts.tables with
        | none =>
          obtain ⟨-, -, -, -, hlatched, hlockout, hfirst, -⟩ := restartPart_none_spec (s := b) (by rw [bpts]; exact ht)
          rw [hlatched, hlockout, hfirst, bcmon]
          exact ⟨rfl, rfl, hf⟩
        | some x =>
          obtain ⟨-, -, -, -, -, -, hq⟩ := restartPart_off_spec (s := b) (by rw [bpts]; exact ht) (hoff x ht)
          have hsil' : ∀ g, b.present g = true → (b.mon g).silence < 10 := fun g hg => by
            rw [State.mon, bcmon]
            exact hsil g ((present_of_tables (t := s) (by rw [bpts]) g) ▸ hg)
          obtain ⟨hlatched, hlockout, hfirst⟩ := hq hsil'
          rw [hlatched, hlockout, hfirst, bcmon]
          exact ⟨rfl, rfl, hf⟩
      · obtain ⟨hjmc, hsge, hseq, hpts, -⟩ := restartPart_none_spec (s := b) (by rw [bpts]; exact hn)
        refine ⟨?_, hsge, by rw [hseq], by rw [hpts, bpts]⟩
        rw [hjmc, bjmc]
      · obtain ⟨hmode, hcause, hsafe, hcur, hwrite, hstates, -⟩ := restartPart_off_spec (s := b) (by rw [bpts]; exact hx) ha
        exact ⟨hmode, hcause, hsafe, hcur, hwrite.trans (by rw [bpts]), hstates⟩

end Sys2Proof.Machine
end

section
/-! ### Whom the Priority Unit's operations leave alone (R104, R110, R121 to R129)

`Spares A I` is what an operation does that serves and plans only for others than the approaches in `A` and the calls in `I`: these
stay as they are, no holder leaves a group, and no hold flag is cleared. -/

namespace Sys2Proof.Machine

variable {s t u : State}

theorem call?_onCall_self (s : State) (id : Nat) {f : Call → Call} (hf : ∀ c, (f c).id = c.id) :
    (s.onCall id f).call? id = (s.call? id).map f := by
  simp only [State.call?, State.onCall, State.onPri_pri, List.find?_map]
  have hcomp : ((fun c : Call => decide (c.id = id)) ∘ fun c => if c.id = id then f c else c) = fun c => decide (c.id = id) := by
    funext c
    by_cases hc : c.id = id
    · simp [hc, hf]
    · simp [hc]
  rw [hcomp]
  cases hx : s.pri.calls.find? fun c => decide (c.id = id) with
  | none => rfl
  | some c =>
    have hid : c.id = id := of_decide_eq_true (List.find?_some (p := fun c : Call => decide (c.id = id)) hx)
    simp [hid]

theorem call?_onCall_ne {id k : Nat} (hk : k ≠ id) (s : State) {f : Call → Call} (hf : ∀ c, (f c).id = c.id) :
    (s.onCall id f).call? k = s.call? k := by
  simp only [State.call?, State.onCall, State.onPri_pri, List.find?_map]
  have hcomp : ((fun c : Call => decide (c.id = k)) ∘ fun c => if c.id = id then f c else c) = fun c => decide (c.id = k) := by
    funext c
    by_cases hc : c.id = id
    · simp [hc, hf]
    · simp [hc]
  rw [hcomp]
  cases hx : s.pri.calls.find? fun c => decide (c.id = k) with
  | none => rfl
  | some c =>
    have hid : c.id = k := of_decide_eq_true (List.find?_some (p := fun c : Call => decide (c.id = k)) hx)
    simp [hid, hk]

theorem ids_onCall (s : State) (id : Nat) {f : Call → Call} (hf : ∀ c, (f c).id = c.id) :
    (s.onCall id f).pri.calls.map Call.id = s.pri.calls.map Call.id := by
  simp only [State.onCall, State.onPri_pri, List.map_map]
  refine List.map_congr_left fun c _ => ?_
  simp only [Function.comp_apply]
  split
  · exact hf c
  · rfl

structure Spares (A : ApproachId → Prop) (I : Nat → Prop) (s t : State) : Prop where
  outside : SameOutsidePriority s t
  apps : ∀ b, A b → t.app b = s.app b ∧ t.cap b = s.cap b
  calls : ∀ id, I id → t.call? id = s.call? id
  ids : t.pri.calls.map Call.id = s.pri.calls.map Call.id
  holders : ∀ g x, x ∈ s.holders g → x ∈ t.holders g
  holds : ∀ g, (s.grp g).hold = true → (t.grp g).hold = true

/-- Serving the request touches none of those spared. -/
def Free (A : ApproachId → Prop) (I : Nat → Prop) : ReqRef → Prop
  | .tram a _ => ¬ A a
  | .call id => ¬ I id

namespace Spares

variable {A : ApproachId → Prop} {I : Nat → Prop}

theorem refl (s : State) : Spares A I s s :=
  ⟨.refl s, fun _ _ => ⟨rfl, rfl⟩, fun _ _ => rfl, rfl, fun _ _ => id, fun _ => id⟩

theorem trans (h : Spares A I s t) (k : Spares A I t u) : Spares A I s u :=
  ⟨h.outside.trans k.outside, fun b hb => ⟨(k.apps b hb).1.trans (h.apps b hb).1, (k.apps b hb).2.trans (h.apps b hb).2⟩,
    fun i hi => (k.calls i hi).trans (h.calls i hi), k.ids.trans h.ids, fun g x hx => k.holders g x (h.holders g x hx),
    fun g hg => k.holds g (h.holds g hg)⟩

/-- An update that leaves the records of the unit as they are, or is outside of it. -/
theorem of_eq (ho : SameOutsidePriority s t) (ha : t.pri.approaches = s.pri.approaches) (hp : t.pri.caps = s.pri.caps)
    (hc : t.pri.calls = s.pri.calls) (hh : t.pri.holders = s.pri.holders) (hg : t.sge = s.sge) : Spares A I s t := by
  refine ⟨ho, fun b _ => ⟨?_, ?_⟩, fun i _ => ?_, by rw [hc], fun g x hx => ?_, fun g hx => ?_⟩
  · rw [State.app, State.app, ha]
  · rw [State.cap, State.cap, hp]
  · rw [State.call?, State.call?, hc]
  · rw [State.holders, hh]; exact hx
  · rw [State.grp, hg]; exact hx

theorem ite {c : Prop} [Decidable c] {t u : State} (ht : c → Spares A I s t) (hu : ¬ c → Spares A I s u) :
    Spares A I s (if c then t else u) := by
  split
  · exact ht ‹_›
  · exact hu ‹_›

section Steps

variable (h : Spares A I s t)
include h

theorem foldl {α : Type} (f : State → α → State) (l : List α)
    (hf : ∀ u, ∀ x ∈ l, Spares A I s u → Spares A I s (f u x)) : Spares A I s (l.foldl f t) := by
  induction l generalizing t with
  | nil => exact h
  | cons x l ih =>
    exact ih (hf t x (List.mem_cons_self ..) h) fun u y hy hu => hf u y (List.mem_cons_of_mem x hy) hu

theorem push (n : Notice) : Spares A I s (t.push n) :=
  h.trans (.of_eq (.of_eq rfl ⟨rfl, rfl, rfl, rfl⟩ ⟨rfl, rfl, rfl⟩ rfl) rfl rfl rfl rfl rfl)

theorem tie (n : Nat) : Spares A I s { t with tie := n } :=
  h.trans (.of_eq (.of_eq rfl ⟨rfl, rfl, rfl, rfl⟩ ⟨rfl, rfl, rfl⟩ rfl) rfl rfl rfl rfl rfl)

theorem report (b : ReportBody) : Spares A I s (t.report b) :=
  h.trans (.of_eq (.of_eq rfl ⟨rfl, rfl, rfl, rfl⟩ ⟨rfl, rfl, rfl⟩ rfl) rfl rfl rfl rfl rfl)

theorem onPri (f : Pri → Pri) (ha : (f t.pri).approaches = t.pri.approaches) (hp : (f t.pri).caps = t.pri.caps)
    (hc : (f t.pri).calls = t.pri.calls) (hh : (f t.pri).holders = t.pri.holders) : Spares A I s (t.onPri f) :=
  h.trans (.of_eq (.of_eq rfl ⟨rfl, rfl, rfl, rfl⟩ ⟨rfl, rfl, rfl⟩ rfl) ha hp hc hh rfl)

theorem onSeq (f : Seq → Seq) (hf : { f t.seq with h := t.seq.h, mark := t.seq.mark, level := t.seq.level } = t.seq) :
    Spares A I s (t.onSeq f) :=
  h.trans (.of_eq (.of_eq rfl ⟨rfl, rfl, rfl, rfl⟩ ⟨rfl, rfl, rfl⟩ hf) rfl rfl rfl rfl rfl)

theorem onApp {a : ApproachId} (hA : ¬ A a) (f : Approach → Approach) : Spares A I s (t.onApp a f) := by
  refine h.trans ⟨sameOutsidePriority_onApp t a f, fun b hb => ⟨?_, rfl⟩, fun _ _ => rfl, rfl, fun _ _ => id, fun _ => id⟩
  exact State.app_onApp_ne t (by rintro rfl; exact hA hb) f

theorem setCap {a : ApproachId} (hA : ¬ A a) (c : Cap) : Spares A I s (t.setCap a c) := by
  refine h.trans ⟨.of_eq rfl ⟨rfl, rfl, rfl, rfl⟩ ⟨rfl, rfl, rfl⟩ rfl, fun b hb => ⟨rfl, ?_⟩, fun _ _ => rfl, rfl, fun _ _ => id,
    fun _ => id⟩
  rw [cap_setCap, if_neg (by rintro rfl; exact hA hb)]

theorem onCall {id : Nat} (hI : ¬ I id) {f : Call → Call} (hf : ∀ c, (f c).id = c.id) : Spares A I s (t.onCall id f) := by
  refine h.trans ⟨.of_eq rfl ⟨rfl, rfl, rfl, rfl⟩ ⟨rfl, rfl, rfl⟩ rfl, fun _ _ => ⟨rfl, rfl⟩, fun k hk => ?_, ids_onCall t id hf,
    fun _ _ hx => hx, fun _ hx => hx⟩
  exact call?_onCall_ne (by rintro rfl; exact hI hk) t hf

theorem joinHolders (g : GroupId) (x : Holder) : Spares A I s (t.setHolders g (t.holders g ++ [x])) := by
  refine h.trans ⟨.of_eq rfl ⟨rfl, rfl, rfl, rfl⟩ ⟨rfl, rfl, rfl⟩ rfl, fun _ _ => ⟨rfl, rfl⟩, fun _ _ => rfl, rfl, fun k y hy => ?_,
    fun _ hk => hk⟩
  rw [holders_setHolders]
  split
  · next e => exact List.mem_append_left _ (e ▸ hy)
  · exact hy

theorem setHold (g : GroupId) : Spares A I s (t.onGrp g fun r => { r with hold := true }) := by
  refine h.trans ⟨⟨⟨rfl, rfl, rfl, rfl⟩, ⟨rfl, rfl, rfl⟩, rfl, rfl, fun k => ?_⟩, fun _ _ => ⟨rfl, rfl⟩,
    fun _ _ => rfl, rfl, fun _ _ hx => hx, fun k hk => ?_⟩
  all_goals by_cases hg : g = k
  · subst hg; rw [State.grp_onGrp_self]
  · rw [State.grp_onGrp_ne _ hg]
  · subst hg; rw [State.grp_onGrp_self]
  · rw [State.grp_onGrp_ne _ hg]; exact hk

theorem holdGroup (g : GroupId) : Spares A I s (holdGroup g t) := ite (fun _ => (h.setHold g).push _) fun _ => h

theorem addHolder (g : GroupId) (x : Holder) : Spares A I s (addHolder g x t) :=
  ite (fun _ => (ite (fun _ => h) fun _ => h.joinHolders g x).holdGroup g) fun _ => h

theorem clearEnd : Spares A I s (clearEnd t) := h.onSeq _ rfl

theorem releaseNotice : Spares A I s (releaseNotice t) := h.clearEnd.push _

theorem planningResult (n : Nat) (p : StageId) : Spares A I s (planningResult n p t) := by
  have h1 := (h.onSeq (fun q => { q with h := some n, mark := some p }) rfl).push .choose
  exact ite (fun _ => ite (fun _ => h1.push _) fun _ => h1) fun _ => h

theorem levelNotice (l : Nat) : Spares A I s (levelNotice l t) :=
  ite (fun _ => (h.onSeq (fun q => { q with level := max q.level l }) rfl).push _) fun _ => h

theorem episodeChanged : Spares A I s (episodeChanged t) := (h.push _).push _

theorem startCap {a : ApproachId} (hA : ¬ A a) : Spares A I s (startCap a t) :=
  ite (fun _ => ite (fun _ => (h.setCap hA _).push _) fun _ => h.setCap hA _) fun _ => h.setCap hA _

theorem serveHead {a : ApproachId} (hA : ¬ A a) : Spares A I s (serveHead a t) := by
  unfold Machine.serveHead
  split
  · exact (((((h.onApp hA _).report _).addHolder _ _).startCap hA)).episodeChanged
  · exact h

theorem passToServing {a : ApproachId} (hA : ¬ A a) : Spares A I s (passToServing a t) := by
  unfold Machine.passToServing
  split
  · exact ite (fun _ => h.serveHead hA) fun _ => h
  · exact h

theorem serveCall {id : Nat} (hI : ¬ I id) : Spares A I s (serveCall id t) := by
  unfold Machine.serveCall
  split
  · exact h
  · have h1 := (h.onCall hI (f := fun c => { c with state := .serving, servingStage := t.seq.current }) fun _ => rfl).report
      (.priorityEvent .serving (.call id) none none none none)
    exact (h1.foldl _ _ fun _ g _ hu => hu.addHolder g _).episodeChanged

end Steps

section Planning

variable (hp : ∀ a, A a → (s.app a).episode ≠ .planned) (h : Spares A I s t)
include hp h

theorem unplan (a : ApproachId) : Spares A I s (unplan a t) := by
  unfold Machine.unplan
  split
  · next he =>
    refine (h.onApp (fun hA => hp a hA ?_) _).push _
    rw [← (h.apps a hA).1, he]
  · exact h

theorem unplanRef (r : ReqRef) : Spares A I s (unplanRef r t) := by
  cases r with
  | tram a n => exact unplan hp h a
  | call id => exact h

theorem withdraw : Spares A I s (withdraw t) := by
  unfold Machine.withdraw
  split
  · exact h
  · exact unplanRef hp (h.onPri (fun x => { x with standing := none }) rfl rfl rfl rfl).releaseNotice _

/-- A standing plan for another request is withdrawn. -/
theorem withdrawOther (r : ReqRef) : Spares A I s
    (match t.pri.standing with
      | some p => if p.subject = r then t else Machine.withdraw t
      | none => t) := by
  split
  · exact ite (fun _ => h) fun _ => withdraw hp h
  · exact h

theorem extendTram {a : ApproachId} (hA : ¬ A a) : Spares A I s (extendTram a t) := by
  unfold Machine.extendTram
  split
  · exact h
  · exact (((((withdrawOther hp h _).onApp hA _).report _).serveHead hA).onPri _ rfl rfl rfl rfl).levelNotice _

theorem notePlanned {r : ReqRef} (hr : Free A I r) : Spares A I s (notePlanned r t) := by
  unfold Machine.notePlanned
  split
  · split
    · exact ite (fun _ => ((h.onApp hr _).report _).push _) fun _ => h
    · exact h
  · split
    · refine ite (fun _ => h) fun _ => (h.onCall hr ?_).report _
      exact fun _ => rfl
    · exact h

theorem insertPlan {r : ReqRef} (hr : Free A I r) : Spares A I s (insertPlan r t) := by
  unfold Machine.insertPlan
  split
  · exact h
  · exact (notePlanned hp (h.onPri (fun x => { x with standing := some _ }) rfl rfl rfl rfl) hr).planningResult _ _

theorem extendFor {r : ReqRef} (hr : Free A I r) : Spares A I s (extendFor r t) := by
  unfold Machine.extendFor
  split
  · exact extendTram hp h hr
  · exact (((withdrawOther hp h _).serveCall hr).onPri _ rfl rfl rfl rfl).levelNotice _

theorem plannerRun {r : ReqRef} (hr : Free A I r) : Spares A I s (plannerRun r t) :=
  ite (fun _ => ite (fun _ => unplanRef hp (withdraw hp h) r) fun _ => ite (fun _ => extendFor hp h hr) fun _ => insertPlan hp h hr)
    fun _ => h

theorem determineRuling (force : Bool) (hr : ∀ r, t.ruling = some r → Free A I r) : Spares A I s (determineRuling force t) := by
  unfold Machine.determineRuling
  dsimp only
  split
  · split
    · next r hruling => exact ite (fun _ => plannerRun hp h (hr r hruling)) fun _ => h
    · exact h
  · have h1 := h.onPri (fun p => { p with rulingHeld := t.ruling }) rfl rfl rfl rfl
    have h2 := h1.foldl (fun s a => if headIs s a t.ruling then s else Machine.unplan a s) approachIds
      fun _ a _ hu => ite (fun _ => hu) fun _ => unplan hp hu a
    refine push ?_ _
    split
    · exact withdraw hp h2
    · next r hruling => exact ite (fun _ => plannerRun hp h2 (hr r hruling)) fun _ => withdrawOther hp h2 _

theorem offerAmong (l : List ApproachId) (hA : ∀ a, A a → (s.app a).episode ≠ .recovering) : Spares A I s (offerAmong l t) := by
  unfold Machine.offerAmong
  refine (h.tie _).foldl _ _ fun u a _ hu => ite (fun ho => extendTram hp hu fun hAa => ?_) fun _ => hu
  refine hA a hAa ?_
  rw [← (hu.apps a hAa).1]
  unfold mayOffer at ho
  split at ho
  · simp only [Bool.and_eq_true, decide_eq_true_eq] at ho
    exact ho.1.1.1.2
  · cases ho

end Planning

end Spares

end Sys2Proof.Machine
end

section
namespace Sys2Proof.Machine

variable {s t u v : State}

/-! ### Serving a head and a call (R104, R110, R123, R129) -/

/-- The sequencer, and PRI's plan and own request, stay as they are. -/
structure KeepsPlan (s t : State) : Prop where
  seq : t.seq = s.seq
  standing : t.pri.standing = s.pri.standing
  own : t.pri.own = s.pri.own

namespace KeepsPlan

theorem refl (s : State) : KeepsPlan s s := ⟨rfl, rfl, rfl⟩

theorem trans (h : KeepsPlan s t) (k : KeepsPlan t u) : KeepsPlan s u :=
  ⟨k.seq.trans h.seq, k.standing.trans h.standing, k.own.trans h.own⟩

theorem ite {c : Prop} [Decidable c] {t u : State} (ht : c → KeepsPlan s t) (hu : ¬ c → KeepsPlan s u) :
    KeepsPlan s (if c then t else u) := by
  split
  · exact ht ‹_›
  · exact hu ‹_›

theorem addHolder (g : GroupId) (x : Holder) (s : State) : KeepsPlan s (addHolder g x s) := by
  have hjoin : KeepsPlan s (if x ∈ s.holders g then s else s.setHolders g (s.holders g ++ [x])) :=
    ite (fun _ => refl s) fun _ => ⟨rfl, rfl, rfl⟩
  refine ite (fun _ => ?_) fun _ => refl s
  generalize (if x ∈ s.holders g then s else s.setHolders g (s.holders g ++ [x])) = v at hjoin
  exact hjoin.trans (ite (fun _ => ⟨rfl, rfl, rfl⟩) fun _ => refl v)

theorem startCap (a : ApproachId) (s : State) : KeepsPlan s (startCap a s) :=
  ite (fun _ => ite (fun _ => ⟨rfl, rfl, rfl⟩) fun _ => ⟨rfl, rfl, rfl⟩) fun _ => ⟨rfl, rfl, rfl⟩

theorem foldl {α : Type} {f : State → α → State} (hf : ∀ u x, KeepsPlan u (f u x)) (l : List α) (s : State) :
    KeepsPlan s (l.foldl f s) := by
  induction l generalizing s with
  | nil => exact refl s
  | cons x l ih => exact (hf s x).trans (ih _)

theorem serveHead (a : ApproachId) (s : State) : KeepsPlan s (serveHead a s) := by
  unfold Machine.serveHead
  split
  · next h rest g hq hg =>
    have h1 : KeepsPlan s (reportTram .serving a h none none
        (s.onApp a fun r => { r with queue := { h with state := .serving } :: rest, episode := .serving })) := ⟨rfl, rfl, rfl⟩
    dsimp only
    generalize reportTram .serving a h none none
        (s.onApp a fun r => { r with queue := { h with state := .serving } :: rest, episode := .serving }) = v at h1 ⊢
    exact ((h1.trans (addHolder g (.approach a) v)).trans (startCap a _)).trans ⟨rfl, rfl, rfl⟩
  · exact refl s

theorem passToServing (a : ApproachId) (s : State) : KeepsPlan s (passToServing a s) := by
  unfold Machine.passToServing
  split
  · exact ite (fun _ => serveHead a s) fun _ => refl s
  · exact refl s

theorem serveCall (id : Nat) (s : State) : KeepsPlan s (serveCall id s) := by
  unfold Machine.serveCall
  split
  · exact refl s
  · next c hc =>
    have h1 : KeepsPlan s (reportCall .serving id (s.onCall id fun c => { c with state := .serving, servingStage := s.seq.current })) :=
      ⟨rfl, rfl, rfl⟩
    have h2 (u : State) (l : List GroupId) := foldl (f := fun s g => Machine.addHolder g (.call id) s)
      (fun u g => addHolder g (.call id) u) l u
    dsimp only
    generalize reportCall .serving id (s.onCall id fun c => { c with state := .serving, servingStage := s.seq.current }) = v at h1 ⊢
    have h3 := h2 v (GroupSet.members (v.stageGroups c.target))
    generalize (GroupSet.members (v.stageGroups c.target)).foldl (fun s g => Machine.addHolder g (.call id) s) v = w at h3 ⊢
    exact (h1.trans h3).trans ⟨rfl, rfl, rfl⟩

end KeepsPlan

theorem holdGroup_hold {g : GroupId} (hopen : (s.grp g).state = .opened) (hp : s.present g = true) :
    ((holdGroup g s).grp g).hold = true := by
  unfold holdGroup
  split
  · exact (congrArg GroupRec.hold (State.grp_onGrp_self s g fun r => { r with hold := true }) :)
  · next hn => simpa [hp, hopen] using hn

theorem mem_addHolder {g : GroupId} (hopen : (s.grp g).state = .opened) (x : Holder) : x ∈ (addHolder g x s).holders g
    ∧ (s.present g = true → ((addHolder g x s).grp g).hold = true) := by
  unfold addHolder
  rw [if_pos hopen]
  dsimp only
  have hjoin : x ∈ (if x ∈ s.holders g then s else s.setHolders g (s.holders g ++ [x])).holders g := by
    split
    · assumption
    · rw [holders_setHolders, if_pos rfl]
      exact List.mem_append_right _ (List.mem_singleton_self x)
  have hsame : (if x ∈ s.holders g then s else s.setHolders g (s.holders g ++ [x])).sge = s.sge
      ∧ (if x ∈ s.holders g then s else s.setHolders g (s.holders g ++ [x])).pts = s.pts := by
    split <;> exact ⟨rfl, rfl⟩
  generalize (if x ∈ s.holders g then s else s.setHolders g (s.holders g ++ [x])) = v at hjoin hsame ⊢
  obtain ⟨hsge, hpts⟩ := hsame
  refine ⟨by rw [holdGroup_holders]; exact hjoin, fun hp => holdGroup_hold ?_ ?_⟩
  · rw [State.grp, hsge]
    exact hopen
  · exact (present_of_tables (by rw [hpts]) g).trans hp

/-- The cap that a service is started with. -/
def State.firstCap (s : State) (a : ApproachId) : Cap := if s.seq.holdFreeSeen = true then .loaded (s.appSet a).ext else .armed

theorem startCap_cap (a : ApproachId) (s : State) : (startCap a s).cap a = s.firstCap a := by
  have hset (c : Cap) : (s.setCap a c).cap a = c := by rw [cap_setCap, if_pos rfl]
  unfold startCap State.firstCap
  split
  · unfold loadCap
    dsimp only
    split <;> exact hset _
  · exact hset _

theorem startCap_app (a b : ApproachId) (s : State) : (startCap a s).app b = s.app b := by
  unfold startCap loadCap
  split
  · dsimp only
    split <;> rfl
  · rfl

theorem addHolder_app (g : GroupId) (x : Holder) (a : ApproachId) (s : State) : (addHolder g x s).app a = s.app a :=
  (((Spares.refl (A := fun _ => True) (I := fun _ => True) s).addHolder g x).apps a trivial).1

theorem firstCap_congr (hseq : t.seq = s.seq) (hpts : t.pts = s.pts) (a : ApproachId) : t.firstCap a = s.firstCap a := by
  rw [State.firstCap, State.firstCap, appSet_congr (s := s) (by rw [hpts]) (by rw [hseq]), hseq]

/-- What the serving of a head leaves. -/
theorem serveHead_spec {a : ApproachId} {g : GroupId} {h : TramRec} {rest : List TramRec} (hq : (s.app a).queue = h :: rest)
    (hg : s.tramGroup? a = some g) (hopen : (s.grp g).state = .opened) :
    let t := serveHead a s
    t.app a = { s.app a with queue := { h with state := .serving } :: rest, episode := .serving }
      ∧ t.cap a = s.firstCap a ∧ .approach a ∈ t.holders g ∧ (s.present g = true → (t.grp g).hold = true) := by
  obtain ⟨v, hv⟩ : ∃ v, v = reportTram .serving a h none none
    (s.onApp a fun r => { r with queue := { h with state := .serving } :: rest, episode := .serving }) := ⟨_, rfl⟩
  have hserve : serveHead a s = episodeChanged (startCap a (addHolder g (.approach a) v)) := by
    rw [hv]
    simp only [serveHead, hq, hg]
  have happ : v.app a = { s.app a with queue := { h with state := .serving } :: rest, episode := .serving } := by
    rw [hv]
    exact (State.app_onApp_self s a fun r => { r with queue := { h with state := .serving } :: rest, episode := .serving } :)
  have hvs : v.seq = s.seq ∧ v.pts = s.pts ∧ v.sge = s.sge := by
    rw [hv]
    exact ⟨rfl, rfl, rfl⟩
  obtain ⟨vseq, vpts, vsge⟩ := hvs
  obtain ⟨hmem, hhold⟩ := mem_addHolder (s := v) (g := g) (by rw [State.grp, vsge]; exact hopen) (.approach a)
  have hheld : Spares (fun _ => True) (fun _ => True) v (addHolder g (.approach a) v) := (Spares.refl v).addHolder g _
  have happ' := addHolder_app g (.approach a) a v
  have hplan := KeepsPlan.addHolder g (.approach a) v
  rw [hserve]
  generalize addHolder g (.approach a) v = w at hmem hhold hheld happ' hplan ⊢
  have hcap := startCap_cap a w
  have hcapapp := startCap_app a a w
  have hstart : Spares (fun b => b ≠ a) (fun _ => True) w (startCap a w) := (Spares.refl w).startCap (fun hx => hx rfl)
  generalize startCap a w = x at hcap hcapapp hstart ⊢
  refine ⟨?_, ?_, hstart.holders g _ hmem, fun hp => hstart.holds g (hhold ?_)⟩
  · exact hcapapp.trans (happ'.trans happ)
  · exact hcap.trans (firstCap_congr (hplan.seq.trans vseq) (hheld.outside.blocks.2.2.2.trans vpts) a)
  · exact (present_of_tables (by rw [vpts]) g).trans hp

/-- The service of a call as its record shows it. -/
def Call.served (stage : Option StageId) (c : Call) : Call := { c with state := .serving, servingStage := stage }

/-- What the serving of a call leaves. -/
theorem serveCall_spec {id : Nat} {c : Call} (hc : s.call? id = some c) :
    (serveCall id s).call? id = some (c.served s.seq.current)
      ∧ ∀ g, GroupSet.has (s.stageGroups c.target) g = true → (s.grp g).state = .opened → .call id ∈ (serveCall id s).holders g := by
  obtain ⟨v, hv⟩ : ∃ v, v = reportCall .serving id (s.onCall id (Call.served s.seq.current)) := ⟨_, rfl⟩
  have hserve : serveCall id s = episodeChanged
      ((GroupSet.members (v.stageGroups c.target)).foldl (fun s g => addHolder g (.call id) s) v) := by
    rw [hv]
    simp only [serveCall, hc]
    rfl
  have hcall : v.call? id = some (c.served s.seq.current) := by
    rw [hv]
    exact (call?_onCall_self s id (f := Call.served s.seq.current) fun _ => rfl).trans (by rw [hc]; rfl)
  have hvs : v.seq.activeSlot = s.seq.activeSlot ∧ v.pts.activeCopy = s.pts.activeCopy ∧ v.sge = s.sge := by
    rw [hv]
    exact ⟨rfl, rfl, rfl⟩
  obtain ⟨vslot, vcopy, vsge⟩ := hvs
  have hgroups : v.stageGroups c.target = s.stageGroups c.target := stageGroups_congr vcopy vslot c.target
  rw [hserve, hgroups]
  have hadd (l : List GroupId) (w : State) (hw : w.call? id = v.call? id) (hst : ∀ g, (w.grp g).state = (s.grp g).state) :
      let x := l.foldl (fun s g => addHolder g (.call id) s) w
      x.call? id = v.call? id ∧ ∀ g, (g ∈ l ∧ (s.grp g).state = .opened) ∨ .call id ∈ w.holders g → .call id ∈ x.holders g := by
    induction l generalizing w with
    | nil => exact ⟨hw, fun g hg => hg.resolve_left fun hx => List.not_mem_nil hx.1⟩
    | cons k l ih =>
      have hk : Spares (fun _ => True) (fun _ => True) w (addHolder k (.call id) w) := (Spares.refl w).addHolder k _
      obtain ⟨h1, h2⟩ := ih (addHolder k (.call id) w) ((hk.calls id trivial).trans hw) fun g =>
        (congrArg GroupRec.state (hk.outside.groups g) :).trans (hst g)
      refine ⟨h1, fun g hg => h2 g ?_⟩
      obtain ⟨hgl, hgo⟩ | hg := hg
      · obtain rfl | hgl := List.mem_cons.mp hgl
        · exact .inr (mem_addHolder ((hst g).trans hgo) _).1
        · exact .inl ⟨hgl, hgo⟩
      · exact .inr (hk.holders g _ hg)
  obtain ⟨h1, h2⟩ := hadd (GroupSet.members (s.stageGroups c.target)) v rfl fun g => by rw [State.grp, State.grp, vsge]
  exact ⟨h1.trans hcall, fun g hg ho => h2 g (.inl ⟨mem_members.mpr hg, ho⟩)⟩

/-! ### Withdrawing a plan (R102, R128) -/

/-- The approach with another episode. -/
def Approach.Reset (x y : Approach) : Prop := y = { x with episode := y.episode }

/-- What an approach's going back to IDLE leaves. -/
theorem unplan_spec (a : ApproachId) (s : State) :
    let u := unplan a s
    { u.pri with approaches := s.pri.approaches } = s.pri ∧ (∀ b, (s.app b).Reset (u.app b)) ∧ (u.app a).episode ≠ .planned
      ∧ u.seq = s.seq ∧ u.sge = s.sge := by
  unfold unplan
  split
  · refine ⟨rfl, fun b => ?_, ?_, rfl, rfl⟩
    · change (s.app b).Reset ((s.onApp a fun r => { r with episode := .idle }).app b)
      by_cases hb : a = b
      · subst hb
        rw [State.app_onApp_self]
        rfl
      · rw [State.app_onApp_ne s hb]
        rfl
    · change ((s.onApp a fun r => { r with episode := .idle }).app a).episode ≠ .planned
      rw [State.app_onApp_self]
      nofun
  · next hn => exact ⟨rfl, fun b => rfl, hn, rfl, rfl⟩

theorem unplanRef_spec (r : ReqRef) (s : State) :
    let u := unplanRef r s
    { u.pri with approaches := s.pri.approaches } = s.pri ∧ (∀ b, (s.app b).Reset (u.app b))
      ∧ (∀ a tag, r = .tram a tag → (u.app a).episode ≠ .planned) ∧ u.seq = s.seq ∧ u.sge = s.sge := by
  cases r with
  | tram a n =>
    obtain ⟨h1, h2, h3, h4, h5⟩ := unplan_spec a s
    refine ⟨h1, h2, fun b m hb => ?_, h4, h5⟩
    cases hb
    exact h3
  | call id => exact ⟨rfl, fun _ => rfl, nofun, rfl, rfl⟩

/-- No plan stands, and one that stood has taken its countdown and mark with it. -/
def Withdrawn (s u : State) : Prop := u.pri.standing = none
  ∧ (s.pri.standing ≠ none → u.seq.h = none ∧ u.seq.mark = none)
  ∧ (s.pri.standing = none → u.seq.h = s.seq.h ∧ u.seq.mark = s.seq.mark)

theorem Withdrawn.of_eq (h : Withdrawn s t) (hs : u.pri.standing = t.pri.standing) (hh : u.seq.h = t.seq.h) (hm : u.seq.mark = t.seq.mark) :
    Withdrawn s u := by
  obtain ⟨h1, h2, h3⟩ := h
  rw [Withdrawn, hs, hh, hm]
  exact ⟨h1, h2, h3⟩

/-- What a withdrawal leaves besides. -/
structure WithdrawKeeps (s u : State) : Prop where
  pri : { u.pri with approaches := s.pri.approaches, standing := s.pri.standing } = s.pri
  apps : ∀ b, (s.app b).Reset (u.app b)
  seq : { u.seq with h := s.seq.h, mark := s.seq.mark } = s.seq
  sge : u.sge = s.sge
  acts : PriActs (fun _ => False) False s u

theorem WithdrawKeeps.refl (s : State) : WithdrawKeeps s s := ⟨rfl, fun _ => rfl, rfl, rfl, .refl s⟩

theorem withdraw_spec (s : State) : Withdrawn s (withdraw s) ∧ WithdrawKeeps s (withdraw s) := by
  have hacts := (PriActs.refl (A := fun _ => False) (C := False) s).withdraw
  cases hs : s.pri.standing with
  | none =>
    have hsame : withdraw s = s := by simp only [withdraw, hs]
    rw [hsame]
    exact ⟨⟨hs, fun h => absurd hs h, fun _ => ⟨rfl, rfl⟩⟩, .refl s⟩
  | some p =>
    have heq : withdraw s = unplanRef p.subject (releaseNotice (s.onPri fun x => { x with standing := none })) := by
      simp only [withdraw, hs]
    obtain ⟨upri, uapp, -, useq, usge⟩ := unplanRef_spec p.subject (releaseNotice (s.onPri fun x => { x with standing := none }))
    rw [← heq] at upri uapp useq usge
    refine ⟨⟨(congrArg Pri.standing upri :), fun _ => ?_, fun hn => ?_⟩, ⟨?_, uapp, ?_, usge, hacts⟩⟩
    · rw [useq]
      exact ⟨rfl, rfl⟩
    · rw [hs] at hn
      cases hn
    · exact congrArg (fun q : Pri => { q with approaches := s.pri.approaches, standing := s.pri.standing }) upri
    · rw [useq]
      rfl

/-- A standing plan for another request is withdrawn. -/
def clearedFor (r : ReqRef) (s : State) : State := if s.pri.standing.any (fun p => p.subject ≠ r) = true then withdraw s else s

theorem clearedFor_none {r : ReqRef} (h : s.pri.standing = none) : clearedFor r s = s := by simp [clearedFor, h]

theorem clearedFor_some {r : ReqRef} {p : PlanRec} (h : s.pri.standing = some p) : clearedFor r s =
    if p.subject = r then s else withdraw s := by
  rw [clearedFor, h]
  by_cases hp : p.subject = r <;> simp [hp]

theorem clearedFor_spec (r : ReqRef) (s : State) :
    ((∀ p, s.pri.standing = some p → p.subject ≠ r) → Withdrawn s (clearedFor r s)) ∧ WithdrawKeeps s (clearedFor r s) := by
  obtain ⟨hw, hk⟩ := withdraw_spec s
  cases hs : s.pri.standing with
  | none =>
    rw [clearedFor_none hs]
    exact ⟨fun _ => ⟨hs, fun h => absurd hs h, fun _ => ⟨rfl, rfl⟩⟩, .refl s⟩
  | some p =>
    rw [clearedFor_some hs]
    split
    · next hp => exact ⟨fun h => absurd hp (h p rfl), .refl s⟩
    · exact ⟨fun _ => hw, hk⟩

/-! ### One run of the planner (R119 to R126) -/

theorem levelNotice_taken (hm : s.jmc.mode = .normal) (hr : s.stageRunning = true) (l : Nat) :
    levelNotice l s = (s.onSeq fun q => { q with level := max q.level l }).push .choose := if_pos (by simp [hm, hr])

theorem planningResult_taken (hm : s.jmc.mode = .normal) (hr : s.stageRunning = true) (h : Nat) (p : StageId) :
    planningResult h p s = if h = 0 then ((s.onSeq fun q => { q with h := some h, mark := some p }).push .choose).push .endExpiry
      else (s.onSeq fun q => { q with h := some h, mark := some p }).push .choose := if_pos (by simp [hm, hr])

theorem plannerRun_idle (h : s.jmc.mode ≠ .normal ∨ s.seq.status ≠ some .running) (r : ReqRef) : plannerRun r s = s := by
  refine if_neg fun hx => ?_
  obtain ⟨hm, hr⟩ := Bool.and_eq_true_iff.mp hx
  obtain h | h := h
  · exact h (of_decide_eq_true hm)
  · exact h (stageRunning_iff.mp hr)

section Run

variable {r : ReqRef} (hm : s.jmc.mode = .normal) (hr : s.stageRunning = true)
include hm hr

theorem plannerRun_barred (h : s.reqLevel r ≤ s.seq.level) : plannerRun r s = unplanRef r (withdraw s) := by
  simp [plannerRun, hm, hr, permitted, Nat.not_lt.mpr h]

theorem plannerRun_extends (h : s.seq.level < s.reqLevel r) (he : extensionApplies s r = true) : plannerRun r s = extendFor r s := by
  simp [plannerRun, hm, hr, permitted, h, he]

theorem plannerRun_inserts (h : s.seq.level < s.reqLevel r) (he : extensionApplies s r = false) : plannerRun r s = insertPlan r s := by
  simp [plannerRun, hm, hr, permitted, h, he]

end Run

theorem tramGroup?_eq_some {a : ApproachId} {g : GroupId} : s.tramGroup? a = some g ↔ (s.appSet a).present = true ∧ (s.appSet a).tramGroup = g := by
  rw [State.tramGroup?]
  split
  · next h => simp [h]
  · next h => simp [h]

theorem tramGroup?_congr (hp : t.pts.activeCopy = s.pts.activeCopy) (hs : t.seq.activeSlot = s.seq.activeSlot) (a : ApproachId) :
    t.tramGroup? a = s.tramGroup? a := by rw [State.tramGroup?, State.tramGroup?, appSet_congr hp hs]

theorem tramGroupOpenInStage_iff {a : ApproachId} : s.tramGroupOpenInStage a = true ↔ (s.appSet a).present = true ∧ s.stageRunning = true
    ∧ (s.grp (s.appSet a).tramGroup).state = .opened ∧ GroupSet.has s.seq.groups (s.appSet a).tramGroup = true := by
  rw [State.tramGroupOpenInStage, State.tramGroup?]
  by_cases hp : (s.appSet a).present = true <;> simp [hp, and_assoc]

/-- The head has been announced as PLANNED before it is served. -/
def announced (a : ApproachId) (h : TramRec) (s : State) : State :=
  reportTram .planned a h none none ((clearedFor (.tram a h.tag) s).onApp a fun r => { r with episode := .planned, recovery := 0 })

theorem extendTram_eq {a : ApproachId} {h : TramRec} (hh : s.head? a = some h) : extendTram a s =
    levelNotice 2 ((serveHead a (announced a h s)).onPri fun p => { p with own := some (.tram a h.tag) }) := by
  unfold extendTram announced
  rw [hh]
  cases hs : s.pri.standing with
  | none => rw [clearedFor_none hs]
  | some p => rw [clearedFor_some hs]

/-- What the extension of a head leaves. -/
theorem extendTram_spec {a : ApproachId} {g : GroupId} {h : TramRec} {rest : List TramRec} (hm : s.jmc.mode = .normal)
    (hr : s.stageRunning = true) (hq : (s.app a).queue = h :: rest) (hg : s.tramGroup? a = some g) (hopen : (s.grp g).state = .opened) :
    let u := extendTram a s
    ((∀ p, s.pri.standing = some p → p.subject ≠ .tram a h.tag) → Withdrawn s u)
      ∧ u.app a = { s.app a with queue := { h with state := .serving } :: rest, episode := .serving, recovery := 0 }
      ∧ u.pri.own = some (.tram a h.tag) ∧ u.seq.level = max s.seq.level 2 ∧ .approach a ∈ u.holders g ∧ u.cap a = s.firstCap a := by
  have hhead : s.head? a = some h := by rw [State.head?, hq]; rfl
  obtain ⟨hw, hk⟩ := clearedFor_spec (.tram a h.tag) s
  rw [extendTram_eq hhead, announced]
  have happs := hk.apps a
  have hseq := hk.seq
  have hsge := hk.sge
  obtain ⟨-, -, hjmc, hpts⟩ := hk.acts.outside.blocks
  generalize clearedFor (.tram a h.tag) s = v at hw happs hseq hsge hjmc hpts ⊢
  obtain ⟨w, hwdef⟩ : ∃ w, w = reportTram .planned a h none none (v.onApp a fun r => { r with episode := .planned, recovery := 0 }) :=
    ⟨_, rfl⟩
  rw [← hwdef]
  have hwv : w.seq = v.seq ∧ w.pri.standing = v.pri.standing ∧ w.sge = s.sge ∧ w.pts = s.pts ∧ w.jmc = s.jmc := by
    rw [hwdef]
    exact ⟨rfl, rfl, hsge, hpts, hjmc⟩
  obtain ⟨wseq, wstand, wsge, wpts, wjmc⟩ := hwv
  have wapp : w.app a = { s.app a with episode := .planned, recovery := 0 } := by
    have happ : w.app a = { v.app a with episode := .planned, recovery := 0 } := by
      rw [hwdef]
      exact (State.app_onApp_self v a fun r => { r with episode := .planned, recovery := 0 } :)
    rw [happ, happs]
  have wslot : w.seq.activeSlot = s.seq.activeSlot := by rw [wseq, ← hseq]
  have wgroup : w.tramGroup? a = some g := (tramGroup?_congr (by rw [wpts]) wslot a).trans hg
  obtain ⟨tapp, tcap, thold, -⟩ := serveHead_spec (s := w) (by rw [wapp]; exact hq) wgroup (by rw [State.grp, wsge]; exact hopen)
  have hplan := KeepsPlan.serveHead a w
  have hout := ((PriActs.refl (A := fun _ => True) (C := True) w).serveHead (a := a) trivial).outside
  generalize serveHead a w = x at tapp tcap thold hplan hout ⊢
  obtain ⟨-, -, xjmc, -⟩ := hout.blocks
  have xmode : (x.onPri fun p => { p with own := some (.tram a h.tag) }).jmc.mode = .normal := by
    rw [State.onPri_jmc, xjmc, wjmc, hm]
  have xstatus : x.seq.status = s.seq.status := by rw [hplan.seq, wseq, ← hseq]
  have xrun : (x.onPri fun p => { p with own := some (.tram a h.tag) }).stageRunning = true := by
    rw [stageRunning_iff] at hr ⊢
    rw [State.onPri_seq, xstatus, hr]
  have xlevel : x.seq.level = s.seq.level := by rw [hplan.seq, wseq, ← hseq]
  have hcap : w.firstCap a = s.firstCap a := by
    have hfree : w.seq.holdFreeSeen = s.seq.holdFreeSeen := by rw [wseq, ← hseq]
    rw [State.firstCap, State.firstCap, appSet_congr (s := s) (by rw [wpts]) wslot, hfree]
  rw [levelNotice_taken xmode xrun]
  refine ⟨fun hn => (hw hn).of_eq (hplan.standing.trans wstand) ?_ ?_, ?_, rfl, ?_, thold, tcap.trans hcap⟩
  · exact (congrArg Seq.h (hplan.seq.trans wseq) :)
  · exact (congrArg Seq.mark (hplan.seq.trans wseq) :)
  · exact tapp.trans (by rw [wapp])
  · exact congrArg (max · 2) xlevel

theorem extendFor_call_eq (id : Nat) (s : State) : extendFor (.call id) s =
    levelNotice ((serveCall id (clearedFor (.call id) s)).reqLevel (.call id))
      ((serveCall id (clearedFor (.call id) s)).onPri fun p => { p with own := some (.call id) }) := by
  unfold extendFor
  cases hs : s.pri.standing with
  | none => rw [clearedFor_none hs]
  | some p => rw [clearedFor_some hs]

/-- What the extension of a call leaves. -/
theorem extendFor_call_spec {id : Nat} {c : Call} (hm : s.jmc.mode = .normal) (hr : s.stageRunning = true) (hc : s.call? id = some c) :
    let u := extendFor (.call id) s
    ((∀ p, s.pri.standing = some p → p.subject ≠ .call id) → Withdrawn s u)
      ∧ u.call? id = some (c.served s.seq.current) ∧ u.pri.own = some (.call id) ∧ u.seq.level = max s.seq.level (s.reqLevel (.call id))
      ∧ ∀ g, GroupSet.has (s.stageGroups c.target) g = true → (s.grp g).state = .opened → .call id ∈ u.holders g := by
  obtain ⟨hw, hk⟩ := clearedFor_spec (.call id) s
  rw [extendFor_call_eq]
  have hseq := hk.seq
  have hsge := hk.sge
  have hpri := hk.pri
  obtain ⟨-, -, hjmc, hpts⟩ := hk.acts.outside.blocks
  generalize clearedFor (.call id) s = v at hw hseq hsge hpri hjmc hpts ⊢
  have vcall : v.call? id = some c := by rw [← hc, State.call?, State.call?, ← hpri]
  have vslot : v.seq.activeSlot = s.seq.activeSlot := by rw [← hseq]
  obtain ⟨tcall, thold⟩ := serveCall_spec vcall
  have hplan := KeepsPlan.serveCall id v
  have hout := ((PriActs.refl (A := fun _ => True) (C := True) v).serveCall trivial id).outside
  generalize serveCall id v = x at tcall thold hplan hout ⊢
  obtain ⟨-, -, xjmc, -⟩ := hout.blocks
  have vseqs : v.seq.status = s.seq.status ∧ v.seq.level = s.seq.level ∧ v.seq.current = s.seq.current := by
    rw [← hseq]
    exact ⟨rfl, rfl, rfl⟩
  obtain ⟨vstatus, vlevel, vcur⟩ := vseqs
  have xmode : (x.onPri fun p => { p with own := some (.call id) }).jmc.mode = .normal := by rw [State.onPri_jmc, xjmc, hjmc, hm]
  have xrun : (x.onPri fun p => { p with own := some (.call id) }).stageRunning = true := by
    rw [stageRunning_iff] at hr ⊢
    rw [State.onPri_seq, hplan.seq, vstatus, hr]
  have hlevel : x.reqLevel (.call id) = s.reqLevel (.call id) := by
    rw [State.reqLevel, State.reqLevel, tcall, hc]
    rfl
  rw [levelNotice_taken xmode xrun, hlevel]
  refine ⟨fun hn => (hw hn).of_eq hplan.standing ?_ ?_, ?_, rfl, ?_, fun g hg ho => thold g ?_ ?_⟩
  · exact (congrArg Seq.h hplan.seq :)
  · exact (congrArg Seq.mark hplan.seq :)
  · rw [vcur] at tcall
    exact tcall
  · exact congrArg (max · (s.reqLevel (.call id))) ((congrArg Seq.level hplan.seq).trans vlevel)
  · rw [stageGroups_congr (s := s) (by rw [hpts]) vslot]
    exact hg
  · rw [State.grp, hsge]
    exact ho

end Sys2Proof.Machine
end

section
namespace Sys2Proof.Machine

variable {s t u v : State}

/-! ### An insertion run (R125, R126) -/

theorem foldl_max_spec (l : List Nat) (n : Nat) : n ≤ l.foldl max n ∧ (∀ x ∈ l, x ≤ l.foldl max n) ∧ (l.foldl max n = n ∨ l.foldl max n ∈ l) := by
  induction l generalizing n with
  | nil => exact ⟨Nat.le_refl n, nofun, .inl rfl⟩
  | cons y l ih =>
    obtain ⟨h1, h2, h3⟩ := ih (max n y)
    rw [List.foldl_cons]
    refine ⟨(Nat.le_max_left n y).trans h1, fun x hx => ?_, ?_⟩
    · obtain rfl | hx := List.mem_cons.mp hx
      · exact (Nat.le_max_right n x).trans h1
      · exact h2 x hx
    · obtain h3 | h3 := h3
      · rw [h3]
        obtain h | h := max_choice n y
        · exact .inl h
        · exact .inr (by rw [h]; exact List.mem_cons_self ..)
      · exact .inr (List.mem_cons_of_mem y h3)

theorem le_largest {l : List Nat} {x : Nat} (h : x ∈ l) : x ≤ largest l := (foldl_max_spec l 0).2.1 x h

theorem largest_zero_or_mem (l : List Nat) : largest l = 0 ∨ largest l ∈ l := (foldl_max_spec l 0).2.2

theorem endingTime_spec (s : State) : (∀ g, GroupSet.has s.seq.groups g = true → (s.grp g).mgRem ≤ endingTime s)
    ∧ (endingTime s = 0 ∨ ∃ g, GroupSet.has s.seq.groups g = true ∧ (s.grp g).mgRem = endingTime s) := by
  refine ⟨fun g hg => le_largest (List.mem_map.mpr ⟨g, mem_members.mpr hg, rfl⟩), ?_⟩
  obtain h | h := largest_zero_or_mem ((GroupSet.members s.seq.groups).map fun g => (s.grp g).mgRem)
  · exact .inl h
  · obtain ⟨g, hg, he⟩ := List.mem_map.mp h
    exact .inr ⟨g, mem_members.mp hg, he⟩

/-- The clearance a group that opens waits for, from the groups that close. -/
def clearanceFor (s : State) (cur next : GroupSet) (b : GroupId) : Nat :=
  largest (((GroupSet.members (GroupSet.minus cur next)).filter fun e => GroupSet.has (s.conflicts b) e).map fun e => s.ig e b)

theorem transitionTime_eq (s : State) (cur next : GroupSet) : transitionTime s cur next =
    largest ((GroupSet.members (GroupSet.minus next cur)).map fun b => max (s.groupDef b).opent (clearanceFor s cur next b)) := rfl

theorem mem_minus {x y : GroupSet} {g : GroupId} : g ∈ GroupSet.members (GroupSet.minus x y) ↔
    GroupSet.has x g = true ∧ GroupSet.has y g = false := by
  rw [mem_members, has_minus, Bool.and_eq_true, Bool.not_eq_true']

theorem transitionTime_spec (s : State) (cur next : GroupSet) :
    (∀ b, GroupSet.has next b = true → GroupSet.has cur b = false → (s.groupDef b).opent ≤ transitionTime s cur next)
    ∧ (∀ b e, GroupSet.has next b = true → GroupSet.has cur b = false → GroupSet.has cur e = true → GroupSet.has next e = false →
        GroupSet.has (s.conflicts b) e = true → s.ig e b ≤ transitionTime s cur next)
    ∧ (transitionTime s cur next = 0 ∨ ∃ b, GroupSet.has next b = true ∧ GroupSet.has cur b = false
        ∧ ((s.groupDef b).opent = transitionTime s cur next ∨ ∃ e, GroupSet.has cur e = true ∧ GroupSet.has next e = false
            ∧ GroupSet.has (s.conflicts b) e = true ∧ s.ig e b = transitionTime s cur next)) := by
  have hle (b : GroupId) (h1 : GroupSet.has next b = true) (h2 : GroupSet.has cur b = false) :
      max (s.groupDef b).opent (clearanceFor s cur next b) ≤ transitionTime s cur next := by
    rw [transitionTime_eq]
    exact le_largest (List.mem_map.mpr ⟨b, mem_minus.mpr ⟨h1, h2⟩, rfl⟩)
  refine ⟨fun b h1 h2 => (Nat.le_max_left ..).trans (hle b h1 h2), fun b e h1 h2 h3 h4 h5 => ?_, ?_⟩
  · refine Nat.le_trans ?_ ((Nat.le_max_right ..).trans (hle b h1 h2))
    exact le_largest (List.mem_map.mpr ⟨e, List.mem_filter.mpr ⟨mem_minus.mpr ⟨h3, h4⟩, h5⟩, rfl⟩)
  · rw [transitionTime_eq]
    obtain h | h := largest_zero_or_mem
      ((GroupSet.members (GroupSet.minus next cur)).map fun b => max (s.groupDef b).opent (clearanceFor s cur next b))
    · exact .inl h
    · obtain ⟨b, hb, he⟩ := List.mem_map.mp h
      obtain ⟨h1, h2⟩ := mem_minus.mp hb
      rw [← he]
      obtain hc | hc := largest_zero_or_mem
        (((GroupSet.members (GroupSet.minus cur next)).filter fun e => GroupSet.has (s.conflicts b) e).map fun e => s.ig e b)
      · refine .inr ⟨b, h1, h2, .inl ?_⟩
        have hzero : clearanceFor s cur next b = 0 := hc
        rw [hzero, Nat.max_zero]
      · obtain ⟨e, hem, hee⟩ := List.mem_map.mp hc
        obtain ⟨hmem, hconf⟩ := List.mem_filter.mp hem
        obtain ⟨h3, h4⟩ := mem_minus.mp hmem
        obtain hmax | hmax := max_choice (s.groupDef b).opent (clearanceFor s cur next b)
        · exact .inr ⟨b, h1, h2, .inl hmax.symm⟩
        · exact .inr ⟨b, h1, h2, .inr ⟨e, h3, h4, hconf, hee.trans hmax.symm⟩⟩

/-- What the note of a first plan leaves. -/
theorem notePlanned_spec (r : ReqRef) (s : State) :
    let u := notePlanned r s
    u.pri.standing = s.pri.standing ∧ u.pri.own = s.pri.own ∧ u.seq = s.seq ∧ u.sge = s.sge ∧ u.jmc = s.jmc := by
  unfold notePlanned
  split
  · split
    · split
      · exact ⟨rfl, rfl, rfl, rfl, rfl⟩
      · exact ⟨rfl, rfl, rfl, rfl, rfl⟩
    · exact ⟨rfl, rfl, rfl, rfl, rfl⟩
  · split
    · split
      · exact ⟨rfl, rfl, rfl, rfl, rfl⟩
      · exact ⟨rfl, rfl, rfl, rfl, rfl⟩
    · exact ⟨rfl, rfl, rfl, rfl, rfl⟩

/-- What an insertion run leaves. -/
theorem insertPlan_spec {r : ReqRef} {cur : StageId} (hm : s.jmc.mode = .normal) (hr : s.stageRunning = true)
    (hc : s.seq.current = some cur) :
    let u := insertPlan r s
    let p := insertionPlan s r cur
    u.pri.standing = some p ∧ u.seq.h = some p.h ∧ u.seq.mark = some p.prio ∧ u.seq.level = s.seq.level ∧ u.pri.own = s.pri.own
      ∧ u.sge = s.sge ∧ (p.h = 0 → .endExpiry ∈ u.notices) := by
  intro u p
  have hu : u = planningResult p.h p.prio (notePlanned r (s.onPri fun x => { x with standing := some p })) := by
    simp only [u, insertPlan, hc]
    rfl
  obtain ⟨hstand, hown, hseq, hsge, hjmc⟩ := notePlanned_spec r (s.onPri fun x => { x with standing := some p })
  rw [hu]
  generalize notePlanned r (s.onPri fun x => { x with standing := some p }) = v at hstand hown hseq hsge hjmc ⊢
  clear_value p
  rw [planningResult_taken (by rw [hjmc]; exact hm) (by rw [State.stageRunning, hseq]; exact hr)]
  have hlevel : v.seq.level = s.seq.level := by rw [hseq]; rfl
  split
  · exact ⟨hstand, rfl, rfl, hlevel, hown, hsge, fun _ => by simp⟩
  · next hn => exact ⟨hstand, rfl, rfl, hlevel, hown, hsge, fun h0 => absurd h0 hn⟩

/-- Settles O48. -/
theorem plannerInsertsOrExtends : Obligations.PlannerInsertsOrExtends := by
  intro s r u withdrawn
  refine ⟨fun h => plannerRun_idle h r, fun hm hstat => ?_⟩
  have hr : s.stageRunning = true := stageRunning_iff.mpr hstat
  refine ⟨fun hle => ?_, fun hlt => ⟨fun a g h rest hra hq hp hg hopen hin => ?_, fun id c hrc hc hnodup hall => ?_,
    fun cur a hcur hcase => ?_⟩⟩
  · have hu : u = unplanRef r (withdraw s) := plannerRun_barred hm hr hle
    obtain ⟨hw, hk⟩ := withdraw_spec s
    rw [← show Withdrawn s u = withdrawn from rfl, hu]
    have happs := hk.apps
    have hseq := hk.seq
    have hpri := hk.pri
    generalize withdraw s = v at hw happs hseq hpri ⊢
    obtain ⟨upri, uapp, uep, useq, -⟩ := unplanRef_spec r v
    generalize unplanRef r v = w at upri uapp uep useq ⊢
    refine ⟨hw.of_eq (by rw [← upri]) (by rw [useq]) (by rw [useq]), by rw [useq, ← hseq], ?_, ?_, fun a tag hra => ⟨uep a tag hra, ?_⟩⟩
    · exact (congrArg Pri.own upri :).trans (congrArg Pri.own hpri :)
    · exact (congrArg Pri.calls upri :).trans (congrArg Pri.calls hpri :)
    · rw [uapp a, happs a]
  · have hgroup : s.tramGroup? a = some g := tramGroup?_eq_some.mpr ⟨hp, hg⟩
    have hext : extensionApplies s r = true := by
      rw [hra]
      exact tramGroupOpenInStage_iff.mpr ⟨hp, hr, by rw [hg]; exact hopen, by rw [hg]; exact hin⟩
    have hu : u = extendTram a s := by
      rw [show u = extendFor r s from plannerRun_extends hm hr hlt hext, hra]
      rfl
    obtain ⟨kw, kapp, kown, klevel, khold, kcap⟩ := extendTram_spec hm hr hq hgroup hopen
    rw [← hu] at kw kapp kown klevel khold kcap
    have htwo : s.seq.level < 2 := by
      rw [hra] at hlt
      exact hlt
    refine ⟨fun hn => kw fun p hp => by rw [← hra]; exact hn p hp, kapp, by rw [hra]; exact kown, ?_, khold, kcap⟩
    rw [klevel, Nat.max_eq_right (Nat.le_of_lt htwo)]
  · have hext : extensionApplies s r = true := by
      rw [hrc]
      simp only [extensionApplies, hc, hr, Bool.true_and, List.all_eq_true]
      intro g hg
      obtain ⟨h1, h2⟩ := hall g (mem_members.mp hg)
      simp [h1, h2]
    have hu : u = extendFor (.call id) s := by
      rw [← hrc]
      exact plannerRun_extends hm hr hlt hext
    obtain ⟨kw, kcall, kown, klevel, khold⟩ := extendFor_call_spec hm hr hc
    rw [← hu] at kw kcall kown klevel khold
    refine ⟨fun hn => kw fun p hp => by rw [← hrc]; exact hn p hp, kcall, by rw [hrc]; exact kown, ?_,
      fun g hg => khold g hg (hall g hg).1⟩
    rw [klevel, ← hrc, Nat.max_eq_right (Nat.le_of_lt hlt)]
  · have hfacts : extensionApplies s r = false ∧ arrival s r = a := by
      obtain ⟨k, h, hrk, hh, ha, hn⟩ | ⟨id, c, g, hrc, hc, ha, hg, hn⟩ := hcase
      · rw [hrk, ha]
        refine ⟨Bool.eq_false_iff.mpr fun hx => hn ?_, ?_⟩
        · obtain ⟨h1, -, h2, h3⟩ := tramGroupOpenInStage_iff.mp hx
          exact ⟨h1, h2, h3⟩
        · simp only [arrival, hh]
      · rw [hrc, ha]
        refine ⟨Bool.eq_false_iff.mpr fun hx => hn ?_, ?_⟩
        · simp only [extensionApplies, hc, hr, Bool.true_and, List.all_eq_true] at hx
          simpa using hx g (mem_members.mpr hg)
        · simp only [arrival, hc]
    obtain ⟨hext, harr⟩ := hfacts
    have hu : u = insertPlan r s := plannerRun_inserts hm hr hlt hext
    obtain ⟨kstand, kh, kmark, klevel, kown, ksge, kexp⟩ := insertPlan_spec (r := r) hm hr hcur
    rw [← hu] at kstand kh kmark klevel kown ksge kexp
    obtain ⟨hd1, hd2⟩ := endingTime_spec s
    obtain ⟨ht1, ht2, ht3⟩ := transitionTime_spec s s.seq.groups (s.stageGroups (s.prioStage r))
    have hplan : insertionPlan s r cur = {
        subject := r, level := s.reqLevel r, stage := cur, prio := s.prioStage r, d := endingTime s
        tTrans := transitionTime s s.seq.groups (s.stageGroups (s.prioStage r))
        l := a - transitionTime s s.seq.groups (s.stageGroups (s.prioStage r))
        h := max (endingTime s) (a - transitionTime s s.seq.groups (s.stageGroups (s.prioStage r))) } := by
      simp only [insertionPlan, harr]
    rw [hplan] at kstand kh kmark kexp
    intro next opens closes
    refine ⟨_, _, kstand, kh, kmark, klevel, kown, ksge, hd1, hd2, fun b hb => ht1 b hb.1 hb.2,
      fun b e hb he => ht2 b e hb.1 hb.2 he.1 he.2, ht3.imp_right fun ⟨b, h1, h2, h3⟩ => ⟨b, ⟨h1, h2⟩,
        h3.imp_right fun ⟨e, h4, h5, h6, h7⟩ => ⟨e, ⟨h4, h5⟩, h6, h7⟩⟩, fun hd hle => kexp ?_⟩
    change max (endingTime s) (a - transitionTime s s.seq.groups (s.stageGroups (s.prioStage r))) = 0
    rw [hd, Nat.sub_eq_zero_of_le hle, Nat.max_self]

end Sys2Proof.Machine
end

section
namespace Sys2Proof.Machine

variable {s t u v : State}

/-! ### The entry notice (R70, R82, R104) -/

theorem setWait_spec (g : GroupId) (on : Bool) (s : State) :
    let u := setWait g on s
    SameOutsideGroups s u ∧ (u.grp g).wait = (if s.present g = true then on else (s.grp g).wait)
      ∧ ∀ h, (u.grp h).state = (s.grp h).state := by
  unfold setWait
  split
  · next hn =>
    refine ⟨rfl, ?_, fun _ => rfl⟩
    simp only [Bool.or_eq_true, Bool.not_eq_true', decide_eq_true_eq] at hn
    obtain hn | hn := hn
    · rw [if_neg (by simp [hn])]
    · rw [hn, ite_self]
  · next hn =>
    have hp : s.present g = true := by
      rw [Bool.or_eq_true, not_or] at hn
      simpa using hn.1
    have hset : ((s.onGrp g fun r => { r with wait := on }).grp g).wait = on := by rw [State.grp_onGrp_self]
    have hstate (h : GroupId) : ((s.onGrp g fun r => { r with wait := on }).grp h).state = (s.grp h).state :=
      grp_state_onGrp (f := fun r => { r with wait := on }) rfl h
    rw [if_pos hp]
    dsimp only
    split
    · exact ⟨rfl, hset, hstate⟩
    · exact ⟨rfl, hset, hstate⟩

/-- What clearing a demand leaves. -/
theorem clearDemand_spec (g : GroupId) (s : State) :
    let u := clearDemand g s
    u.dem g = {} ∧ (∀ h, h ≠ g → u.dem h = s.dem h)
      ∧ (u.grp g).wait = (if s.present g = true ∧ DemandSet.has (s.dem g).sources .button = true then false else (s.grp g).wait)
      ∧ (∀ h, (u.grp h).state = (s.grp h).state) ∧ { u.seq with demand := s.seq.demand } = s.seq ∧ u.pri = s.pri ∧ u.pts = s.pts
      ∧ u.jmc = s.jmc := by
  have hdem (h : GroupId) : (s.onDem g fun _ => {}).dem h = if h = g then {} else s.dem h := by
    split
    · next e => rw [e, State.dem_onDem_self]
    · next e => exact State.dem_onDem_ne s (Ne.symm e) _
  obtain ⟨hout, hwait, hstate⟩ := setWait_spec g false (s.onDem g fun _ => {})
  obtain ⟨hpts, hseq, -, hpri, hjmc, -⟩ := hout.reads
  unfold clearDemand
  dsimp only
  split
  · next hb =>
    have hdem' (h : GroupId) : (setWait g false (s.onDem g fun _ => {})).dem h = if h = g then {} else s.dem h := by
      rw [setWait_dem, hdem]
    refine ⟨by rw [hdem', if_pos rfl], fun h hh => by rw [hdem', if_neg hh], ?_, hstate, by rw [hseq]; rfl, hpri, hpts, hjmc⟩
    rw [hwait]
    have hp : (s.onDem g fun _ => {}).present g = s.present g := rfl
    rw [hp]
    simp only [hb, and_true]
    rfl
  · next hb =>
    refine ⟨by rw [hdem, if_pos rfl], fun h hh => by rw [hdem, if_neg hh], ?_, fun _ => rfl, rfl, rfl, rfl, rfl⟩
    rw [if_neg fun hx => hb hx.2]
    rfl

/-- What a group's joining its stage leaves. -/
theorem startedGroup_spec (g : GroupId) (s : State) :
    let u := startedGroup g s
    let starts : Prop := s.seq.status = some .transition ∧ GroupSet.has s.seq.starting g = true
    let left := GroupSet.minus s.seq.starting (GroupSet.only g)
    u.sge = s.sge ∧ u.pri = s.pri ∧ u.pts = s.pts ∧ u.jmc = s.jmc ∧ { u.seq with status := s.seq.status, starting := s.seq.starting } = s.seq
      ∧ (starts → u.seq.starting = left ∧ (left ≠ 0 → u.seq.status = some .transition)
        ∧ (left = 0 → ∀ c, s.seq.current = some c → u.seq.status = some .running ∧ .running c ∈ u.notices))
      ∧ (¬ starts → u.seq.starting = s.seq.starting ∧ u.seq.status = s.seq.status) := by
  intro u starts left
  by_cases hs : starts
  · have hu : u = if left = 0 then becomeRunning (s.onSeq fun q => { q with starting := left })
        else s.onSeq fun q => { q with starting := left } := if_pos (by simpa [starts] using hs)
    rw [hu]
    clear_value left
    by_cases h0 : left = 0
    · rw [if_pos h0]
      cases hc : s.seq.current with
      | none =>
        have hrun : becomeRunning (s.onSeq fun q => { q with starting := left }) = s.onSeq fun q => { q with starting := left } := by
          simp only [becomeRunning, State.onSeq_seq, hc]
        rw [hrun]
        exact ⟨rfl, rfl, rfl, rfl, rfl, fun _ => ⟨rfl, fun hn => absurd h0 hn, fun _ => nofun⟩, fun hn => absurd hs hn⟩
      | some c =>
        rw [becomeRunning_eq (s := s.onSeq fun q => { q with starting := left }) hc]
        refine ⟨rfl, rfl, rfl, rfl, rfl, fun _ => ⟨rfl, fun hn => absurd h0 hn, fun _ d hd => ⟨rfl, ?_⟩⟩, fun hn => absurd hs hn⟩
        obtain rfl := Option.some.inj hd
        simp
    · rw [if_neg h0]
      exact ⟨rfl, rfl, rfl, rfl, rfl, fun _ => ⟨rfl, fun _ => hs.1, fun h => absurd h h0⟩, fun hn => absurd hs hn⟩
  · have hu : u = s := if_neg (by simpa [starts] using hs)
    rw [hu]
    exact ⟨rfl, rfl, rfl, rfl, rfl, fun h => absurd h hs, fun _ => ⟨rfl, rfl⟩⟩

theorem passToServing_idle {a : ApproachId} (h : (s.app a).episode ≠ .planned ∨ ∀ h, s.head? a = some h → h.state ≠ .waiting) :
    passToServing a s = s := by
  unfold passToServing
  split
  · next x hx =>
    refine if_neg fun hc => ?_
    obtain ⟨h1, h2⟩ := Bool.and_eq_true_iff.mp hc
    obtain h | h := h
    · exact h (of_decide_eq_true h1)
    · exact h x hx (of_decide_eq_true h2)
  · rfl

theorem passToServing_planned {a : ApproachId} {h : TramRec} {rest : List TramRec} (hq : (s.app a).queue = h :: rest)
    (he : (s.app a).episode = .planned) (hw : h.state = .waiting) : passToServing a s = serveHead a s := by
  have hh : s.head? a = some h := by rw [State.head?, hq]; rfl
  simp [passToServing, hh, he, hw]

/-- An approach that does not pass to SERVING stays as it is while others do. -/
theorem foldl_passToServing_idle {a : ApproachId} (l : List ApproachId)
    (h : a ∉ l ∨ (s.app a).episode ≠ .planned ∨ ∀ h, s.head? a = some h → h.state ≠ .waiting) :
    Spares (fun b => b = a) (fun _ => True) s (l.foldl (fun s a => passToServing a s) s) := by
  refine (Spares.refl s).foldl (fun s a => passToServing a s) l fun u b hb hu => ?_
  by_cases hba : b = a
  · subst hba
    have hidle := h.resolve_left (not_not_intro hb)
    have happ := (hu.apps b rfl).1
    rw [passToServing_idle (by rw [State.head?, happ]; exact hidle)]
    exact hu
  · exact hu.passToServing hba

/-- What serving its head makes of an approach and its tram group. -/
structure TramServed (a : ApproachId) (g : GroupId) (h : TramRec) (rest : List TramRec) (s t : State) : Prop where
  app : t.app a = { s.app a with queue := { h with state := .serving } :: rest, episode := .serving }
  cap : t.cap a = s.firstCap a
  holder : .approach a ∈ t.holders g
  hold : s.present g = true → (t.grp g).hold = true

theorem TramServed.spared {a : ApproachId} {g : GroupId} {h : TramRec} {rest : List TramRec} {A : ApproachId → Prop} {I : Nat → Prop}
    (hs : TramServed a g h rest s t) (hk : Spares A I t u) (hA : A a) : TramServed a g h rest s u :=
  ⟨(hk.apps a hA).1.trans hs.app, (hk.apps a hA).2.trans hs.cap, hk.holders g _ hs.holder, fun hp => hk.holds g (hs.hold hp)⟩

theorem Spares.firstCap {A : ApproachId → Prop} {I : Nat → Prop} (h : Spares A I s t) (a : ApproachId) : t.firstCap a = s.firstCap a := by
  obtain ⟨-, -, -, hpts⟩ := h.outside.blocks
  have hslot : t.seq.activeSlot = s.seq.activeSlot := by rw [← h.outside.seq]
  have hfree : t.seq.holdFreeSeen = s.seq.holdFreeSeen := by rw [← h.outside.seq]
  rw [State.firstCap, State.firstCap, appSet_congr (s := s) (by rw [hpts]) hslot, hfree]

theorem Spares.tramGroup? {A : ApproachId → Prop} {I : Nat → Prop} (h : Spares A I s t) (a : ApproachId) :
    t.tramGroup? a = s.tramGroup? a := by
  obtain ⟨-, -, -, hpts⟩ := h.outside.blocks
  exact tramGroup?_congr (by rw [hpts]) (by rw [← h.outside.seq]) a

theorem Spares.state {A : ApproachId → Prop} {I : Nat → Prop} (h : Spares A I s t) (g : GroupId) : (t.grp g).state = (s.grp g).state := by
  rw [← h.outside.groups g]

theorem Spares.present {A : ApproachId → Prop} {I : Nat → Prop} (h : Spares A I s t) (g : GroupId) : t.present g = s.present g := by
  obtain ⟨-, -, -, hpts⟩ := h.outside.blocks
  exact present_of_tables (by rw [hpts]) g

section Served

variable {a : ApproachId} {g : GroupId} {h : TramRec} {rest : List TramRec}

/-- A head that is served after others have been. -/
theorem tramServed_serveHead {I : Nat → Prop} (hs : Spares (fun b => b = a) I s v) (hq : (s.app a).queue = h :: rest)
    (hg : s.tramGroup? a = some g) (hopen : (s.grp g).state = .opened) : TramServed a g h rest s (serveHead a v) := by
  have happ := (hs.apps a rfl).1
  obtain ⟨h1, h2, h3, h4⟩ := serveHead_spec (s := v) (by rw [happ]; exact hq) ((hs.tramGroup? a).trans hg) ((hs.state g).trans hopen)
  exact ⟨by rw [h1, happ], h2.trans (hs.firstCap a), h3, fun hp => h4 ((hs.present g).trans hp)⟩

/-- A head that passes to SERVING among others. -/
theorem tramServed_foldl {l : List ApproachId} (hl : l.Nodup) (ha : a ∈ l) (hq : (s.app a).queue = h :: rest)
    (he : (s.app a).episode = .planned) (hw : h.state = .waiting) (hg : s.tramGroup? a = some g) (hopen : (s.grp g).state = .opened) :
    TramServed a g h rest s (l.foldl (fun s a => passToServing a s) s) := by
  obtain ⟨l₁, l₂, rfl⟩ := List.append_of_mem ha
  obtain ⟨h1, h2⟩ := not_or.mp fun e => (List.nodup_cons.mp (List.nodup_middle.mp hl)).1 (List.mem_append.mpr e)
  have hbefore := foldl_passToServing_idle (s := s) l₁ (.inl h1)
  rw [List.foldl_append, List.foldl_cons]
  generalize l₁.foldl (fun s a => passToServing a s) s = v at hbefore ⊢
  have happ := (hbefore.apps a rfl).1
  rw [passToServing_planned (by rw [happ]; exact hq) (by rw [happ]; exact he) hw]
  exact (tramServed_serveHead hbefore hq hg hopen).spared (foldl_passToServing_idle l₂ (.inl h2)) rfl

end Served

theorem approachIds_nodup : approachIds.Nodup := List.nodup_finRange 4

theorem mem_approachesOf {g : GroupId} {a : ApproachId} : a ∈ approachesOf s g ↔ (s.appSet a).present = true ∧ (s.appSet a).tramGroup = g := by
  rw [approachesOf, List.mem_filter, decide_eq_true_eq, tramGroup?_eq_some]
  exact and_iff_right (List.mem_finRange a)

theorem approachesOf_nodup (g : GroupId) (s : State) : (approachesOf s g).Nodup := approachIds_nodup.filter _

/-- What the entry notice makes of the Priority Unit. -/
theorem priEntered_spec (g : GroupId) (s : State) :
    PriActs (fun _ => True) True s (priEntered g s)
    ∧ (∀ a h rest, (s.appSet a).present = true → (s.appSet a).tramGroup = g → (s.grp g).state = .opened → (s.app a).episode = .planned →
        (s.app a).queue = h :: rest → h.state = .waiting → TramServed a g h rest s (priEntered g s))
    ∧ ∀ a, (¬ ((s.appSet a).present = true ∧ (s.appSet a).tramGroup = g) ∨ (s.grp g).state ≠ .opened ∨ (s.app a).episode ≠ .planned
        ∨ ∀ h, s.head? a = some h → h.state ≠ .waiting) →
      (priEntered g s).app a = s.app a ∧ (priEntered g s).cap a = s.cap a := by
  by_cases hopen : (s.grp g).state = .opened
  · have hpri : priEntered g s = (approachesOf s g).foldl (fun s a => passToServing a s) s := if_pos hopen
    rw [hpri]
    refine ⟨(PriActs.refl s).foldl _ _ fun _ a _ hu => hu.passToServing trivial, fun a h rest hp hg _ he hq hw => ?_, fun a hn => ?_⟩
    · exact tramServed_foldl (approachesOf_nodup g s) (mem_approachesOf.mpr ⟨hp, hg⟩) hq he hw (tramGroup?_eq_some.mpr ⟨hp, hg⟩) hopen
    · refine (foldl_passToServing_idle (approachesOf s g) (a := a) ?_).apps a rfl
      obtain hn | hn | hn := hn
      · exact .inl fun hm => hn (mem_approachesOf.mp hm)
      · exact absurd hopen hn
      · exact .inr hn
  · have hpri : priEntered g s = s := if_neg hopen
    rw [hpri]
    exact ⟨.refl s, fun a h rest _ _ ho => absurd ho hopen, fun _ _ => ⟨rfl, rfl⟩⟩

/-! ### The leaving notice (R105, R130) -/

/-- An approach whose service has ended. -/
def Approach.ended (c : AppSettings) (x : Approach) : Approach :=
  if x.episode = .serving then
    { x with
      queue := x.queue.map fun r => if r.state = .serving then { r with state := .served } else r
      episode := if c.recovery = 0 then .idle else .recovering
      recovery := c.recovery }
  else x

/-- The end of one approach's service, its cap gone. -/
def serviceEnded (s : State) (a : ApproachId) : State := endService a (s.setCap a .absent)

/-- What the end of services keeps. -/
structure EndKeeps (s t : State) : Prop where
  seq : t.seq = s.seq
  sge : t.sge = s.sge
  jmc : t.jmc = s.jmc
  pts : t.pts = s.pts
  holders : t.pri.holders = s.pri.holders

theorem EndKeeps.trans (h : EndKeeps s t) (k : EndKeeps t u) : EndKeeps s u :=
  ⟨k.seq.trans h.seq, k.sge.trans h.sge, k.jmc.trans h.jmc, k.pts.trans h.pts, k.holders.trans h.holders⟩

theorem foldl_report_keeps {α : Type} (f : α → ReportBody) (l : List α) (s : State) :
    let u := l.foldl (fun s r => s.report (f r)) s
    u.seq = s.seq ∧ u.sge = s.sge ∧ u.jmc = s.jmc ∧ u.pts = s.pts ∧ u.pri = s.pri :=
  ⟨foldl_same (r := State.seq) (f := fun s r => s.report (f r)) (fun _ _ => rfl) l s,
    foldl_same (r := State.sge) (f := fun s r => s.report (f r)) (fun _ _ => rfl) l s,
    foldl_same (r := State.jmc) (f := fun s r => s.report (f r)) (fun _ _ => rfl) l s,
    foldl_same (r := State.pts) (f := fun s r => s.report (f r)) (fun _ _ => rfl) l s,
    foldl_same (r := State.pri) (f := fun s r => s.report (f r)) (fun _ _ => rfl) l s⟩

theorem onApp_congr {a : ApproachId} {f k : Approach → Approach} (h : f (s.app a) = k (s.app a)) : s.onApp a f = s.onApp a k := by
  have hset : s.pri.approaches.set a (f s.pri.approaches[a]) = s.pri.approaches.set a (k s.pri.approaches[a]) :=
    congrArg (fun x => s.pri.approaches.set a x) h
  change { s with pri := { s.pri with approaches := s.pri.approaches.set a (f s.pri.approaches[a]) } } = _
  rw [hset]
  rfl

theorem endService_spec (a : ApproachId) (s : State) :
    EndKeeps s (endService a s) ∧ (∀ b, (endService a s).cap b = s.cap b)
      ∧ ∀ b, (endService a s).app b = if b = a then (s.app a).ended (s.appSet a) else s.app b := by
  by_cases he : (s.app a).episode = .serving
  · obtain ⟨v, hv⟩ : ∃ v, v = s.onApp a (Approach.ended (s.appSet a)) := ⟨_, rfl⟩
    have hend : endService a s = episodeChanged
        (((s.app a).queue.filter fun r => r.state = .serving).foldl (fun s r => reportTram .served a r none none s) v) := by
      have honapp : (s.onApp a fun x => { x with
          queue := x.queue.map fun r => if r.state = .serving then { r with state := .served } else r
          episode := if (s.appSet a).recovery = 0 then .idle else .recovering
          recovery := (s.appSet a).recovery }) = v := by
        rw [hv]
        exact onApp_congr (if_pos he).symm
      rw [← honapp]
      exact if_pos he
    have hkeep := foldl_report_keeps (fun r : TramRec => .priorityEvent .served (.tram a) (some r.tag) none r.vehicle none)
      ((s.app a).queue.filter fun r => r.state = .serving) v
    have hfold : ((s.app a).queue.filter fun r => r.state = .serving).foldl (fun s r => reportTram .served a r none none s) v
        = ((s.app a).queue.filter fun r => r.state = .serving).foldl
            (fun s r => s.report (.priorityEvent .served (.tram a) (some r.tag) none r.vehicle none)) v := rfl
    rw [hend, hfold]
    generalize ((s.app a).queue.filter fun r => r.state = .serving).foldl
      (fun s r => s.report (.priorityEvent .served (.tram a) (some r.tag) none r.vehicle none)) v = w at hkeep ⊢
    obtain ⟨wseq, wsge, wjmc, wpts, wpri⟩ := hkeep
    have hvs : v.seq = s.seq ∧ v.sge = s.sge ∧ v.jmc = s.jmc ∧ v.pts = s.pts ∧ v.pri.holders = s.pri.holders ∧ v.pri.caps = s.pri.caps := by
      rw [hv]
      exact ⟨rfl, rfl, rfl, rfl, rfl, rfl⟩
    obtain ⟨vseq, vsge, vjmc, vpts, vhold, vcaps⟩ := hvs
    refine ⟨⟨wseq.trans vseq, wsge.trans vsge, wjmc.trans vjmc, wpts.trans vpts, ?_⟩, fun b => ?_, fun b => ?_⟩
    · exact (congrArg Pri.holders wpri :).trans vhold
    · change w.cap b = _
      rw [State.cap, wpri, vcaps]
      rfl
    · change w.app b = _
      rw [State.app, wpri, ← State.app, hv]
      split
      · next e => rw [e, State.app_onApp_self]
      · next e => exact State.app_onApp_ne s (Ne.symm e) _
  · have hend : endService a s = s := if_neg he
    rw [hend]
    refine ⟨⟨rfl, rfl, rfl, rfl, rfl⟩, fun _ => rfl, fun b => ?_⟩
    have hx : (s.app a).ended (s.appSet a) = s.app a := if_neg he
    split
    · next e => rw [e, hx]
    · rfl

theorem serviceEnded_spec (a : ApproachId) (s : State) :
    EndKeeps s (serviceEnded s a) ∧ (∀ b, (serviceEnded s a).cap b = if b = a then .absent else s.cap b)
      ∧ ∀ b, (serviceEnded s a).app b = if b = a then (s.app a).ended (s.appSet a) else s.app b := by
  obtain ⟨hk, hcap, happ⟩ := endService_spec a (s.setCap a .absent)
  have h1 : EndKeeps s (s.setCap a .absent) := ⟨rfl, rfl, rfl, rfl, rfl⟩
  refine ⟨h1.trans hk, fun b => ?_, happ⟩
  rw [serviceEnded, hcap, cap_setCap]

theorem foldl_serviceEnded {l : List ApproachId} (hl : l.Nodup) (s : State) :
    EndKeeps s (l.foldl serviceEnded s) ∧ (∀ b, (l.foldl serviceEnded s).cap b = if b ∈ l then .absent else s.cap b)
      ∧ ∀ b, (l.foldl serviceEnded s).app b = if b ∈ l then (s.app b).ended (s.appSet b) else s.app b := by
  induction l generalizing s with
  | nil => exact ⟨⟨rfl, rfl, rfl, rfl, rfl⟩, fun _ => rfl, fun _ => rfl⟩
  | cons a l ih =>
    obtain ⟨ha, hl⟩ := List.nodup_cons.mp hl
    obtain ⟨hk, hcap, happ⟩ := serviceEnded_spec a s
    obtain ⟨ik, icap, iapp⟩ := ih hl (serviceEnded s a)
    rw [List.foldl_cons]
    refine ⟨hk.trans ik, fun b => ?_, fun b => ?_⟩
    · rw [icap, hcap]
      by_cases hb : b = a
      · subst hb; simp
      · simp [hb]
    · rw [iapp, happ, appSet_congr (s := s) (by rw [hk.pts]) (by rw [hk.seq])]
      by_cases hb : b = a
      · subst hb; simp [ha]
      · simp [hb]

/-- What the leaving notice makes of the Priority Unit. -/
theorem priLeft_spec (g : GroupId) (s : State) :
    let t := priLeft g s
    t.seq = s.seq ∧ t.sge = s.sge ∧ t.jmc = s.jmc ∧ t.pts = s.pts ∧ (∀ h, t.holders h = if h = g then [] else s.holders h)
      ∧ (∀ a, t.cap a = if a ∈ approachesOf s g then .absent else s.cap a)
      ∧ ∀ a, t.app a = if a ∈ approachesOf s g then (s.app a).ended (s.appSet a) else s.app a := by
  intro t
  have hl : approachesOf (s.setHolders g []) g = approachesOf s g := rfl
  have ht : t = (approachesOf s g).foldl serviceEnded (s.setHolders g []) := rfl
  obtain ⟨hk, hcap, happ⟩ := foldl_serviceEnded (approachesOf_nodup g s) (s.setHolders g [])
  rw [ht]
  generalize (approachesOf s g).foldl serviceEnded (s.setHolders g []) = v at hk hcap happ ⊢
  refine ⟨hk.seq, hk.sge, hk.jmc, hk.pts, fun h => ?_, hcap, happ⟩
  rw [State.holders, hk.holders, ← State.holders, holders_setHolders]

/-! ### The closed notice (R8, R68) -/

/-- What latching a demand from a source other than a button leaves of the demands. -/
theorem latch_dem_spec {src : DemandSource} (g : GroupId) (s : State) :
    let t := latch g src s
    (t.dem g).wait = (if (s.dem g).latched = true then (s.dem g).wait else 0) ∧ ∀ h, h ≠ g → t.dem h = s.dem h := by
  intro t
  have hdem (h : GroupId) : t.dem h = (demanded g src s).dem h := latch_dem g h src s
  simp only [hdem]
  unfold demanded
  split
  · next hl =>
    refine ⟨by rw [State.dem_onDem_self], fun h hh => State.dem_onDem_ne s (Ne.symm hh) _⟩
  · next hl =>
    refine ⟨?_, fun h hh => (State.dem_onDem_ne s (Ne.symm hh) fun _ => { latched := true, sources := DemandSet.add 0 src, wait := 0 } :)⟩
    rw [dem_report, State.dem_onDem_self]

/-- What latching from state leaves of the demands. -/
theorem latchFromState_dem (g : GroupId) (s : State) :
    let t := latchFromState g s
    let recalls : Prop := s.present g = true ∧ (s.times g).recallOn = true
    let faulty : Prop := s.present g = true ∧ GroupSet.has s.dti.fault g = true
    (recalls → (t.dem g).latched = true ∧ DemandSet.has (t.dem g).sources .recalled = true)
      ∧ (faulty → (t.dem g).latched = true ∧ DemandSet.has (t.dem g).sources .fault = true)
      ∧ (recalls ∨ faulty → (t.dem g).wait = if (s.dem g).latched = true then (s.dem g).wait else 0)
      ∧ (¬ recalls → ¬ faulty → t.dem g = s.dem g) ∧ ∀ h, h ≠ g → t.dem h = s.dem h := by
  intro t recalls faulty
  cases hp : s.present g with
  | false =>
    have ht : t = s := if_pos (by simp [hp])
    have hnr : ¬ recalls := fun h => Bool.noConfusion (hp.symm.trans h.1)
    have hnf : ¬ faulty := fun h => Bool.noConfusion (hp.symm.trans h.1)
    rw [ht]
    exact ⟨fun h => absurd h hnr, fun h => absurd h hnf, fun h => absurd h (not_or.mpr ⟨hnr, hnf⟩), fun _ _ => rfl, fun _ _ => rfl⟩
  | true =>
    obtain ⟨v, hv⟩ : ∃ v, v = if (s.times g).recallOn then latch g .recalled s else s := ⟨_, rfl⟩
    have hfault : v.dti = s.dti := by
      rw [hv]
      split
      · exact ((DemandActs.refl s).latch g .recalled).dti
      · rfl
    have ht : t = if GroupSet.has v.dti.fault g then latch g .fault v else v := by
      rw [hv]
      exact if_neg (by simp [hp])
    rw [hfault] at ht
    have hrec : recalls ↔ (s.times g).recallOn = true := and_iff_right hp
    have hflt : faulty ↔ GroupSet.has s.dti.fault g = true := and_iff_right hp
    have hwait : (v.dem g).wait = (if recalls then (if (s.dem g).latched = true then (s.dem g).wait else 0) else (s.dem g).wait)
        ∧ (recalls → (v.dem g).latched = true ∧ DemandSet.has (v.dem g).sources .recalled = true)
        ∧ (¬ recalls → v.dem g = s.dem g) ∧ ∀ h, h ≠ g → v.dem h = s.dem h := by
      by_cases hr : recalls
      · have hvl : v = latch g .recalled s := by rw [hv, if_pos (hrec.mp hr)]
        obtain ⟨h1, h2⟩ := latch_dem_spec (src := .recalled) g s
        rw [hvl, if_pos hr]
        exact ⟨h1, fun _ => latch_dem_self g .recalled s, fun hn => absurd hr hn, h2⟩
      · have hvs : v = s := by rw [hv, if_neg fun hx => hr (hrec.mpr hx)]
        rw [hvs, if_neg hr]
        exact ⟨rfl, fun h => absurd h hr, fun _ => rfl, fun _ _ => rfl⟩
    obtain ⟨vwait, vrec, vsame, vother⟩ := hwait
    by_cases hf : faulty
    · have htl : t = latch g .fault v := by rw [ht, if_pos (hflt.mp hf)]
      obtain ⟨h1, h2⟩ := latch_dem_spec (src := .fault) g v
      obtain ⟨hl, hs⟩ := latch_dem_self g .fault v
      have hgrow := ((DemandActs.refl v).latch g .fault).demands g
      rw [htl]
      refine ⟨fun hr => ⟨hl, hgrow.2 _ (vrec hr).1 (vrec hr).2⟩, fun _ => ⟨hl, hs⟩, fun _ => ?_, fun _ hn => absurd hf hn,
        fun h hh => (h2 h hh).trans (vother h hh)⟩
      rw [h1]
      by_cases hr : recalls
      · rw [if_pos (vrec hr).1, vwait, if_pos hr]
      · rw [vsame hr]
    · have htv : t = v := by rw [ht, if_neg fun hx => hf (hflt.mpr hx)]
      rw [htv]
      refine ⟨vrec, fun h => absurd h hf, fun h => ?_, fun hn _ => vsame hn, vother⟩
      rw [vwait, if_pos (h.resolve_right hf)]

/-- Settles O45. -/
theorem groupNoticesReachTheirBlocks : Obligations.GroupNoticesReachTheirBlocks := by
  refine ⟨⟨rfl, fun k s => ⟨rfl, fun hn => settle_of_no_notices hn k, fun n rest hn => ?_⟩⟩, fun s g => ?_⟩
  · simp only [settle, hn]
  intro mine
  refine ⟨?_, ?_, ?_⟩
  · intro t button starts left
    obtain ⟨cdem, cother, cwait, cstate, cseq, cpri, cpts, cjmc⟩ := clearDemand_spec g s
    have ht : t = (priEntered g (startedGroup g (clearDemand g s))).push .retest := rfl
    generalize clearDemand g s = v at cdem cother cwait cstate cseq cpri cpts cjmc ht
    obtain ⟨wsge, wpri, wpts, wjmc, wseq, wstarts, wnot⟩ := startedGroup_spec g v
    generalize startedGroup g v = w at wsge wpri wpts wjmc wseq wstarts wnot ht
    obtain ⟨hacts, hserved, hspared⟩ := priEntered_spec g w
    generalize priEntered g w = z at hacts hserved hspared ht
    have zseq := hacts.outside.seq
    have zgrp := hacts.outside.groups
    have hseqs : v.seq.status = s.seq.status ∧ v.seq.starting = s.seq.starting ∧ v.seq.current = s.seq.current := by
      rw [← cseq]
      exact ⟨rfl, rfl, rfl⟩
    obtain ⟨vstatus, vstarting, vcur⟩ := hseqs
    have wdem (h : GroupId) : w.dem h = v.dem h := by rw [State.dem, State.dem, ← wseq]
    have zdem (h : GroupId) : z.dem h = w.dem h := by rw [State.dem, State.dem, ← zseq]
    have wgrp (h : GroupId) : w.grp h = v.grp h := by rw [State.grp, State.grp, wsge]
    have wslot : w.seq.activeSlot = s.seq.activeSlot := by
      have hv : v.seq.activeSlot = s.seq.activeSlot := by rw [← cseq]
      rw [← hv, ← wseq]
    have wset (a : ApproachId) : w.appSet a = s.appSet a := appSet_congr (by rw [wpts, cpts]) wslot a
    have wapp (a : ApproachId) : w.app a = s.app a := by rw [State.app, State.app, wpri, cpri]
    have wcap (a : ApproachId) : w.cap a = s.cap a := by rw [State.cap, State.cap, wpri, cpri]
    have wopen : (w.grp g).state = (s.grp g).state := by rw [wgrp, cstate]
    have hrun (c : StageId) (h : .running c ∈ w.notices) : .running c ∈ z.notices := hacts.notices.subset h
    have zst : z.seq.starting = w.seq.starting ∧ z.seq.status = w.seq.status := by
      rw [← zseq]
      exact ⟨rfl, rfl⟩
    rw [vstatus, vstarting] at wstarts wnot
    rw [ht]
    refine ⟨?_, fun h hh => ?_, ?_, fun h => ?_, fun hs => ?_, fun hs => ?_, fun a h rest hm ho he hq hw => ?_, fun a hn => ?_, by simp⟩
    · exact ((zdem g).trans (wdem g)).trans cdem
    · exact ((zdem h).trans (wdem h)).trans (cother h hh)
    · change (z.grp g).wait = _
      have hw : (z.grp g).wait = (w.grp g).wait := by rw [← zgrp g]
      rw [hw, wgrp, cwait]
    · change (z.grp h).state = _
      have hw : (z.grp h).state = (w.grp h).state := by rw [← zgrp h]
      rw [hw, wgrp, cstate]
    · obtain ⟨h1, h2, h3⟩ := wstarts hs
      refine ⟨zst.1.trans h1, fun hl => zst.2.trans (h2 hl), fun hl c hc => ?_⟩
      obtain ⟨h4, h5⟩ := h3 hl c (vcur.trans hc)
      exact ⟨zst.2.trans h4, List.mem_append_left _ (hrun c h5)⟩
    · obtain ⟨h1, h2⟩ := wnot hs
      exact ⟨zst.1.trans h1, zst.2.trans h2⟩
    · have hserve := hserved a h rest (by rw [wset]; exact hm.1) (by rw [wset]; exact hm.2) (wopen.trans ho) (by rw [wapp]; exact he)
        (by rw [wapp]; exact hq) hw
      refine ⟨?_, hserve.holder, fun hp => hserve.hold ?_, ?_⟩
      · have happ := hserve.app
        rw [wapp] at happ
        exact happ
      · exact (present_of_tables (by rw [wpts, cpts]) g).trans hp
      · have hcap := hserve.cap
        have hfree : w.seq.holdFreeSeen = s.seq.holdFreeSeen := by
          have hv : v.seq.holdFreeSeen = s.seq.holdFreeSeen := by rw [← cseq]
          rw [← hv, ← wseq]
        rw [State.firstCap, wset, hfree] at hcap
        exact hcap
    · obtain ⟨h1, h2⟩ := hspared a (by rw [wset, wopen, wapp, State.head?, wapp]; exact hn)
      exact ⟨h1.trans (wapp a), h2.trans (wcap a)⟩
  · intro t
    obtain ⟨hseq, hsge, hjmc, hpts, hholders, hcap, happ⟩ := priLeft_spec g s
    obtain ⟨v, hv⟩ : ∃ v, v = (priLeft g s).push .retest := ⟨_, rfl⟩
    have ht : t = if v.overdue g then v.push .choose else v := by rw [hv]; rfl
    have hov : v.overdue g = s.overdue g := by
      have hslot : v.seq.activeSlot = s.seq.activeSlot := by rw [hv]; exact congrArg Seq.activeSlot hseq
      have hdem : v.dem g = s.dem g := by rw [hv, State.dem, State.push_seq, hseq]; rfl
      have hgrp : v.grp g = s.grp g := by rw [hv, State.grp, State.push_sge, hsge]; rfl
      have hplan : v.plan? = s.plan? := plan?_congr (by rw [hv]; exact congrArg Pts.activeCopy hpts) hslot
      have hover : v.seq.overdueAwaited = s.seq.overdueAwaited := by rw [hv]; exact congrArg Seq.overdueAwaited hseq
      rw [State.overdue, State.overdue, State.waitsTooLong, State.waitsTooLong, State.times, State.times, hplan, hdem, hgrp, hover]
    have hread : t.pri = (priLeft g s).pri ∧ t.sge = s.sge ∧ t.seq = s.seq ∧ .retest ∈ t.notices := by
      rw [ht, hv]
      split
      · exact ⟨rfl, hsge, hseq, by simp⟩
      · exact ⟨rfl, hsge, hseq, by simp⟩
    obtain ⟨tpri, tsge, tseq, tretest⟩ := hread
    have tcap (a : ApproachId) : t.cap a = _ := (congrArg (fun p : Pri => p.caps[a]) tpri).trans (hcap a)
    have tapp (a : ApproachId) : t.app a = _ := (congrArg (fun p : Pri => p.approaches[a]) tpri).trans (happ a)
    have thold (h : GroupId) : t.holders h = _ := (congrArg (fun p : Pri => p.holders[h]) tpri).trans (hholders h)
    refine ⟨by rw [thold, if_pos rfl], fun h hh => by rw [thold, if_neg hh], tsge, tseq, fun a hm => ?_, fun a hm => ?_, tretest, fun ho => ?_⟩
    · have hmem : a ∈ approachesOf s g := mem_approachesOf.mpr hm
      rw [tcap, tapp, if_pos hmem, if_pos hmem]
      exact ⟨rfl, fun he => if_pos he, fun he => if_neg he⟩
    · have hmem : a ∉ approachesOf s g := fun hx => hm (mem_approachesOf.mp hx)
      rw [tcap, tapp, if_neg hmem, if_neg hmem]
      exact ⟨rfl, rfl⟩
    · rw [ht, if_pos (hov.trans ho)]
      simp
  · intro t recalls faulty
    obtain ⟨h1, h2, h3, h4, h5⟩ := latchFromState_dem g s
    have ht : t = admitWaiting (latchFromState g s) := rfl
    obtain ⟨vsge, -, -, -, vpts, -⟩ := (latchesOnly_latchFromState g s).reads
    generalize latchFromState g s = v at h1 h2 h3 h4 h5 vsge vpts ht
    have hadm := admitting_admitWaiting v
    have hseq := hadm.outside.reads.2.1
    have tdem (h : GroupId) : t.dem h = v.dem h := by rw [ht, State.dem, State.dem, hseq]
    have vgrp (h : GroupId) : v.grp h = s.grp h := by rw [State.grp, State.grp, vsge]
    have vpres (h : GroupId) : v.present h = s.present h := present_of_tables (by rw [vpts]) h
    have vdef (h : GroupId) : v.groupDef h = s.groupDef h := by rw [State.groupDef, State.groupDef, vpts]
    rw [← tdem g] at h1 h2 h3 h4
    refine ⟨h1, h2, h3, h4, fun h hh => (tdem h).trans (h5 h hh), fun h hne => ?_, fun hnone => ?_⟩
    · obtain hr | ⟨hc, -⟩ := hadm.raised h
      · refine absurd ?_ hne
        rw [ht, hr.reads.1, vgrp]
      · obtain ⟨k1, k2, k3, k4, -⟩ := canAdmit_iff.mp hc
        rw [vgrp] at k2 k3 k4
        rw [vdef] at k4
        exact ⟨(vpres h).symm.trans k1, k2, k3, k4⟩
    · have hn (h : GroupId) : ¬ canAdmit v h = true := fun hc => by
        obtain ⟨k1, k2, k3, k4, k5⟩ := canAdmit_iff.mp hc
        refine Bool.noConfusion ((hnone h).symm.trans (canAdmit_iff.mpr ⟨(vpres h).symm.trans k1, ?_, ?_, ?_, fun b hb => ?_⟩))
        · rw [← vgrp]; exact k2
        · rw [← vgrp]; exact k3
        · rw [← vgrp, ← vdef]; exact k4
        · rw [← vgrp]
          exact k5 b (by rw [conflicts_of_tables (t := s) (by rw [vpts]) h]; exact hb)
      rw [ht, admitWaiting_eq, foldl_admitStep_none hn]
      exact vsge

end Sys2Proof.Machine
end

section
namespace Sys2Proof.Machine

variable {s t u v : State}

/-! ### The running notice (R104, R110, R119, R136) -/

theorem call?_of_mem {x : Call} (hx : x ∈ s.pri.calls) (hn : (s.pri.calls.map Call.id).Nodup) : s.call? x.id = some x := by
  rw [State.call?]
  generalize s.pri.calls = l at hx hn ⊢
  induction l with
  | nil => exact absurd hx List.not_mem_nil
  | cons y l ih =>
    obtain ⟨hy, hl⟩ := List.nodup_cons.mp hn
    obtain rfl | hx := List.mem_cons.mp hx
    · exact List.find?_cons_of_pos (decide_eq_true rfl)
    · have hne : y.id ≠ x.id := fun e => hy (e ▸ List.mem_map.mpr ⟨x, hx, rfl⟩)
      rw [List.find?_cons_of_neg (by simpa using hne)]
      exact ih hx hl

/-- The calls that the running notice of a stage serves. -/
def callsServed (c : StageId) (s : State) : List Call :=
  s.pri.calls.filter fun x => x.state = .waiting
    && ((x.target = c && s.ruling = some (.call x.id)) || (s.seq.resumed && s.pri.own = some (.call x.id)))

theorem mem_callsServed {c : StageId} {x : Call} : x ∈ callsServed c s ↔ x ∈ s.pri.calls ∧ x.state = .waiting
    ∧ ((x.target = c ∧ s.ruling = some (.call x.id)) ∨ (s.seq.resumed = true ∧ s.pri.own = some (.call x.id))) := by
  simp [callsServed]

/-- The calls of the running notice have been served. -/
def callsPassed (c : StageId) (s : State) : State := (callsServed c s).foldl (fun s x => serveCall x.id s) s

/-- An approach passes to SERVING where its tram group is open in the stage. -/
def passIfOpen (s : State) (a : ApproachId) : State := if s.tramGroupOpenInStage a then passToServing a s else s

/-- The calls and the approaches of the running notice have passed. -/
def passed (c : StageId) (s : State) : State := approachIds.foldl passIfOpen (callsPassed c s)

/-- The tram that a resumed stage's own request names is extended. -/
def ResumedTram (s : State) (a : ApproachId) (h : TramRec) : Prop :=
  s.pri.own = some (.tram a h.tag) ∧ s.head? a = some h ∧ s.seq.resumed = true ∧ s.jmc.mode = .normal ∧ h.state ≠ .serving
    ∧ s.tramGroupOpenInStage a = true

/-- The extension of a resumed stage's own tram, where there is one to extend. -/
def resumedExtended (v : State) : State :=
  match v.pri.own with
  | some (.tram a tag) =>
    match v.head? a with
    | some h =>
      if v.seq.resumed && v.jmc.mode = .normal && h.tag = tag && h.state ≠ .serving && v.tramGroupOpenInStage a then extendTram a v
      else v
    | none => v
  | _ => v

theorem runningPassages_eq (c : StageId) (s : State) : runningPassages c s = resumedExtended (passed c s) := by
  have hfold (w : State) : approachIds.foldl (fun s a => if s.tramGroupOpenInStage a then passToServing a s else s) w
      = approachIds.foldl passIfOpen w := rfl
  unfold runningPassages passed callsPassed callsServed
  dsimp only
  rw [hfold]
  generalize approachIds.foldl passIfOpen _ = w
  rfl

theorem resumedExtended_of {a : ApproachId} {h : TramRec} (hr : ResumedTram v a h) : resumedExtended v = extendTram a v := by
  obtain ⟨h1, h2, h3, h4, h5, h6⟩ := hr
  simp [resumedExtended, h1, h2, h3, h4, h5, h6]

theorem resumedExtended_cases (v : State) : resumedExtended v = v ∨ ∃ a h, ResumedTram v a h ∧ resumedExtended v = extendTram a v := by
  by_cases hr : ∃ a h, ResumedTram v a h
  · obtain ⟨a, h, hr⟩ := hr
    exact .inr ⟨a, h, hr, resumedExtended_of hr⟩
  · refine .inl ?_
    unfold resumedExtended
    split
    · next a tag ho =>
      split
      · next h hh =>
        refine if_neg fun hc => hr ⟨a, h, ?_⟩
        simp only [Bool.and_eq_true, decide_eq_true_eq] at hc
        obtain ⟨⟨⟨⟨h1, h2⟩, h3⟩, h4⟩, h5⟩ := hc
        exact ⟨by rw [h3]; exact ho, hh, h1, h2, h4, h5⟩
      · rfl
    · rfl

theorem runningPassages_resumed {c : StageId} {a : ApproachId} {h : TramRec} (hr : ResumedTram (passed c s) a h) :
    runningPassages c s = extendTram a (passed c s) :=
  (runningPassages_eq c s).trans (resumedExtended_of hr)

theorem runningPassages_cases (c : StageId) (s : State) : runningPassages c s = passed c s
    ∨ ∃ a h, ResumedTram (passed c s) a h ∧ runningPassages c s = extendTram a (passed c s) := by
  rw [runningPassages_eq]
  exact resumedExtended_cases _

theorem Spares.tramGroupOpenInStage {A : ApproachId → Prop} {I : Nat → Prop} (h : Spares A I s t) (a : ApproachId) :
    t.tramGroupOpenInStage a = s.tramGroupOpenInStage a := by
  have hgroup := h.tramGroup? a
  have hseq := h.outside.seq
  have hstatus : t.seq.status = s.seq.status ∧ t.seq.groups = s.seq.groups := by
    rw [← hseq]
    exact ⟨rfl, rfl⟩
  rw [State.tramGroupOpenInStage, State.tramGroupOpenInStage, hgroup]
  cases s.tramGroup? a with
  | none => rfl
  | some g =>
    dsimp only
    rw [State.stageRunning, State.stageRunning, hstatus.1, hstatus.2, h.state]

theorem passIfOpen_spares {A : ApproachId → Prop} {I : Nat → Prop} (h : Spares A I s t) {a : ApproachId} (ha : ¬ A a) :
    Spares A I s (passIfOpen t a) := Spares.ite (fun _ => h.passToServing ha) fun _ => h

/-- An approach that does not pass to SERVING stays as it is while others pass. -/
theorem foldl_passIfOpen_idle {a : ApproachId} (l : List ApproachId)
    (h : a ∉ l ∨ (s.app a).episode ≠ .planned ∨ ∀ h, s.head? a = some h → h.state ≠ .waiting) :
    Spares (fun b => b = a) (fun _ => True) s (l.foldl passIfOpen s) := by
  refine (Spares.refl s).foldl passIfOpen l fun u b hb hu => ?_
  by_cases hba : b = a
  · subst hba
    have hidle := h.resolve_left (not_not_intro hb)
    have happ := (hu.apps b rfl).1
    have hsame : passIfOpen u b = u := by
      unfold passIfOpen
      rw [passToServing_idle (by rw [State.head?, happ]; exact hidle), ite_self]
    rw [hsame]
    exact hu
  · exact passIfOpen_spares hu hba

/-- The head is SERVING under a hold. -/
structure InService (a : ApproachId) (g : GroupId) (h : TramRec) (rest : List TramRec) (t : State) : Prop where
  episode : (t.app a).episode = .serving
  queue : (t.app a).queue = { h with state := .serving } :: rest
  holder : .approach a ∈ t.holders g

section Approaches

variable {a : ApproachId} {g : GroupId} {h : TramRec} {rest : List TramRec} {I : Nat → Prop}

theorem TramServed.inService (hs : TramServed a g h rest s t) : InService a g h rest t :=
  ⟨by rw [hs.app], by rw [hs.app], hs.holder⟩

theorem InService.spared (hs : InService a g h rest t) (hk : Spares (fun b => b = a) I t u) : InService a g h rest u := by
  obtain ⟨h1, h2, h3⟩ := hs
  have happ := (hk.apps a rfl).1
  exact ⟨by rw [happ, h1], by rw [happ, h2], hk.holders g _ h3⟩

theorem InService.not_planned (hs : InService a g h rest t) : ∀ b, b = a → (t.app b).episode ≠ .planned := by
  rintro b rfl
  rw [hs.episode]
  nofun

/-- A head that passes to SERVING among others. -/
theorem inService_foldl (hq : (s.app a).queue = h :: rest) (he : (s.app a).episode = .planned) (hw : h.state = .waiting)
    (hg : s.tramGroup? a = some g) (hopen : (s.grp g).state = .opened) (hstage : s.tramGroupOpenInStage a = true) :
    InService a g h rest (approachIds.foldl passIfOpen s) := by
  have hmem : a ∈ approachIds := List.mem_finRange a
  obtain ⟨l₁, l₂, hl⟩ := List.append_of_mem hmem
  have hnodup := approachIds_nodup
  rw [hl] at hnodup ⊢
  obtain ⟨h1, h2⟩ := not_or.mp fun e => (List.nodup_cons.mp (List.nodup_middle.mp hnodup)).1 (List.mem_append.mpr e)
  have hbefore := foldl_passIfOpen_idle (s := s) l₁ (.inl h1)
  rw [List.foldl_append, List.foldl_cons]
  generalize l₁.foldl passIfOpen s = v at hbefore ⊢
  have happ := (hbefore.apps a rfl).1
  have hpass : passIfOpen v a = serveHead a v := by
    rw [passIfOpen, if_pos ((hbefore.tramGroupOpenInStage a).trans hstage),
      passToServing_planned (by rw [happ]; exact hq) (by rw [happ]; exact he) hw]
  rw [hpass]
  exact (tramServed_serveHead hbefore hq hg hopen).inService.spared (foldl_passIfOpen_idle l₂ (.inl h2))

/-- A head in service is not the one that rules. -/
theorem InService.free (hs : InService a g h rest t) (r : ReqRef) (hr : t.ruling = some r) : Free (fun b => b = a) (fun _ => False) r := by
  by_cases hm : t.jmc.mode = .normal
  · obtain ⟨m, hmem, hmr, -⟩ := State.exists_waiter_of_ruling hm hr
    obtain ⟨ref, level, age, num⟩ := m
    obtain rfl : ref = r := hmr
    obtain hmem | hmem := List.mem_append.mp hmem
    · obtain ⟨b, x, rfl, hx, -, hw, -⟩ := State.mem_tramWaiters.mp hmem
      rintro rfl
      rw [State.head?, hs.queue] at hx
      obtain rfl := Option.some.inj hx
      cases hw
    · obtain ⟨c, -, rfl, -⟩ := State.mem_callWaiters.mp hmem
      exact id
  · rw [State.ruling_of_not_normal hm] at hr
    cases hr

/-- A head in service stays so while the ruling request is determined anew and the offers are made. -/
theorem InService.settled (hs : InService a g h rest t) : InService a g h rest (offerAmong approachIds (determineRuling true t)) := by
  have hd := hs.spared (Spares.determineRuling hs.not_planned (.refl t) true hs.free)
  refine hd.spared (Spares.offerAmong (I := fun _ => True) hd.not_planned (.refl _) approachIds ?_)
  rintro b rfl
  rw [hd.episode]
  nofun

end Approaches

section Calls

variable {c : StageId}

theorem callsPassed_spares (c : StageId) (s : State) :
    Spares (fun _ => True) (fun id => id ∉ (callsServed c s).map Call.id) s (callsPassed c s) :=
  (Spares.refl s).foldl _ _ fun _ x hx hu => hu.serveCall fun hn => hn (List.mem_map.mpr ⟨x, hx, rfl⟩)

theorem callsPassed_keepsPlan (c : StageId) (s : State) : KeepsPlan s (callsPassed c s) :=
  KeepsPlan.foldl (f := fun s (x : Call) => serveCall x.id s) (fun u x => .serveCall x.id u) (callsServed c s) s

theorem passed_keepsPlan (c : StageId) (s : State) : KeepsPlan s (passed c s) := by
  have h1 := callsPassed_keepsPlan c s
  unfold passed
  generalize callsPassed c s = v at h1 ⊢
  exact h1.trans (KeepsPlan.foldl (fun u a => KeepsPlan.ite (fun _ => .passToServing a u) fun _ => .refl u) approachIds v)

/-- The approaches pass with no call changed. -/
theorem passed_spares_calls (c : StageId) (s : State) : Spares (fun _ => False) (fun _ => True) (callsPassed c s) (passed c s) :=
  (Spares.refl _).foldl passIfOpen approachIds fun _ _ _ hu => passIfOpen_spares hu id

theorem callsPassed_call {x : Call} (hx : x ∈ callsServed c s) (hn : (s.pri.calls.map Call.id).Nodup) :
    (callsPassed c s).call? x.id = some (x.served s.seq.current) := by
  have hfilter : (callsServed c s).Sublist s.pri.calls := List.filter_sublist
  have hids := (hfilter.map Call.id).nodup hn
  have hcall := call?_of_mem (hfilter.subset hx) hn
  unfold callsPassed
  obtain ⟨l₁, l₂, hl⟩ := List.append_of_mem hx
  rw [hl] at hids ⊢
  rw [List.map_append, List.map_cons] at hids
  obtain ⟨h1, h2⟩ := not_or.mp fun e => (List.nodup_cons.mp (List.nodup_middle.mp hids)).1 (List.mem_append.mpr e)
  have hother (l : List Call) (hxl : x.id ∉ l.map Call.id) (v : State) :
      Spares (fun _ => True) (fun id => id = x.id) v (l.foldl (fun s x => serveCall x.id s) v) :=
    (Spares.refl v).foldl _ _ fun _ y hy hu => hu.serveCall fun e => hxl (List.mem_map.mpr ⟨y, hy, e⟩)
  have hplan := KeepsPlan.foldl (f := fun s (x : Call) => serveCall x.id s) (fun u x => .serveCall x.id u) l₁ s
  have hbefore := hother l₁ h1 s
  rw [List.foldl_append, List.foldl_cons]
  generalize l₁.foldl (fun s x => serveCall x.id s) s = v at hplan hbefore ⊢
  have hv : v.call? x.id = some x := (hbefore.calls x.id rfl).trans hcall
  have hserved := (serveCall_spec hv).1
  rw [hplan.seq] at hserved
  exact ((hother l₂ h2 _).calls x.id rfl).trans hserved

/-- A call that is SERVING is not the one that rules. -/
theorem free_of_served {id : Nat} {y : Call} (hy : t.call? id = some y) (hw : y.state = .serving)
    (hn : (t.pri.calls.map Call.id).Nodup) (r : ReqRef) (hr : t.ruling = some r) : Free (fun _ => False) (fun k => k = id) r := by
  by_cases hm : t.jmc.mode = .normal
  · obtain ⟨m, hmem, hmr, -⟩ := State.exists_waiter_of_ruling hm hr
    obtain ⟨ref, level, age, num⟩ := m
    obtain rfl : ref = r := hmr
    obtain hmem | hmem := List.mem_append.mp hmem
    · obtain ⟨b, x, rfl, -⟩ := State.mem_tramWaiters.mp hmem
      exact nofun
    · obtain ⟨x, hx, rfl, hwx, -⟩ := State.mem_callWaiters.mp hmem
      intro e
      have hxc := call?_of_mem hx hn
      rw [show x.id = id from e, hy] at hxc
      obtain rfl := Option.some.inj hxc
      rw [hw] at hwx
      cases hwx
  · rw [State.ruling_of_not_normal hm] at hr
    cases hr

end Calls

theorem priRunning_stale {c : StageId} (h : ¬ (s.seq.status = some .running ∧ s.seq.current = some c)) : priRunning c s = s :=
  if_neg (by simpa [State.stageRunning] using h)

theorem priRunning_current {c : StageId} (h : s.seq.status = some .running) (hc : s.seq.current = some c) :
    priRunning c s = offerAmong approachIds (determineRuling true (runningPassages c s)) :=
  if_pos (by simp [State.stageRunning, h, hc])

theorem priRunning_outside (c : StageId) (s : State) : SameOutsidePriority s (priRunning c s) := by
  by_cases h : s.seq.status = some .running ∧ s.seq.current = some c
  · obtain ⟨hr, hc⟩ := h
    have hpassed : SameOutsidePriority s (passed c s) :=
      (callsPassed_spares c s).outside.trans (passed_spares_calls c s).outside
    have hpassages : SameOutsidePriority s (runningPassages c s) := by
      obtain h | ⟨a, x, -, h⟩ := runningPassages_cases c s
      · exact h ▸ hpassed
      · have hext := ((PriActs.refl (A := fun _ => True) (C := True) (passed c s)).extendTram (a := a) trivial).outside
        exact h ▸ hpassed.trans hext
    rw [priRunning_current hr hc]
    generalize runningPassages c s = v at hpassages ⊢
    have hdet := PriActs.determineRuling_outside true v
    generalize determineRuling true v = w at hdet ⊢
    exact (hpassages.trans hdet).trans
      ((PriActs.refl (A := fun _ => True) (C := True) w).offerAmong approachIds fun _ => trivial).outside
  · rw [priRunning_stale h]
    exact .refl s

/-- A call that the running notice serves. -/
theorem priRunning_call {c : StageId} (hr : s.seq.status = some .running) (hc : s.seq.current = some c) {x : Call}
    (hx : x ∈ callsServed c s) (hn : (s.pri.calls.map Call.id).Nodup) : (priRunning c s).call? x.id = some (x.served (some c)) := by
  have hserved := callsPassed_call hx hn
  rw [hc] at hserved
  have hids := (callsPassed_spares c s).ids
  have hpass := passed_spares_calls c s
  have hpassages : (runningPassages c s).call? x.id = some (x.served (some c))
      ∧ (runningPassages c s).pri.calls.map Call.id = s.pri.calls.map Call.id := by
    have hp : (passed c s).call? x.id = some (x.served (some c)) := (hpass.calls x.id trivial).trans hserved
    obtain h | ⟨a, y, -, h⟩ := runningPassages_cases c s
    · rw [h]
      exact ⟨hp, hpass.ids.trans hids⟩
    · have hext : Spares (fun _ => False) (fun _ => True) (passed c s) (extendTram a (passed c s)) :=
        Spares.extendTram nofun (.refl _) id
      rw [h]
      exact ⟨(hext.calls x.id trivial).trans hp, hext.ids.trans (hpass.ids.trans hids)⟩
  obtain ⟨hcall, hids⟩ := hpassages
  rw [priRunning_current hr hc]
  generalize runningPassages c s = v at hcall hids ⊢
  have hdet : Spares (fun _ => False) (fun k => k = x.id) v (determineRuling true v) :=
    Spares.determineRuling nofun (.refl v) true (free_of_served hcall rfl (by rw [hids]; exact hn))
  generalize determineRuling true v = w at hdet ⊢
  have hoffer : Spares (fun _ => False) (fun _ => True) w (offerAmong approachIds w) := Spares.offerAmong nofun (.refl w) approachIds nofun
  exact (hoffer.calls x.id trivial).trans ((hdet.calls x.id rfl).trans hcall)

/-- A head that the running notice serves. -/
theorem priRunning_tram {c : StageId} {a : ApproachId} {g : GroupId} {h : TramRec} {rest : List TramRec}
    (hr : s.seq.status = some .running) (hc : s.seq.current = some c) (hg : s.tramGroup? a = some g) (hopen : (s.grp g).state = .opened)
    (hstage : s.tramGroupOpenInStage a = true) (hq : (s.app a).queue = h :: rest)
    (hcase : ((s.app a).episode = .planned ∧ h.state = .waiting)
      ∨ (s.seq.resumed = true ∧ s.jmc.mode = .normal ∧ s.pri.own = some (.tram a h.tag) ∧ h.state ≠ .serving)) :
    InService a g h rest (priRunning c s) := by
  have hcalls := callsPassed_spares c s
  have happ := (hcalls.apps a trivial).1
  have hpassages : InService a g h rest (runningPassages c s) := by
    by_cases hp : (s.app a).episode = .planned ∧ h.state = .waiting
    · have hin : InService a g h rest (passed c s) :=
        inService_foldl (by rw [happ]; exact hq) (by rw [happ]; exact hp.1) hp.2 ((hcalls.tramGroup? a).trans hg)
          ((hcalls.state g).trans hopen) ((hcalls.tramGroupOpenInStage a).trans hstage)
      obtain e | ⟨b, x, hres, e⟩ := runningPassages_cases c s
      · exact e ▸ hin
      · obtain ⟨-, hhead, -, -, hnot, -⟩ := hres
        have hne : ¬ b = a := by
          rintro rfl
          rw [State.head?, hin.queue] at hhead
          obtain rfl := Option.some.inj hhead
          exact hnot rfl
        rw [e]
        exact hin.spared (Spares.extendTram (I := fun _ => True) hin.not_planned (.refl _) hne)
    · obtain ⟨hresumed, hmode, hown, hnot⟩ := hcase.resolve_left hp
      have hidle : Spares (fun b => b = a) (fun _ => True) (callsPassed c s) (passed c s) := by
        refine foldl_passIfOpen_idle approachIds (.inr ?_)
        rw [happ, State.head?, happ, hq]
        by_cases he : (s.app a).episode = .planned
        · refine .inr fun x hx => ?_
          obtain rfl := Option.some.inj hx
          exact fun hw => hp ⟨he, hw⟩
        · exact .inl he
      have happ' : (passed c s).app a = s.app a := (hidle.apps a rfl).1.trans happ
      have hplan := passed_keepsPlan c s
      have hmode' : (passed c s).jmc.mode = .normal := by
        rw [hidle.outside.blocks.2.2.1, hcalls.outside.blocks.2.2.1, hmode]
      have hstage' : (passed c s).tramGroupOpenInStage a = true :=
        ((hidle.tramGroupOpenInStage a).trans (hcalls.tramGroupOpenInStage a)).trans hstage
      have hres : ResumedTram (passed c s) a h := by
        refine ⟨by rw [hplan.own]; exact hown, ?_, by rw [hplan.seq]; exact hresumed, hmode', hnot, hstage'⟩
        rw [State.head?, happ', hq]
        rfl
      rw [runningPassages_resumed hres]
      have hrun : (passed c s).stageRunning = true := stageRunning_iff.mpr (by rw [hplan.seq]; exact hr)
      have hg' : (passed c s).tramGroup? a = some g := ((hidle.tramGroup? a).trans (hcalls.tramGroup? a)).trans hg
      have hopen' : ((passed c s).grp g).state = .opened := ((hidle.state g).trans (hcalls.state g)).trans hopen
      obtain ⟨-, h1, -, -, h2, -⟩ := extendTram_spec hmode' hrun (by rw [happ']; exact hq) hg' hopen'
      exact ⟨by rw [h1], by rw [h1], h2⟩
  rw [priRunning_current hr hc]
  exact hpassages.settled

theorem jmcRunning_startup (h : s.jmc.mode = .startup) : jmcRunning s = (s.onJmc fun j => { j with firstRunning := true }).push .watch :=
  if_pos h

theorem jmcRunning_else (h : s.jmc.mode ≠ .startup) : jmcRunning s = s := if_neg h

theorem jmcRunning_spec (s : State) : (jmcRunning s).pri = s.pri ∧ (jmcRunning s).seq = s.seq ∧ (jmcRunning s).sge = s.sge := by
  by_cases h : s.jmc.mode = .startup
  · rw [jmcRunning_startup h]
    exact ⟨rfl, rfl, rfl⟩
  · rw [jmcRunning_else h]
    exact ⟨rfl, rfl, rfl⟩

/-! ### What JMC watches (R147, R148, R151) -/

theorem anyAdmitted_iff : anyAdmitted s = true ↔ ∃ g, s.present g = true ∧ ((s.grp g).state = .opening ∨ (s.grp g).state = .opened) := by
  simp [anyAdmitted, mem_presentGroups]

theorem allClear_iff : allClear s = true ↔ ∀ g, s.present g = true → (s.grp g).state = .closed ∧ (s.grp g).cr = 0 := by
  simp [allClear, mem_presentGroups]

theorem leavingAwaited_iff : s.leavingAwaited = true ↔ ∃ g, .left g ∈ s.notices := by
  rw [State.leavingAwaited, List.any_eq_true]
  constructor
  · rintro ⟨n, hn, hl⟩
    cases n with
    | left g => exact ⟨g, hn⟩
    | _ => cases hl
  · rintro ⟨g, hg⟩
    exact ⟨_, hg, rfl⟩

theorem watch_allRed (hm : s.jmc.mode = .startup) (hp : s.jmc.phase = some .allRed) :
    watch s = if anyAdmitted s then beginFirstStage s else s := by simp only [watch, hm, hp]

theorem watch_firstStage (hm : s.jmc.mode = .startup) (hp : s.jmc.phase = some .firstStage) :
    watch s = if s.jmc.firstRunning then enterNormal s else s := by simp only [watch, hm, hp]

theorem watch_clearing (hm : s.jmc.mode = .clearing) : watch s = if allClear s && !s.leavingAwaited then endClearing s else s := by
  simp only [watch, hm]

theorem watch_otherPhase (hm : s.jmc.mode = .startup) (h1 : s.jmc.phase ≠ some .allRed) (h2 : s.jmc.phase ≠ some .firstStage) :
    watch s = s := by
  unfold watch
  split
  · next hp => exact absurd hp h1
  · next hp => exact absurd hp h2
  · next hc => rw [hm] at hc; cases hc
  · rfl

theorem watch_otherMode (h1 : s.jmc.mode ≠ .startup) (h2 : s.jmc.mode ≠ .clearing) : watch s = s := by
  unfold watch
  split
  · next hm _ => exact absurd hm h1
  · next hm _ => exact absurd hm h1
  · next hm => exact absurd hm h2
  · rfl

/-- What the end of start-up gives. -/
theorem enterNormal_spec (s : State) : (enterNormal s).jmc = { s.jmc with mode := .normal, phase := none, darkCause := none }
    ∧ .redetermine ∈ (enterNormal s).notices ∧ .choose ∈ (enterNormal s).notices := by
  have hjmc := setModeFrom_jmc s.jmc.mode .normal none none .startupDone s
  have hbegins := (normalBegins_spec (setMode .normal none none .startupDone s)).1
  refine ⟨hbegins.trans hjmc, ?_, ?_⟩
  · unfold enterNormal normalBegins
    simp
  · unfold enterNormal normalBegins
    simp

end Sys2Proof.Machine
end

section
namespace Sys2Proof.Machine

variable {s t u v : State}

/-! ### The end of CLEARING (R88, R113, R151) -/

/-- With no call in the table none rules. -/
theorem allows_of_no_calls (h : s.pri.calls = []) (r : ReqRef) (hr : s.ruling = some r) : PriActs.Allows (fun _ => True) False r := by
  cases r with
  | tram a tag => trivial
  | call id =>
    by_cases hm : s.jmc.mode = .normal
    · obtain ⟨m, hmem, hmr, -⟩ := State.exists_waiter_of_ruling hm hr
      obtain ⟨ref, level, age, num⟩ := m
      obtain rfl : ref = .call id := hmr
      obtain hmem | hmem := List.mem_append.mp hmem
      · obtain ⟨a, x, e, -⟩ := State.mem_tramWaiters.mp hmem
        cases e
      · obtain ⟨c, hc, -⟩ := State.mem_callWaiters.mp hmem
        rw [h] at hc
        cases hc
    · rw [State.ruling_of_not_normal hm] at hr
      cases hr

theorem approachUnderPlan_calls (a : ApproachId) (s : State) : (approachUnderPlan a s).pri.calls = s.pri.calls := by
  have hreport (e : PriorityEvent) (src : TramRec → Option TramSource) (l : List TramRec) (v : State) :
      (l.foldl (fun s r => reportTram e a r (src r) none s) v).pri = v.pri :=
    foldl_same (r := State.pri) (f := fun s r => reportTram e a r (src r) none s) (fun _ _ => rfl) l v
  unfold approachUnderPlan
  dsimp only
  split
  · have h1 := hreport .dropped (fun _ => none) (s.app a).queue s
    generalize (s.app a).queue.foldl (fun s r => reportTram .dropped a r none none s) s = v at h1 ⊢
    split
    · exact (congrArg Pri.calls h1 :)
    · exact (congrArg Pri.calls h1 :)
  · have h1 := hreport .lost (fun r => some r.source) ((s.app a).queue.takeWhile fun r => r.age ≥ (s.appSet a).tmax) s
    generalize ((s.app a).queue.takeWhile fun r => r.age ≥ (s.appSet a).tmax).foldl
      (fun s r => reportTram .lost a r (some r.source) none s) s = v at h1 ⊢
    exact (congrArg Pri.calls h1 :)

theorem priUnderPlan_calls_nil (h : s.pri.calls = []) : (priUnderPlan s).pri.calls = [] := by
  have happs : (approachIds.foldl (fun s a => approachUnderPlan a s) s).pri.calls = [] :=
    (foldl_same (r := fun s : State => s.pri.calls) (f := fun s a => approachUnderPlan a s)
      (fun u a => approachUnderPlan_calls a u) approachIds s).trans h
  unfold priUnderPlan
  dsimp only
  generalize approachIds.foldl (fun s a => approachUnderPlan a s) s = v at happs ⊢
  rw [happs, List.filter_nil, List.foldl_nil]
  generalize approachIds.filter (losesHead s) = l
  have hcut : (v.onPri fun p => { p with calls := p.calls.filter fun c => !(([] : List Call).any fun d => d.id = c.id) }).pri.calls = [] := by
    rw [State.onPri_pri, happs]
    rfl
  generalize (v.onPri fun p => { p with calls := p.calls.filter fun c => !(([] : List Call).any fun d => d.id = c.id) }) = w at hcut ⊢
  have hoffer := ((PriActs.refl (A := fun _ => True) (C := False) w).offerAmong l fun _ => trivial).calls.resolve_left id
  generalize offerAmong l w = x at hoffer ⊢
  have hx : x.pri.calls = [] := hoffer.trans hcut
  exact ((PriActs.determineRuling_allowed false (allows_of_no_calls hx)).calls.resolve_left id).trans hx

/-- With no call in the table none joins as a plan is taken. -/
theorem takePlan_calls_nil (n : SlotNo) (p : Plan) (h : s.pri.calls = []) : (takePlan n p s).pri.calls = [] := by
  have hset : (planSet n p s).pri.calls = [] := by
    have hpri : (planSet n p s).pri = s.pri := by
      unfold planSet makeActiveCopy
      split <;> rfl
    rw [hpri, h]
  have hdti : (dtiUnderPlan s.plan? (planSet n p s)).pri.calls = [] := by rw [dtiUnderPlan_pri, hset]
  have hpri := priUnderPlan_calls_nil hdti
  rw [takePlan_eq, blocksUnderPlan]
  generalize priUnderPlan (dtiUnderPlan s.plan? (planSet n p s)) = v at hpri ⊢
  exact hpri

theorem activate_calls_nil (n : SlotNo) (h : s.pri.calls = []) : (activate n s).1.pri.calls = [] := by
  have hread := slotsRead_activationCheck n s
  unfold activate
  dsimp only
  generalize activationCheck n s = x at hread ⊢
  obtain ⟨v, c⟩ := x
  obtain ⟨-, -, -, -, -, -, hpri, -⟩ := hread.reads
  have hv : v.pri.calls = [] := by
    rw [hpri]
    exact h
  cases c with
  | error d => exact hv
  | ok p =>
    have htake := takePlan_calls_nil n p hv
    dsimp only
    generalize takePlan n p v = w at htake ⊢
    exact htake

/-- What the orders at an entry into FLASH leave. -/
theorem flashOrders_spec (s : State) : (flashOrders s).jmc = s.jmc ∧ (flashOrders s).seq = s.seq.abandoned
    ∧ (flashOrders s).pri.calls = [] ∧ ∀ g, ((flashOrders s).grp g).state = if s.present g = true then .flash else (s.grp g).state := by
  have hstate := groupsToFlash_state s
  obtain ⟨-, hseq, -⟩ := (sameOutsideGroups_groupsToFlash s).reads
  refine ⟨flashOrders_jmc s, ?_⟩
  unfold flashOrders seqAbandon
  generalize groupsToFlash s = v at hstate hseq ⊢
  unfold priFlash
  have hstop : (stopPlanning (v.onSeq Seq.abandoned)).seq = s.seq.abandoned ∧ (stopPlanning (v.onSeq Seq.abandoned)).sge = v.sge :=
    ⟨congrArg Seq.abandoned hseq, rfl⟩
  generalize stopPlanning (v.onSeq Seq.abandoned) = w at hstop ⊢
  have hdrop (l : List Call) (z : State) : (l.foldl (fun s c => reportCall .dropped c.id s) z).seq = z.seq
      ∧ (l.foldl (fun s c => reportCall .dropped c.id s) z).sge = z.sge :=
    ⟨foldl_same (r := State.seq) (f := fun s (c : Call) => reportCall .dropped c.id s) (fun _ _ => rfl) l z,
      foldl_same (r := State.sge) (f := fun s (c : Call) => reportCall .dropped c.id s) (fun _ _ => rfl) l z⟩
  dsimp only
  obtain ⟨x, hx⟩ : ∃ x, x = w.onPri fun p => { p with holders := Vector.replicate 24 [] } := ⟨_, rfl⟩
  rw [← hx]
  have hxw : x.seq = s.seq.abandoned ∧ x.sge = v.sge := by
    rw [hx]
    exact hstop
  obtain ⟨hd1, hd2⟩ := hdrop x.pri.calls x
  unfold dropCalls
  generalize x.pri.calls.foldl (fun s c => reportCall .dropped c.id s) x = y at hd1 hd2 ⊢
  refine ⟨hd1.trans hxw.1, rfl, fun g => ?_⟩
  rw [← hstate, State.grp, State.grp, ← hxw.2, ← hd2]
  rfl

/-- What taking the pending plan leaves in FLASH. -/
theorem takePending_spec (hc : s.pri.calls = []) : (takePending s).jmc = s.jmc ∧ (takePending s).seq.pendingPlan = none
    ∧ (takePending s).seq.current = s.seq.current ∧ (takePending s).seq.stack = s.seq.stack ∧ (takePending s).pri.calls = []
    ∧ ∀ g, ((takePending s).grp g).state = (s.grp g).state := by
  cases hp : s.seq.pendingPlan with
  | none =>
    have hsame : takePending s = s := by simp only [takePending, hp]
    rw [hsame]
    exact ⟨rfl, hp, rfl, rfl, hc, fun _ => rfl⟩
  | some n =>
    have hsel := selected_activate n (s.onSeq fun q => { q with pendingPlan := none })
    have hcalls := activate_calls_nil n (s := s.onSeq fun q => { q with pendingPlan := none }) hc
    obtain ⟨x, hx⟩ : ∃ x, x = activate n (s.onSeq fun q => { q with pendingPlan := none }) := ⟨_, rfl⟩
    have htake : takePending s = x.1 ∨ takePending s = reportPlan s.seq.activeSlot n .discarded x.1 := by
      simp only [takePending, hp, ← hx]
      cases x.2 with
      | none => exact .inl rfl
      | some d => exact .inr rfl
    rw [← hx] at hsel hcalls
    have hseq := hsel.seq
    have hreads : x.1.seq.pendingPlan = none ∧ x.1.seq.current = s.seq.current ∧ x.1.seq.stack = s.seq.stack :=
      ⟨(congrArg Seq.pendingPlan hseq :), (congrArg Seq.current hseq :), (congrArg Seq.stack hseq :)⟩
    have hstates : ∀ g, (x.1.grp g).state = (s.grp g).state := hsel.states
    have hjmc : x.1.jmc = s.jmc := hsel.jmc
    generalize x.1 = y at htake hcalls hreads hstates hjmc
    obtain ⟨h1, h2, h3⟩ := hreads
    obtain h | h := htake
    · rw [h]
      exact ⟨hjmc, h1, h2, h3, hcalls, hstates⟩
    · rw [h]
      exact ⟨hjmc, h1, h2, h3, hcalls, hstates⟩

theorem endClearing_spec (s : State) :
    let t := endClearing s
    t.jmc.mode = .flash ∧ t.seq.current = none ∧ t.seq.pendingPlan = none ∧ t.seq.stack = [] ∧ t.pri.calls = []
      ∧ ∀ g, s.present g = true → (t.grp g).state = .flash := by
  have hjmc := setModeFrom_jmc s.jmc.mode .flash none none .cleared s
  have hpts := setModeFrom_pts s.jmc.mode .flash none none .cleared s
  unfold endClearing setMode
  generalize setModeFrom s.jmc.mode .flash none none .cleared s = v at hjmc hpts ⊢
  obtain ⟨wjmc, wseq, wcalls, wstates⟩ := flashOrders_spec v
  generalize flashOrders v = w at wjmc wseq wcalls wstates ⊢
  obtain ⟨tjmc, tpending, tcur, tstack, tcalls, tstates⟩ := takePending_spec wcalls
  have hpres (g : GroupId) : v.present g = s.present g := present_of_tables (by rw [hpts]) g
  refine ⟨by rw [tjmc, wjmc, hjmc], by rw [tcur, wseq]; rfl, tpending, by rw [tstack, wseq]; rfl, tcalls, fun g hg => ?_⟩
  rw [tstates, wstates, if_pos ((hpres g).trans hg)]

/-- Settles O46. -/
theorem modeNoticesReachTheirBlocks : Obligations.ModeNoticesReachTheirBlocks := by
  intro s
  refine ⟨fun c => ?_, ?_⟩
  · intro t
    have ht : t = jmcRunning (priRunning c s) := rfl
    obtain ⟨tpri, tseq, tsge⟩ := jmcRunning_spec (priRunning c s)
    rw [← ht] at tpri tseq tsge
    have hjmc : (priRunning c s).jmc = s.jmc := (priRunning_outside c s).blocks.2.2.1
    refine ⟨fun hm => ?_, fun hm => ?_, fun hn => ?_, fun hr hc => ⟨fun x hx hn hw hcase => ?_, fun a g h rest hp hg hopen hin hq hcase => ?_⟩⟩
    · rw [ht, jmcRunning_startup (by rw [hjmc]; exact hm)]
      refine ⟨?_, by simp⟩
      rw [State.push_jmc, State.onJmc_jmc, hjmc]
    · rw [ht, jmcRunning_else (by rw [hjmc]; exact hm), hjmc]
    · rw [tpri, tseq, tsge, priRunning_stale hn]
      exact ⟨rfl, rfl, rfl⟩
    · have hcall := priRunning_call hr hc (mem_callsServed.mpr ⟨hx, hw, hcase⟩) hn
      refine ⟨x.served (some c), ?_, rfl, rfl, rfl⟩
      rw [State.call?, tpri]
      exact hcall
    · have hstage : s.tramGroupOpenInStage a = true :=
        tramGroupOpenInStage_iff.mpr ⟨hp, stageRunning_iff.mpr hr, by rw [hg]; exact hopen, by rw [hg]; exact hin⟩
      obtain ⟨h1, h2, h3⟩ := priRunning_tram hr hc (tramGroup?_eq_some.mpr ⟨hp, hg⟩) hopen hstage hq hcase
      rw [State.app, State.holders, tpri]
      exact ⟨h1, h2, h3⟩
  · intro t quiet moving
    have ht : t = watch s := rfl
    refine ⟨fun hm hp => ?_, fun hm hp => ?_, fun hm => ?_, fun h1 h2 => watch_otherMode h1 h2, fun hm h1 h2 => watch_otherPhase hm h1 h2⟩
    · rw [watch_allRed hm hp] at ht
      refine ⟨fun hmove => ?_, fun hmove => ?_⟩
      · rw [ht, if_pos (anyAdmitted_iff.mpr hmove)]
        exact ⟨rfl, by simp [beginFirstStage], rfl⟩
      · rw [ht, if_neg fun hx => hmove (anyAdmitted_iff.mp hx)]
    · rw [watch_firstStage hm hp] at ht
      refine ⟨fun hf => ?_, fun hf => ?_⟩
      · rw [ht, if_pos hf]
        exact enterNormal_spec s
      · rw [ht, if_neg (by simp [hf])]
    · rw [watch_clearing hm] at ht
      have hquiet : (allClear s && !s.leavingAwaited) = true ↔ quiet := by
        rw [Bool.and_eq_true, Bool.not_eq_true', ← Bool.not_eq_true, allClear_iff, leavingAwaited_iff, not_exists]
      refine ⟨fun hq => ?_, fun hq => ?_⟩
      · rw [ht, if_pos (hquiet.mpr hq)]
        exact endClearing_spec s
      · rw [ht, if_neg fun hx => hq (hquiet.mp hx)]

end Sys2Proof.Machine
end

section
namespace Sys2Proof.Machine

variable {s t u v : State}

/-! ### The reactions of a command leave a junction in FLASH as it is (R20, R88, R138) -/

/-- The mode and the states of the groups stand. -/
structure Steady (s t : State) : Prop where
  jmc : t.jmc = s.jmc
  states : ∀ g, (t.grp g).state = (s.grp g).state

theorem Steady.refl (s : State) : Steady s s := ⟨rfl, fun _ => rfl⟩

theorem Steady.trans (h : Steady s t) (k : Steady t u) : Steady s u :=
  ⟨k.jmc.trans h.jmc, fun g => (k.states g).trans (h.states g)⟩

theorem Steady.of_eq (hj : t.jmc = s.jmc) (hg : t.sge = s.sge) : Steady s t := ⟨hj, fun g => by rw [State.grp, State.grp, hg]⟩

theorem SameOutsidePriority.steady (h : SameOutsidePriority s t) : Steady s t :=
  ⟨h.blocks.2.2.1, fun g => by rw [← h.groups g]⟩

/-- The mode is FLASH, and every present group flashes. -/
def Parked (s : State) : Prop := s.jmc.mode = .flash ∧ ∀ g, s.present g = true → (s.grp g).state = .flash

section Notices

variable (hm : s.jmc.mode = .flash)
include hm

theorem mayChoose_flash : mayChoose s = false := by simp [mayChoose, hm]

theorem retest_flash : retest s = s := by
  have hnote : noteHoldFree s = s := if_neg (by simp [hm])
  unfold retest
  dsimp only
  rw [hnote, mayChoose_flash hm]
  simp

theorem chooseIfReady_flash : chooseIfReady s = s := if_neg (by simp [mayChoose_flash hm])

theorem endCountdownExpired_flash : endCountdownExpired s = s := if_neg (by simp [hm])

theorem watch_flash : watch s = s := watch_otherMode (by rw [hm]; nofun) (by rw [hm]; nofun)

theorem steady_groupEntered (g : GroupId) : Steady s (groupEntered g s) := by
  clear hm
  obtain ⟨-, -, -, cstate, -, -, -, cjmc⟩ := clearDemand_spec g s
  have ht : groupEntered g s = (priEntered g (startedGroup g (clearDemand g s))).push .retest := rfl
  generalize clearDemand g s = v at cstate cjmc ht
  obtain ⟨wsge, -, -, wjmc, -⟩ := startedGroup_spec g v
  generalize startedGroup g v = w at wsge wjmc ht
  have hpri := (priEntered_spec g w).1.outside.steady
  generalize priEntered g w = z at hpri ht
  rw [ht]
  exact ((Steady.trans ⟨cjmc, cstate⟩ (.of_eq wjmc wsge)).trans hpri).trans (.of_eq rfl rfl)

theorem steady_groupLeft (g : GroupId) : Steady s (groupLeft g s) := by
  clear hm
  obtain ⟨-, hsge, hjmc, -⟩ := priLeft_spec g s
  unfold groupLeft
  dsimp only
  generalize priLeft g s = v at hsge hjmc ⊢
  split
  · exact .of_eq hjmc hsge
  · exact .of_eq hjmc hsge

theorem steady_groupClosed (h : Parked s) (g : GroupId) : Steady s (groupClosed g s) := by
  obtain ⟨hsge, -, -, hjmc, hpts, -⟩ := (latchesOnly_latchFromState g s).reads
  unfold groupClosed
  generalize latchFromState g s = v at hsge hjmc hpts ⊢
  have hnone (b : GroupId) : ¬ canAdmit v b = true := fun hc => by
    obtain ⟨hp, hst, -⟩ := canAdmit_iff.mp hc
    have hpres : v.present b = s.present b := present_of_tables (by rw [hpts]) b
    rw [State.grp, hsge, ← State.grp, h.2 b (hpres ▸ hp)] at hst
    cases hst
  rw [admitWaiting_eq, foldl_admitStep_none hnone]
  exact .of_eq hjmc hsge

/-- No notice moves a junction in FLASH. -/
theorem steady_handle (h : Parked s) (n : Notice) : Steady s (handle n s) := by
  cases n with
  | entered g => exact steady_groupEntered hm g
  | left g => exact steady_groupLeft hm g
  | closed g => exact steady_groupClosed hm h g
  | retest =>
    have hsame : handle .retest s = s := retest_flash hm
    rw [hsame]
    exact .refl s
  | choose =>
    have hsame : handle .choose s = s := chooseIfReady_flash hm
    rw [hsame]
    exact .refl s
  | running c =>
    have hpri := (priRunning_outside c s).steady
    have hjmc : jmcRunning (priRunning c s) = priRunning c s := jmcRunning_else (by rw [hpri.jmc, hm]; nofun)
    have hrun : handle (.running c) s = priRunning c s := hjmc
    rw [hrun]
    exact hpri
  | redetermine =>
    have hdet := (PriActs.determineRuling_outside false s).steady
    have hrule : handle .redetermine s = if s.runningAwaited then s else determineRuling false s := rfl
    rw [hrule]
    split
    · exact .refl s
    · exact hdet
  | endExpiry =>
    have hsame : handle .endExpiry s = s := endCountdownExpired_flash hm
    rw [hsame]
    exact .refl s
  | capExpiry a => exact ((PriActs.refl (A := fun _ => True) (C := True) s).capExpired a).outside.steady
  | watch =>
    have hsame : handle .watch s = s := watch_flash hm
    rw [hsame]
    exact .refl s
  | evaluate =>
    have hsame := (evaluate_keeps s).halted (.inl hm)
    exact .of_eq (congrArg State.jmc hsame :) (congrArg State.sge hsame :)

end Notices

/-- The reactions of a command leave a junction in FLASH in FLASH, with its tables and with every present group flashing. -/
theorem settle_parked (k : Nat) (s : State) (h : Parked s) :
    (settle k s).jmc = s.jmc ∧ Parked (settle k s) ∧ kept (settle k s) = kept s := by
  refine settle_induction (P := fun t => t.jmc = s.jmc ∧ Parked t ∧ kept t = kept s) (fun n t ⟨hj, hp, hk⟩ => ?_)
    (fun t l hp => hp) k s ⟨rfl, h, rfl⟩
  have hs := steady_handle hp.1 hp n
  have hkept := kept_handle n t
  have hpres (g : GroupId) : (handle n t).present g = t.present g := present_of_tables (congrArg Kept.tables hkept) g
  refine ⟨hs.jmc.trans hj, ⟨by rw [hs.jmc]; exact hp.1, fun g hg => ?_⟩, hkept.trans hk⟩
  rw [hs.states]
  exact hp.2 g (hpres g ▸ hg)

/-! ### What CMON has counted (R167, R169) -/

/-- No condition is counted that was not. -/
def CountsNoMore (s t : State) : Prop := ∀ x ∈ t.cmon.counted, x ∈ s.cmon.counted

theorem countsNoMore_changeGroup (g : GroupId) (f : GroupRec → GroupRec) (s : State) : CountsNoMore s (changeGroup g f s) :=
  fun _ hx => (List.mem_filter.mp hx).1

theorem countsNoMore_flashGroup (g : GroupId) (s : State) : CountsNoMore s (flashGroup g s) := by
  have hchange := countsNoMore_changeGroup g GroupRec.toFlash s
  unfold flashGroup
  dsimp only
  split
  · exact hchange
  · exact hchange

theorem countsNoMore_groupsToFlash (s : State) : CountsNoMore s (groupsToFlash s) := by
  rw [groupsToFlash]
  generalize s.presentGroups = l
  induction l generalizing s with
  | nil => exact fun _ => id
  | cons g l ih => exact fun x hx => countsNoMore_flashGroup g s x (ih (flashGroup g s) x hx)

theorem CountsNoMore.trans (h : CountsNoMore s t) (k : CountsNoMore t u) : CountsNoMore s u := fun x hx => h x (k x hx)

theorem countsNoMore_monitorMode (b : Mode) (s : State) : CountsNoMore s (monitorMode b s) := by
  intro x hx
  unfold monitorMode at hx
  dsimp only at hx
  have hmem := (List.mem_filter.mp hx).1
  split at hmem
  all_goals split at hmem
  all_goals exact hmem

theorem countsNoMore_setModeFrom (b m : Mode) (p : Option Phase) (d : Option DarkCause) (c : ModeCause) (s : State) :
    CountsNoMore s (setModeFrom b m p d c s) := by
  have hset : CountsNoMore s (s.onJmc fun j => { j with mode := m, phase := p, darkCause := d }) := fun _ => id
  have hmon := countsNoMore_monitorMode s.jmc.mode (s.onJmc fun j => { j with mode := m, phase := p, darkCause := d })
  unfold setModeFrom
  dsimp only
  generalize monitorMode s.jmc.mode (s.onJmc fun j => { j with mode := m, phase := p, darkCause := d }) = v at hmon ⊢
  exact hset.trans hmon

theorem countsNoMore_flashOrdered (before : Mode) (cause : ModeCause) (s : State) : CountsNoMore s (flashOrdered before cause s) := by
  have hset : CountsNoMore s (s.onJmc fun j => { j with safeRequest := true }) := fun _ => id
  unfold flashOrdered
  generalize s.onJmc (fun j => { j with safeRequest := true }) = v at hset ⊢
  exact (hset.trans (countsNoMore_setModeFrom before .flash none none cause v)).trans (countsNoMore_groupsToFlash _)

/-- A board that has been silent through DARK shows SENSE_SILENT at the entry into FLASH, and where that is fatal it becomes the first
fault. -/
theorem flashEntered_silent {x : Tables} (before : Mode) (cause : ModeCause) (ht : s.pts.tables = some x) (hc : s.cmon.counted = [])
    (hf : SourceSet.has x.monitor.fatal .senseSilent = true) {g : GroupId} (hp : x.groups[g].present = true)
    (hs : 10 ≤ (s.mon g).silence) : (flashEntered before cause s).cmon.first.isSome = true := by
  have hord := flashOrdered_ordered before cause s
  have hjmc := (flashOrdered_spec before cause s).1
  have hcounts := countsNoMore_flashOrdered before cause s
  unfold flashEntered
  generalize flashOrdered before cause s = v at hord hjmc hcounts ⊢
  have vtables : v.pts.tables = some x := by rw [hord.store.1, ht]
  have vpres : v.present g = true := by
    rw [State.present, State.groupDef, vtables]
    exact hp
  obtain ⟨-, -, -, -, vsil, -⟩ := hord.lamps g
  have hmode : v.jmc.mode = .flash := by rw [hjmc]
  have hcond : v.condCounts (.senseSilent g) = true := by
    refine condCounts_iff.mpr ⟨.inr ⟨hmode, .inr rfl⟩, ?_⟩
    rw [condPresent_senseSilent, hmode, vpres, vsil]
    simpa using (show Config.senseSilence ≤ (s.mon g).silence from hs)
  have hall : Cond.senseSilent g ∈ allConds := mem_allConds.mpr nofun
  have hnew : Cond.senseSilent g ∉ v.cmon.counted := fun hx => by
    have hx' := hcounts _ hx
    rw [hc] at hx'
    cases hx'
  have hfatal : SourceSet.has v.monitorStart.fatal (Cond.senseSilent g).source = true := by
    rw [State.monitorStart, vtables]
    exact hf
  obtain ⟨-, -, hfound, -⟩ := evaluate_looked ⟨_, hall, hcond, hnew⟩
  obtain ⟨hsome, hnone, -⟩ := hfound ⟨_, found_of_counts hall hcond hnew nofun, hfatal⟩
  cases hv : v.cmon.first with
  | none =>
    obtain ⟨y, -, -, hy⟩ := hnone hv
    rw [hy]
    rfl
  | some f =>
    rw [hsome (by rw [hv]; rfl), hv]
    rfl

/-! ### The end of the verification (R141, R178) -/

/-- What acting on sound tables leaves where AUTOSTART is not asked for, or stopped by a fault. -/
theorem tablesVerified_parked {x : Tables} (before : Mode) (cause : ModeCause) (ht : s.pts.tables = some x)
    (h : x.monitor.autostart = false ∨ (flashEntered before cause s).cmon.first.isSome = true) :
    let u := tablesVerified before cause s
    u.jmc = { s.jmc with mode := .flash, phase := none, darkCause := none, safeRequest := true } ∧ Parked u
      ∧ u.pts.tables = some x ∧ u.pts.verify = s.pts.verify := by
  obtain ⟨wjmc, -, -, -, wpts, wstates, -⟩ := flashEntered_spec before cause s
  have hsel := selected_startPlanSelection (flashEntered before cause s)
  have hu : tablesVerified before cause s = startPlanSelection (flashEntered before cause s) := by
    obtain h | h := h
    · exact tablesVerified_of_off before cause ht h
    · rw [tablesVerified_eq]
      refine autostart_latched ?_
      rw [hsel.record_reads.1]
      exact h
  have hpres (g : GroupId) : s.present g = x.groups[g].present := by simp [State.present, State.groupDef, ht]
  rw [hu]
  generalize flashEntered before cause s = w at wjmc wpts wstates hsel ⊢
  generalize startPlanSelection w = z at hsel ⊢
  have ztables : z.pts.tables = some x := by rw [hsel.tables, wpts, ht]
  have zverify : z.pts.verify = s.pts.verify := (congrArg Pts.verify hsel.pts :).trans (by rw [wpts])
  have zpres (g : GroupId) : z.present g = s.present g := present_of_tables (by rw [ztables, ht]) g
  refine ⟨hsel.jmc.trans wjmc, ⟨by rw [hsel.jmc, wjmc], fun g hg => ?_⟩, ztables, zverify⟩
  rw [hsel.states, wstates, if_pos ((zpres g).symm.trans hg)]

/-- Settles O7. -/
theorem verificationEndsDarkOrInFlash : Obligations.VerificationEndsDarkOrInFlash := by
  intro s hn hv hm
  have hexec := exec_verificationEnd hv
  refine ⟨fun hnone => ?_, fun x hx hcase => ?_⟩
  · have hend : endVerification s.begun = tablesFailed (verified s.begun) := endVerification_none (s := s.begun) hnone
    have hquiet : (tablesFailed (verified s.begun)).notices = [] := hn
    refine ⟨tablesFailed (verified s.begun), ?_, rfl, rfl, rfl, hnone, rfl, rfl, rfl⟩
    rw [hexec, hend, settle_of_no_notices hquiet]
  · obtain ⟨y, hy⟩ : ∃ y, y = (verified s.begun).onCmon fun c => { c with compareTimer := Config.comparisonPeriod } := ⟨_, rfl⟩
    have hend : endVerification s.begun = tablesVerified s.begun.jmc.mode .tables y := by
      rw [endVerification_some (s := s.begun) hx, hy]
    have hyt : y.pts.tables = some x := by rw [hy]; exact hx
    have hyc : y.cmon.first = s.cmon.first ∧ y.cmon.counted = s.cmon.counted ∧ y.pts.verify = none := by
      rw [hy]
      exact ⟨rfl, rfl, rfl⟩
    have hmon (g : GroupId) : y.mon g = s.mon g := by rw [hy]; rfl
    obtain ⟨yfirst, ycounted, yverify⟩ := hyc
    have hstop : x.monitor.autostart = false ∨ (flashEntered s.begun.jmc.mode .tables y).cmon.first.isSome = true := by
      obtain ha | hf | ⟨hf, hc, g, hp, hs⟩ := hcase
      · exact .inl ha
      · obtain ⟨-, -, -, -, -, -, -, -, hkeep, -⟩ := flashEntered_spec s.begun.jmc.mode .tables y
        have hyf : y.cmon.first.isSome = true := by rw [yfirst]; exact hf
        rw [hkeep hyf]
        exact .inr hyf
      · exact .inr (flashEntered_silent _ _ hyt (by rw [ycounted]; exact hc) hf hp (by rw [hmon]; exact hs))
    obtain ⟨ujmc, uparked, utables, uverify⟩ := tablesVerified_parked s.begun.jmc.mode .tables hyt hstop
    rw [hend] at hexec
    generalize tablesVerified s.begun.jmc.mode .tables y = u at ujmc uparked utables uverify hexec
    obtain ⟨tjmc, tparked, tkept⟩ := settle_parked Config.reactionBound u uparked
    have ttables : (settle Config.reactionBound u).pts.tables = some x := (congrArg Kept.tables tkept :).trans utables
    have tverify : (settle Config.reactionBound u).pts.verify = none := (congrArg Kept.verify tkept :).trans (uverify.trans yverify)
    refine ⟨_, hexec, by rw [tjmc, ujmc], by rw [tjmc, ujmc], by rw [tjmc, ujmc], ttables, tverify, fun g hg => tparked.2 g ?_⟩
    rw [State.present, State.groupDef, ttables]
    exact hg

end Sys2Proof.Machine
end

section
/-! How the byte functions of the replies code their values, and the layout of the STATUS reply. -/

namespace Sys2Proof.Machine

/-! ## Bytes -/

theorem byteSet_eq (x : GroupSet) :
    byteSet x = [x.extractLsb' 0 8, x.extractLsb' 8 8, x.extractLsb' 16 8] := by
  have byteAt (k : Nat) : BitVec.ofNat 8 (x.toNat / 2 ^ k) = x.extractLsb' k 8 := by
    rw [BitVec.extractLsb', Nat.shiftRight_eq_div_pow]
  have low : BitVec.ofNat 8 x.toNat = x.extractLsb' 0 8 := by simpa using byteAt 0
  exact congr (congrArg List.cons low) (congr (congrArg List.cons (byteAt 8)) (congrArg (fun y => [y]) (byteAt 16)))

theorem byte4_eq (x : JTime) :
    byte4 x = [x.extractLsb' 0 8, x.extractLsb' 8 8, x.extractLsb' 16 8, x.extractLsb' 24 8] := by
  have byteAt (k : Nat) : BitVec.ofNat 8 (x.toNat / 2 ^ k) = x.extractLsb' k 8 := by
    rw [BitVec.extractLsb', Nat.shiftRight_eq_div_pow]
  have low : BitVec.ofNat 8 x.toNat = x.extractLsb' 0 8 := by simpa using byteAt 0
  exact congr (congrArg List.cons low) (congr (congrArg List.cons (byteAt 8))
    (congr (congrArg List.cons (byteAt 16)) (congrArg (fun y => [y]) (byteAt 24))))

/-- The byte of a yes/no field. -/
def flagByte (x : Bool) : Byte := if x = true then 1 else 0

theorem byteFlag_eq (x : Bool) : byteFlag x = [flagByte x] := by
  cases x
  · rfl
  · rfl

/-- The weight of a bit in a byte of bits. -/
def bitWeight (x : Bool) (n : Nat) : Nat := if x = true then n else 0

theorem byteBits_one (x : Bool) : byteBits [x] = [BitVec.ofNat 8 (bitWeight x 1)] := rfl

theorem byteBits_two (x y : Bool) :
    byteBits [x, y] = [BitVec.ofNat 8 (bitWeight x 1 + bitWeight y 2)] := rfl

theorem byteBits_three (x y z : Bool) :
    byteBits [x, y, z] = [BitVec.ofNat 8 (bitWeight x 1 + bitWeight y 2 + bitWeight z 4)] := by
  rw [Nat.add_assoc]
  rfl

/-! ## The layout of the STATUS reply -/

/-- Mode to mode of the list: the first 14 bytes. -/
def statusFront (s : State) : List Byte :=
  byte1 s.jmc.mode.code ++ byteOptCode (s.jmc.darkCause.map DarkCause.code) ++ byteOptCode (s.jmc.phase.map Phase.code)
    ++ byte2 s.jmc.timer
    ++ byteBits [s.jmc.firstRunning, s.jmc.safeRequest, s.safeOutput]
    ++ byteOptCode (s.seq.activeSlot.map fun n => n.val) ++ byteOptCode (s.seq.pendingPlan.map fun n => n.val)
    ++ byteBits [fitToRun s]
    ++ byteOptStage s.seq.current ++ byteOptCode (s.seq.status.map StageStatus.code) ++ byte1 s.seq.level
    ++ byte1 s.seq.position ++ byteOptCode (s.plan?.map fun p => p.sequence.mode.code)

/-- Readiness to junction time: the 18 bytes after the two group sets. -/
def statusMiddle (s : State) : List Byte :=
  byteBits [s.ready, s.cutInForce]
    ++ byteOptCount s.seq.h ++ byteOptStage s.seq.mark ++ byte1 s.seq.stack.length
    ++ byteOptStage (s.seq.manualSlot.map Prod.fst) ++ byteOptCount (s.seq.manualSlot.map Prod.snd)
    ++ byteOptCount s.seq.manualHold
    ++ byte1 (clearanceToRun s) ++ byte1 s.lnk.af ++ byte1 s.lnk.reports.length ++ byte1 s.lnk.replies.length
    ++ byte4 s.time

/-- The four bytes of a demand entry. -/
def demandItems (d : Demand) : List Byte := byteFlag d.latched ++ byte1 d.sources.toNat ++ byte2 d.wait

theorem statusItems_eq (s : State) :
    statusItems s = statusFront s ++ (byteSet s.seq.groups ++ byteSet s.seq.starting) ++ statusMiddle s
      ++ bytesOf demandItems s.seq.demand.toList := by
  have entry : (fun d : Demand => byteFlag d.latched ++ byte1 d.sources.toNat ++ byte2 d.wait) = demandItems := rfl
  unfold statusItems statusFront statusMiddle
  rw [entry]
  simp only [List.append_assoc]

theorem statusFront_length (s : State) : (statusFront s).length = 14 := rfl

theorem statusMiddle_length (s : State) : (statusMiddle s).length = 18 := rfl

theorem demandItems_length (d : Demand) : (demandItems d).length = 4 := rfl

theorem bytesOf_length {α : Type} {f : α → List Byte} {n : Nat} (h : ∀ x, (f x).length = n) (l : List α) :
    (bytesOf f l).length = n * l.length := by
  induction l with
  | nil => rfl
  | cons x l ih =>
    have split : bytesOf f (x :: l) = f x ++ bytesOf f l := rfl
    rw [split, List.length_append, ih, h, List.length_cons]
    ring

/-- Entries of one width stand at the multiples of the width. -/
theorem bytesOf_entry {α : Type} {f : α → List Byte} {n : Nat} (h : ∀ x, (f x).length = n) (l : List α) (i : Nat)
    (hi : i < l.length) : ((bytesOf f l).drop (n * i)).take n = f l[i] := by
  induction l generalizing i with
  | nil => exact absurd hi (Nat.not_lt_zero i)
  | cons x l ih =>
    have split : bytesOf f (x :: l) = f x ++ bytesOf f l := rfl
    rw [split]
    cases i with
    | zero => exact List.take_left' (h x)
    | succ i =>
      rw [Nat.mul_succ, Nat.add_comm, ← List.drop_drop, List.drop_left' (h x)]
      exact ih i (Nat.lt_of_succ_lt_succ hi)

theorem status_front (s : State) : (statusItems s).take 14 = statusFront s := by
  rw [statusItems_eq, List.append_assoc, List.append_assoc]
  exact List.take_left' (statusFront_length s)

theorem status_groups (s : State) :
    ((statusItems s).drop 14).take 6 = byteSet s.seq.groups ++ byteSet s.seq.starting := by
  rw [statusItems_eq, List.append_assoc, List.append_assoc, List.drop_left' (statusFront_length s)]
  exact List.take_left' rfl

theorem status_middle (s : State) : ((statusItems s).drop 20).take 18 = statusMiddle s := by
  rw [statusItems_eq, List.append_assoc (statusFront s ++ _), List.drop_left' (i := 20) rfl]
  exact List.take_left' (statusMiddle_length s)

theorem status_demand (s : State) (g : GroupId) :
    ((statusItems s).drop (38 + 4 * g.val)).take 4 = demandItems (s.dem g) := by
  have demands : (statusItems s).drop 38 = bytesOf demandItems s.seq.demand.toList := by
    rw [statusItems_eq]
    exact List.drop_left' rfl
  rw [← List.drop_drop, demands]
  have entry := bytesOf_entry demandItems_length s.seq.demand.toList g.val (by rw [Vector.length_toList]; exact g.isLt)
  rw [Vector.getElem_toList] at entry
  exact entry

theorem status_length (s : State) : (statusItems s).length = 134 := by
  have demands := bytesOf_length demandItems_length s.seq.demand.toList
  rw [Vector.length_toList] at demands
  rw [statusItems_eq, List.length_append, demands]
  rfl

/-! ## The clearance to run -/

theorem clearanceToRun_idle {s : State} (h : s.seq.status ≠ some .transition) : clearanceToRun s = 0 := if_neg h

/-- A group of the stage that waits for its admission. -/
theorem mem_waiting {s : State} {g : GroupId} :
    g ∈ (GroupSet.members s.seq.groups).filter (fun g => (s.grp g).state = .closed && (s.grp g).openPending)
      ↔ GroupSet.has s.seq.groups g = true ∧ (s.grp g).state = .closed ∧ (s.grp g).openPending = true := by
  rw [List.mem_filter, mem_members, Bool.and_eq_true, decide_eq_true_iff]

theorem le_clearanceToRun {s : State} (h : s.seq.status = some .transition) {g : GroupId}
    (hg : GroupSet.has s.seq.groups g = true) (hc : (s.grp g).state = .closed) (ho : (s.grp g).openPending = true) :
    (s.grp g).cr - (s.groupDef g).opent ≤ clearanceToRun s := by
  rw [clearanceToRun, if_pos h]
  exact le_largest (List.mem_map_of_mem (mem_waiting.mpr ⟨hg, hc, ho⟩))

theorem clearanceToRun_zero_or (s : State) :
    clearanceToRun s = 0
      ∨ ∃ g, GroupSet.has s.seq.groups g = true ∧ (s.grp g).state = .closed ∧ (s.grp g).openPending = true
        ∧ clearanceToRun s = (s.grp g).cr - (s.groupDef g).opent := by
  rw [clearanceToRun]
  split
  · refine (largest_zero_or_mem _).imp id fun mem => ?_
    obtain ⟨g, waits, eq⟩ := List.mem_map.mp mem
    obtain ⟨hg, hc, ho⟩ := mem_waiting.mp waits
    exact ⟨g, hg, hc, ho, eq.symm⟩
  · exact Or.inl rfl

/-- Settles O27: each part of the reply is found at its place by the lengths of the parts before it. -/
theorem statusReplyLayout : Obligations.StatusReplyLayout := by
  intro s b hi bit stage slot count set
  refine ⟨status_length s, ?_, ?_, ?_, clearanceToRun_idle, fun h g => le_clearanceToRun h, clearanceToRun_zero_or s,
    fun g => ?_⟩
  · rw [status_front, statusFront, byteBits_three, byteBits_one]
    rfl
  · rw [status_groups, byteSet_eq, byteSet_eq]
  · rw [status_middle, statusMiddle, byteBits_two, byte4_eq]
    rfl
  · rw [status_demand, demandItems, byteFlag_eq, ← BitVec.ofNat_toNat]
    rfl

end Sys2Proof.Machine
end

section
/-! The items of the queries' replies, written out byte by byte. -/

namespace Sys2Proof.Machine

variable {s : State}

theorem bytesOf_byte1 {α : Type} (f : α → Nat) (l : List α) :
    bytesOf (fun x => byte1 (f x)) l = l.map fun x => BitVec.ofNat 8 (f x) := by
  induction l with
  | nil => rfl
  | cons x l ih => exact congrArg (BitVec.ofNat 8 (f x) :: ·) ih

/-! ## GROUPS -/

theorem partGroups_eq {part : Nat} (low : 1 ≤ part) (high : part ≤ 3) :
    partGroups part = groupIds.filter fun g => g.val / 8 + 1 = part := by
  obtain rfl | rfl | rfl : part = 1 ∨ part = 2 ∨ part = 3 := by omega
  · decide
  · decide
  · decide

/-- The record a group is reported with: that of R1 for an absent group. -/
def shownRec (s : State) (g : GroupId) : GroupRec := if s.present g = true then s.grp g else {}

theorem groupEntry_eq (s : State) (g : GroupId) :
    groupEntry s g
      = [BitVec.ofNat 8 (g.val + 1), flagByte (s.present g),
          if s.present g = true then BitVec.ofNat 8 (s.kind g).code else 0xFF,
          BitVec.ofNat 8 (shownRec s g).state.code, flagByte (shownRec s g).openPending,
          flagByte (shownRec s g).closePending, BitVec.ofNat 8 (shownRec s g).cr,
          BitVec.ofNat 8 (shownRec s g).phaseTimer]
        ++ byte2 (shownRec s g).mgRem ++ byte2 (shownRec s g).openElapsed
        ++ [BitVec.ofNat 8 (shownRec s g).gapTimer, BitVec.ofNat 8 (shownRec s g).ext.code]
        ++ byte2 (shownRec s g).effMing ++ byte2 (shownRec s g).effMaxg
        ++ [flagByte (shownRec s g).hold, flagByte (shownRec s g).wait] := by
  have shown : (if s.present g = true then s.grp g else {}) = shownRec s g := rfl
  unfold groupEntry
  dsimp only
  rw [shown]
  generalize shownRec s g = r
  simp only [byteFlag_eq]
  cases s.present g
  · rfl
  · rfl

/-! ## DETECTOR -/

theorem sum_of_active (active : Bool) (x : DetCond) :
    ((if active = true then [x] else []).map fun c => 2 ^ c.code).sum = 2 ^ x.code * active.toNat := by
  cases active
  · rfl
  · exact (Nat.add_zero _).trans (Nat.mul_one _).symm

theorem bytesConditions_eq (r : DetRec) :
    bytesConditions r.conditions
      = [BitVec.ofNat 8 (r.card.toNat + 2 * r.parity.toNat + 4 * r.silent.toNat + 8 * r.stuckOn.toNat
          + 16 * r.stuckOff.toNat)] := by
  simp only [bytesConditions, DetRec.conditions, List.map_append, List.sum_append, sum_of_active]
  simp only [DetCond.code, pow_zero, one_mul, pow_one]
  rfl

theorem demandOnUnder_iff {c : DetSettings} {r : DetRec} : demandOnUnder c r = true ↔
    c.faultMode = .demandOn ∧ r.settled = true
      ∧ (c.kind = .demand ∨ c.kind = .extend ∨ c.kind = .demandExtend ∨ c.kind = .button) := by
  rw [demandOnUnder, Bool.and_eq_true, Bool.and_eq_true, decide_eq_true_iff, readsGroups_iff, and_assoc]
  exact and_congr_right fun _ => and_comm

/-- The fault mode in effect: DEMAND_ON 0 and QUIET 1. -/
theorem faultModeByte_eq (c : DetSettings) (r : DetRec) :
    byte1 (if demandOnUnder c r then FaultMode.demandOn.code else FaultMode.quiet.code)
      = [if c.faultMode = .demandOn ∧ r.settled = true
          ∧ (c.kind = .demand ∨ c.kind = .extend ∨ c.kind = .demandExtend ∨ c.kind = .button) then 0 else 1] := by
  simp only [demandOnUnder_iff]
  split
  · rfl
  · rfl

theorem stateByte_eq (occupied : Bool) : byte1 (if occupied then 0 else 1) = [flagByte !occupied] := by
  cases occupied
  · rfl
  · rfl

theorem bytesDetector_eq (d : DetSettings) :
    bytesDetector d
      = [BitVec.ofNat 8 d.kind.code] ++ byteSet d.groups
        ++ [BitVec.ofNat 8 (d.approach.val + 1), BitVec.ofNat 8 d.faultMode.code] ++ byte2 d.stuckOn ++ byte2 d.stuckOff
        ++ [BitVec.ofNat 8 d.ringLength, flagByte d.edgeReporting] := by
  unfold bytesDetector
  rw [byteFlag_eq]
  rfl

theorem detectorSettings_none (h : s.plan? = none) (d : DetId) : detectorSettings s d = [0] := by
  rw [detectorSettings, h]
  rfl

theorem detectorSettings_some {p : Plan} (h : s.plan? = some p) (d : DetId) :
    detectorSettings s d = bytesDetector (p.det d) := by
  rw [detectorSettings, h]

/-- An edge of the ring: OCCUPIED 0 and VACANT 1, with its time. -/
def ringItems (e : RingEntry) : List Byte := [flagByte !e.occupied] ++ byte4 e.time

theorem detectorItems_eq (s : State) (d : DetId) :
    detectorItems s d
      = detectorSettings s d
        ++ [if (s.detSet d).faultMode = .demandOn ∧ (s.det d).settled = true
              ∧ ((s.detSet d).kind = .demand ∨ (s.detSet d).kind = .extend ∨ (s.detSet d).kind = .demandExtend
                ∨ (s.detSet d).kind = .button) then 0 else 1,
            flagByte (s.det d).mask, flagByte !(s.det d).occupied, flagByte (s.det d).settled,
            flagByte (s.cause d).isSome, BitVec.ofNat 8 (((s.cause d).map DetCond.code).getD 0xFF),
            BitVec.ofNat 8 ((s.det d).card.toNat + 2 * (s.det d).parity.toNat + 4 * (s.det d).silent.toNat
              + 8 * (s.det d).stuckOn.toNat + 16 * (s.det d).stuckOff.toNat)]
        ++ byte2 (s.det d).sinceChange
        ++ [BitVec.ofNat 8 (s.det d).silence, BitVec.ofNat 8 (s.det d).parityRun, BitVec.ofNat 8 (s.det d).goodRun]
        ++ byte2 (s.det d).count ++ bytesOf ringItems (s.det d).ring := by
  have ring : (fun e : RingEntry => byte1 (if e.occupied then 0 else 1) ++ byte4 e.time) = ringItems :=
    funext fun e => congrArg (· ++ byte4 e.time) (stateByte_eq e.occupied)
  unfold detectorItems
  dsimp only
  rw [ring, faultModeByte_eq, stateByte_eq, bytesConditions_eq]
  simp only [byteFlag_eq, byteOptCode, byte1, byte2, List.append_assoc, List.cons_append, List.nil_append]

/-! ## TRAMS and CALLS -/

theorem tramEntry_eq (r : TramRec) :
    tramEntry r
      = [BitVec.ofNat 8 r.tag, BitVec.ofNat 8 (r.source.code + 2 * r.vehicle.isSome.toNat + 4 * r.state.code)]
        ++ byte2 (r.vehicle.getD 0) ++ byte4 r.checkIn ++ byte2 r.eta ++ byte2 r.age := by
  unfold tramEntry
  cases r.vehicle
  · rfl
  · rfl

theorem approachEntry_eq (s : State) (a : ApproachId) :
    approachEntry s a
      = [flagByte (s.appSet a).present,
          if (s.appSet a).present = true then BitVec.ofNat 8 ((s.appSet a).tramGroup.val + 1) else 0,
          if (s.appSet a).present = true then BitVec.ofNat 8 ((s.appSet a).priorityStage.val + 1) else 0,
          BitVec.ofNat 8 (s.app a).episode.code]
        ++ byte2 (s.app a).recovery
        ++ [BitVec.ofNat 8 (s.app a).checkinGuard, BitVec.ofNat 8 (s.app a).nextTag,
          BitVec.ofNat 8 (s.app a).queue.length]
        ++ bytesOf tramEntry (s.app a).queue := by
  unfold approachEntry
  dsimp only
  rw [byteFlag_eq]
  cases (s.appSet a).present
  · rfl
  · rfl

theorem stageByte_eq (t : Option StageId) :
    byteOptStage t = [BitVec.ofNat 8 ((t.map fun t => t.val + 1).getD 0)] := by
  cases t
  · rfl
  · rfl

theorem callEntry_eq (c : Call) :
    callEntry c
      = [BitVec.ofNat 8 c.id, BitVec.ofNat 8 c.level.code, BitVec.ofNat 8 (c.target.val + 1)] ++ byte2 c.eta
        ++ byte2 c.hold ++ byte2 c.remaining ++ byte2 c.age
        ++ [BitVec.ofNat 8 c.state.code, BitVec.ofNat 8 ((c.servingStage.map fun t => t.val + 1).getD 0)] := by
  unfold callEntry
  rw [stageByte_eq]
  rfl

section Ordered

variable {α : Type} (f : α → Nat)

theorem insertBy_perm (x : α) (l : List α) : (insertBy f x l).Perm (x :: l) := by
  induction l with
  | nil => exact List.Perm.refl _
  | cons y l ih =>
    rw [insertBy]
    split
    · exact List.Perm.refl _
    · exact (ih.cons y).trans (List.Perm.swap x y l)

theorem insertBy_sorted (x : α) {l : List α} (h : l.Pairwise fun a b => f a ≤ f b) :
    (insertBy f x l).Pairwise fun a b => f a ≤ f b := by
  induction l with
  | nil => exact List.pairwise_singleton _ x
  | cons y l ih =>
    obtain ⟨head, tail⟩ := List.pairwise_cons.mp h
    rw [insertBy]
    split
    case isTrue lt =>
      refine List.pairwise_cons.mpr ⟨fun a ha => ?_, h⟩
      obtain rfl | mem := List.mem_cons.mp ha
      · exact Nat.le_of_lt lt
      · exact (Nat.le_of_lt lt).trans (head a mem)
    case isFalse ge =>
      refine List.pairwise_cons.mpr ⟨fun a ha => ?_, ih tail⟩
      obtain rfl | mem := List.mem_cons.mp ((insertBy_perm f x l).mem_iff.mp ha)
      · exact Nat.le_of_not_lt ge
      · exact head a mem

theorem inOrderOf_perm (l : List α) : (inOrderOf f l).Perm l := by
  have general (acc : List α) : (l.foldl (fun acc x => insertBy f x acc) acc).Perm (acc ++ l) := by
    induction l generalizing acc with
    | nil => rw [List.append_nil]; exact List.Perm.refl _
    | cons x l ih => exact (ih _).trans (((insertBy_perm f x acc).append_right l).trans List.perm_middle.symm)
  exact general []

theorem inOrderOf_sorted (l : List α) : (inOrderOf f l).Pairwise fun a b => f a ≤ f b := by
  have general (acc : List α) (h : acc.Pairwise fun a b => f a ≤ f b) :
      (l.foldl (fun acc x => insertBy f x acc) acc).Pairwise fun a b => f a ≤ f b := by
    induction l generalizing acc with
    | nil => exact h
    | cons x l ih => exact ih _ (insertBy_sorted f x h)
  exact general [] List.Pairwise.nil

end Ordered

/-! ## FAULTS -/

theorem bytesFirst_some (f : FirstFault) :
    bytesFirst (some f) = [1, BitVec.ofNat 8 f.source.code] ++ byteSet (GroupSet.ofList f.groups) ++ byte4 f.time := rfl

theorem sourcePresent_eq (s : State) (f : FaultSource) :
    s.sourcePresent f = allConds.any fun x => decide (x.source = f) && s.condPresent x := by
  rw [Bool.eq_iff_iff, sourcePresent_iff]
  simp only [List.any_eq_true, Bool.and_eq_true, decide_eq_true_iff]
  exact exists_congr fun x => and_left_comm

theorem checked_eq (f : FaultSource) (m : Mode) :
    f.checked m
      = decide ((m ≠ .dark ∧ m ≠ .flash) ∨ (m = .flash ∧ (f = .goMismatch ∨ f = .senseSilent))) := by
  rw [Bool.eq_iff_iff, checked_iff, decide_eq_true_iff]

/-- Whether a source's condition is present, and whether it is checked. -/
def sourceItems (s : State) (f : FaultSource) : List Byte :=
  [flagByte (allConds.any fun x => decide (x.source = f) && s.condPresent x),
    flagByte (decide ((s.jmc.mode ≠ .dark ∧ s.jmc.mode ≠ .flash)
      ∨ (s.jmc.mode = .flash ∧ (f = .goMismatch ∨ f = .senseSilent))))]

theorem sourceItems_eq (s : State) (f : FaultSource) :
    byteFlag (s.sourcePresent f) ++ byteFlag (f.checked s.jmc.mode) = sourceItems s f := by
  rw [sourcePresent_eq, checked_eq, byteFlag_eq, byteFlag_eq]
  rfl

theorem monitorEntry_eq (s : State) (g : GroupId) :
    monitorEntry s g
      = [flagByte (s.mon g).red, flagByte (s.mon g).amber, flagByte (s.mon g).go, flagByte (s.mon g).redCurrent]
        ++ byte4 (s.mon g).arrival
        ++ [BitVec.ofNat 8 (s.mon g).silence, BitVec.ofNat 8 (s.mon g).scr, flagByte (s.mon g).source.isSome,
          BitVec.ofNat 8 (((s.mon g).source.map fun e => e.val + 1).getD 0), BitVec.ofNat 8 (s.mon g).goTimer,
          BitVec.ofNat 8 (s.mon g).aspectTimer, BitVec.ofNat 8 (s.mon g).redTimer] := by
  unfold monitorEntry
  generalize s.mon g = m
  unfold byteOpt1
  dsimp only
  rw [Option.isSome_map]
  simp only [byteFlag_eq]
  rfl

theorem faultsItems_eq (s : State) (part : Nat) :
    faultsItems s part
      = bytesFirst s.cmon.first ++ [s.cmon.latched.setWidth 8] ++ byte2 s.cmon.window
        ++ [flagByte s.cmon.lockout, flagByte s.cmon.safeDropped, BitVec.ofNat 8 s.cmon.dropTimer,
          flagByte s.pins.commission, s.monitorStart.fatal.setWidth 8, BitVec.ofNat 8 s.monitorStart.mtol]
        ++ bytesOf (sourceItems s) faultSources ++ bytesOf (monitorEntry s) (partGroups part) := by
  have sources : (fun f => byteFlag (s.sourcePresent f) ++ byteFlag (f.checked s.jmc.mode)) = sourceItems s :=
    funext (sourceItems_eq s)
  unfold faultsItems
  rw [sources, ← BitVec.ofNat_toNat, ← BitVec.ofNat_toNat]
  simp only [byteFlag_eq, byte1, List.append_assoc, List.cons_append, List.nil_append]

/-! ## STACK -/

theorem bytesStanding_some (p : PlanRec) :
    bytesStanding (some p)
      = [1] ++ bytesRef (some p.subject)
        ++ [BitVec.ofNat 8 p.level, BitVec.ofNat 8 (p.stage.val + 1), BitVec.ofNat 8 (p.prio.val + 1)] ++ byte2 p.d
        ++ [BitVec.ofNat 8 p.tTrans] ++ byte2 p.l ++ byte2 p.h := by
  cases h : p.subject
  · simp only [bytesStanding, h]; rfl
  · simp only [bytesStanding, h]; rfl

theorem resumeEntry_eq (r : ResumeRec) :
    resumeEntry r
      = [BitVec.ofNat 8 (r.stage.val + 1), BitVec.ofNat 8 r.level] ++ byte2 r.dSaved ++ byte2 r.budget
        ++ bytesRef r.request := rfl

/-- The identifier of a call that holds. -/
def Holder.callId? : Holder → Option Nat
  | .call k => some k
  | .approach _ => none

/-- The identifiers of the calls among the holders of a group, in order. -/
def heldIds (l : List Holder) : List Nat := inOrderOf id (l.filterMap Holder.callId?)

/-- Whether an approach is among the holders, as a number. -/
def holdsBit (l : List Holder) (a : ApproachId) : Nat := if .approach a ∈ l then 1 else 0

theorem approachBits_eq (l : List Holder) :
    byteBits (approachIds.map fun a => Holder.approach a ∈ l)
      = [BitVec.ofNat 8 (holdsBit l 0 + 2 * holdsBit l 1 + 4 * holdsBit l 2 + 8 * holdsBit l 3)] := by
  have weight (a : ApproachId) (n : Nat) :
      (if decide (Holder.approach a ∈ l) = true then n else 0) = n * holdsBit l a := by
    simp [holdsBit]
  have bits : approachIds.map (fun a => decide (Holder.approach a ∈ l))
      = [decide (.approach 0 ∈ l), decide (.approach 1 ∈ l), decide (.approach 2 ∈ l), decide (.approach 3 ∈ l)] := rfl
  rw [bits]
  simp only [byteBits, List.zipIdx_cons, List.zipIdx_nil, List.map_cons, List.map_nil, List.sum_cons, List.sum_nil, weight]
  simp only [byte1, Nat.add_zero, Nat.add_assoc, Nat.zero_add, Nat.reduceAdd, Nat.reducePow, one_mul, pow_zero]

theorem bytesHolders_eq (l : List Holder) :
    bytesHolders l
      = [BitVec.ofNat 8 (holdsBit l 0 + 2 * holdsBit l 1 + 4 * holdsBit l 2 + 8 * holdsBit l 3),
          BitVec.ofNat 8 (heldIds l).length] ++ (heldIds l).map (BitVec.ofNat 8) := by
  have parts : bytesHolders l = byteBits (approachIds.map fun a => Holder.approach a ∈ l)
      ++ byte1 (l.filterMap Holder.callId?).length ++ bytesOf byte1 (heldIds l) := rfl
  have bytes : bytesOf byte1 (heldIds l) = (heldIds l).map (BitVec.ofNat 8) := bytesOf_byte1 id _
  rw [parts, approachBits_eq, bytes, ← (inOrderOf_perm id (l.filterMap Holder.callId?)).length_eq]
  rfl

theorem heldGroups_eq (s : State) : heldGroups s = groupIds.filter fun g => decide (s.holders g ≠ []) := by
  refine congrArg (groupIds.filter ·) (funext fun g => ?_)
  cases s.holders g
  · rfl
  · rfl

theorem caps_eq (s : State) : s.pri.caps.toList = approachIds.map s.cap := by
  refine List.ext_getElem (by rw [Vector.length_toList, List.length_map]; rfl) fun i hi hj => ?_
  rw [Vector.getElem_toList, List.getElem_map]
  exact congrArg s.cap (List.getElem_finRange _).symm


theorem stackItems_eq (s : State) :
    stackItems s
      = [BitVec.ofNat 8 s.seq.stack.length] ++ bytesOf resumeEntry s.seq.stack.reverse ++ bytesStanding s.pri.standing
        ++ bytesRef s.pri.own ++ bytesOf bytesCap (approachIds.map s.cap)
        ++ bytesOf (fun g => byte1 (g.val + 1) ++ bytesHolders (s.holders g))
          (groupIds.filter fun g => decide (s.holders g ≠ [])) := by
  rw [← heldGroups_eq, ← caps_eq]
  rfl

/-! ## PLAN_READ -/

/-- The write in flight in the directory: its target and the tenths it has to run. -/
def directoryWrite : Option Write → List Byte
  | none => [0xFF, 0]
  | some { target := .slot n _, remaining := k } => [BitVec.ofNat 8 (n.val + 1), BitVec.ofNat 8 k]
  | some { target := .tables _, remaining := k } => [17, BitVec.ofNat 8 k]

theorem directoryItems_eq (s : State) :
    directoryItems s
      = (s.pts.slots.toList.map fun x => BitVec.ofNat 8 x.state.code)
        ++ [flagByte s.pts.trial.complete?.isSome, BitVec.ofNat 8 s.pts.protect, flagByte s.pts.locked,
          BitVec.ofNat 8 (s.pts.startPlan.val + 1)]
        ++ directoryWrite s.pts.write := by
  unfold directoryItems
  dsimp only
  rw [bytesOf_byte1, byteFlag_eq, byteFlag_eq]
  simp only [List.append_assoc]
  generalize s.pts.write = w
  obtain _ | ⟨_ | _, k⟩ := w
  · rfl
  · rfl
  · rfl

end Sys2Proof.Machine
end

section
/-! The queries of the cabinet link: what each is answered, and what it leaves. -/

namespace Sys2Proof.Machine

variable {s : State} {tag : Byte}

/-! ## GROUPS, FAULTS, DETECTOR and TABLE_READ -/

theorem takeGroups_of_part {part : Nat} (low : 1 ≤ part) (high : part ≤ 3) :
    takeGroups tag part s = s.reply 0x02 tag .ok (bytesOf (groupEntry s) (partGroups part)) := if_pos ⟨low, high⟩

theorem takeFaults_of_part {part : Nat} (low : 1 ≤ part) (high : part ≤ 3) :
    takeFaults tag part s = s.reply 0x06 tag .ok (faultsItems s part) := if_pos ⟨low, high⟩

theorem takeGroups_out_of_range {part : Nat} (h : part = 0 ∨ 3 < part) :
    takeGroups tag part s = s.reply 0x02 tag .range := if_neg (by omega)

theorem takeFaults_out_of_range {part : Nat} (h : part = 0 ∨ 3 < part) :
    takeFaults tag part s = s.reply 0x06 tag .range := if_neg (by omega)

theorem takeDetector_out_of_range {n : Nat} (h : n = 0 ∨ 32 < n) : takeDetector tag n s = s.reply 0x03 tag .range := by
  simp only [takeDetector, detectorNumbered, numbered_eq_none h]

theorem takeDetector_number (d : DetId) :
    takeDetector tag (number d) s
      = (s.reply 0x03 tag .ok (detectorItems s d)).onDet d fun r => { r with count := 0 } := by
  simp only [takeDetector, detectorNumbered, numbered_number]

theorem takeTableRead_draft (k : TableSectionName) :
    takeTableRead tag .draft k s = s.reply 0x09 tag .ok (draftSectionBytes s.pts.draft k) := rfl

theorem takeTableRead_inForce {x : Tables} (h : s.pts.tables = some x) (k : TableSectionName) :
    takeTableRead tag .inForce k s = s.reply 0x09 tag .ok (tableSectionBytes x k) := by
  simp only [takeTableRead, tableContents, h, Option.isNone_some, Bool.and_false, Bool.false_eq_true, if_false]

theorem takeTableRead_noTables (h : s.pts.tables = none) (k : TableSectionName) :
    takeTableRead tag .inForce k s = s.reply 0x09 tag .ok [] { noTables := true } := by
  simp only [takeTableRead, h, Option.isNone_none, decide_true, Bool.and_true, if_true]

/-! ## PLAN_READ -/

theorem takePlanRead_out_of_range {slot : Nat} (h : 16 < slot) (k : PlanSectionName) :
    takePlanRead tag slot k s = s.reply 0x08 tag .range := by
  simp only [takePlanRead, slotNumbered, dif_neg (show ¬ slot < 17 by omega)]

theorem takePlanRead_slot (n : SlotNo) (k : PlanSectionName) :
    takePlanRead tag n.val k s = (planRead s n).reply 0x08 tag .ok
      (directoryItems (planRead s n) ++ planContents (planRead s n) n k ++ activeItems (planRead s n) n) := by
  simp only [takePlanRead, slotNumbered, dif_pos n.isLt]

theorem planRead_active {n : SlotNo} (h : s.seq.activeSlot = some n) : planRead s n = s := if_pos h

theorem planRead_trial : planRead s 0 = s := by
  simp only [planRead, plan?_zero, ite_self]

theorem planRead_slotOf {m : PlanSlot} (h : s.seq.activeSlot ≠ some (slotOf m)) :
    planRead s (slotOf m) = (readSlot m s).1 := by
  simp only [planRead, if_neg h, plan?_slotOf]

theorem readSlot_kept {m : PlanSlot} (h : (s.slot m).state ≠ .valid ∨ (s.slot m).intact = true) :
    (readSlot m s).1 = s := by
  rw [readSlot]
  by_cases valid : (s.slot m).state = .valid
  · have intact : (s.slot m).intact = true := h.resolve_left (not_not_intro valid)
    simp only [valid, ne_eq, not_true_eq_false, if_false, intact, if_true]
  · simp only [ne_eq, valid, not_false_eq_true, if_true]

theorem readSlot_fails {m : PlanSlot} (valid : (s.slot m).state = .valid) (broken : (s.slot m).intact = false) :
    (readSlot m s).1 = slotFails m s := by
  simp only [readSlot, valid, ne_eq, not_true_eq_false, if_false, broken, Bool.false_eq_true]

theorem activeItems_of_ne {n : SlotNo} (h : s.seq.activeSlot ≠ some n) : activeItems s n = [] := if_neg h

theorem takePlanRead_other {m : PlanSlot} (h : s.seq.activeSlot ≠ some (slotOf m)) (k : PlanSectionName) {t : State}
    (read : planRead s (slotOf m) = t) (same : t.seq = s.seq) :
    takePlanRead tag (number m) k s
      = t.reply 0x08 tag .ok (directoryItems t ++ planContents t (slotOf m) k) := by
  have taken := takePlanRead_slot (s := s) (tag := tag) (slotOf m) k
  rw [read, activeItems_of_ne (same ▸ h), List.append_nil] at taken
  exact taken

theorem planContents_not_valid {m : PlanSlot} (h : s.seq.activeSlot ≠ some (slotOf m))
    (hs : (s.slot m).state ≠ .valid) (k : PlanSectionName) : planContents s (slotOf m) k = [] := by
  simp only [planContents, if_neg h, plan?_slotOf]
  cases hx : (s.slot m).state with
  | valid => exact absurd hx hs
  | empty => rfl
  | writing => rfl
  | invalid => rfl

/-! ## The settlement -/

/-- Each query, settled from its request's own operation. -/
theorem queries_answer (tag : Byte) (s : State) :
    exec (.status tag) s = .next (s.begun.reply 0x01 tag .ok (statusItems s.begun))
    ∧ (∀ part, 1 ≤ part → part ≤ 3 →
      exec (.groups tag part) s = .next (s.begun.reply 0x02 tag .ok (bytesOf (groupEntry s.begun) (partGroups part)))
      ∧ exec (.faults tag part) s = .next (s.begun.reply 0x06 tag .ok (faultsItems s.begun part)))
    ∧ (∀ part, part = 0 ∨ 3 < part →
      exec (.groups tag part) s = .next (s.begun.reply 0x02 tag .range)
      ∧ exec (.faults tag part) s = .next (s.begun.reply 0x06 tag .range))
    ∧ (∀ n, n = 0 ∨ 32 < n → exec (.detector tag n) s = .next (s.begun.reply 0x03 tag .range))
    ∧ (∀ d : DetId,
      exec (.detector tag (number d)) s
        = .next ({ s.begun with
            dti := { s.dti with recs := s.dti.recs.set d { s.det d with count := 0 } } }.reply 0x03 tag .ok
            (detectorItems s.begun d)))
    ∧ exec (.trams tag) s = .next (s.begun.reply 0x04 tag .ok (tramsItems s.begun))
    ∧ exec (.calls tag) s = .next (s.begun.reply 0x05 tag .ok (callsItems s.begun))
    ∧ exec (.stack tag) s = .next (s.begun.reply 0x07 tag .ok (stackItems s.begun))
    ∧ (∀ k, exec (.tableRead tag .draft k) s
        = .next (s.begun.reply 0x09 tag .ok (draftSectionBytes s.pts.draft k)))
    ∧ (∀ k x, s.pts.tables = some x →
      exec (.tableRead tag .inForce k) s = .next (s.begun.reply 0x09 tag .ok (tableSectionBytes x k)))
    ∧ (∀ k, s.pts.tables = none →
      exec (.tableRead tag .inForce k) s = .next (s.begun.reply 0x09 tag .ok [] { noTables := true })) := by
  refine ⟨rfl, fun part low high => ⟨?_, ?_⟩, fun part h => ⟨?_, ?_⟩, fun n h => ?_, fun d => ?_, rfl, rfl, rfl,
    fun k => ?_, fun k x h => ?_, fun k h => ?_⟩
  · exact congrArg Host.Outcome.next (takeGroups_of_part low high)
  · exact congrArg Host.Outcome.next (takeFaults_of_part low high)
  · exact congrArg Host.Outcome.next (takeGroups_out_of_range h)
  · exact congrArg Host.Outcome.next (takeFaults_out_of_range h)
  · exact congrArg Host.Outcome.next (takeDetector_out_of_range h)
  · refine congrArg Host.Outcome.next ((takeDetector_number d).trans ?_)
    generalize detectorItems s.begun d = items
    rfl
  · exact congrArg Host.Outcome.next (takeTableRead_draft k)
  · exact congrArg Host.Outcome.next (takeTableRead_inForce (s := s.begun) h k)
  · exact congrArg Host.Outcome.next (takeTableRead_noTables (s := s.begun) h k)

theorem planRead_answers (tag : Byte) (k : PlanSectionName) (s : State) :
    (∀ slot, 16 < slot → exec (.planRead tag slot k) s = .next (s.begun.reply 0x08 tag .range))
    ∧ (∀ n : SlotNo, (s.seq.activeSlot = some n ∨ n = 0) →
      exec (.planRead tag n.val k) s
        = .next (s.begun.reply 0x08 tag .ok
            (directoryItems s.begun ++ planContents s.begun n k ++ activeItems s.begun n)))
    ∧ (∀ m : PlanSlot, s.seq.activeSlot ≠ some (slotOf m) →
      ((s.slot m).state ≠ .valid ∨ (s.slot m).intact = true →
        exec (.planRead tag (number m) k) s
          = .next (s.begun.reply 0x08 tag .ok (directoryItems s.begun ++ planContents s.begun (slotOf m) k)))
      ∧ ((s.slot m).state = .valid → (s.slot m).intact = false →
        ∃ t, t = { s.begun with
            pts := { s.pts with slots := s.pts.slots.set m { s.slot m with state := .invalid } } }
          ∧ planContents t (slotOf m) k = []
          ∧ exec (.planRead tag (number m) k) s = .next (t.reply 0x08 tag .ok (directoryItems t)))) := by
  refine ⟨fun slot h => congrArg Host.Outcome.next (takePlanRead_out_of_range h k), fun n h => ?_, fun m other => ⟨?_, ?_⟩⟩
  · have read : planRead s.begun n = s.begun := by
      obtain active | rfl := h
      · exact planRead_active active
      · exact planRead_trial
    have taken := takePlanRead_slot (s := s.begun) (tag := tag) n k
    rw [read] at taken
    exact congrArg Host.Outcome.next taken
  · intro kept
    have read : planRead s.begun (slotOf m) = s.begun :=
      (planRead_slotOf (s := s.begun) other).trans (readSlot_kept (s := s.begun) kept)
    exact congrArg Host.Outcome.next (takePlanRead_other (s := s.begun) other k read rfl)
  · intro valid broken
    have read : planRead s.begun (slotOf m) = slotFails m s.begun :=
      (planRead_slotOf (s := s.begun) other).trans (readSlot_fails (s := s.begun) valid broken)
    have found : (slotFails m s.begun).slot m = { s.begun.slot m with state := .invalid } := State.slot_onSlot_self s.begun m _
    have empty : planContents (slotFails m s.begun) (slotOf m) k = [] :=
      planContents_not_valid (s := slotFails m s.begun) other (by rw [found]; nofun) k
    have taken := takePlanRead_other (s := s.begun) (tag := tag) other k read rfl
    rw [empty, List.append_nil] at taken
    exact ⟨slotFails m s.begun, rfl, empty, congrArg Host.Outcome.next taken⟩

/-- Settles O26: what each query is answered, PLAN_READ by the slot it names, and the items by the byte forms of their
entries. -/
theorem queriesAnswerFromTheState : Obligations.QueriesAnswerFromTheState := by
  refine ⟨queries_answer, fun tag k s => ?_⟩
  obtain ⟨range, inPlace, other⟩ := planRead_answers tag k s
  refine ⟨range, inPlace, other, ?_⟩
  intro s b two flag set at' code ref inPart
  have bytes4 (x : JTime) : byte4 x = at' x := byte4_eq x
  have bytes3 (x : GroupSet) : byteSet x = set x := byteSet_eq x
  have refs (q : Option ReqRef) : bytesRef q = ref q := by
    obtain _ | ⟨a, n⟩ | id := q
    · rfl
    · rfl
    · rfl
  refine ⟨fun part low high => ⟨?_, ?_⟩, fun d => ?_, ?_, ?_, ?_, ?_⟩
  · rw [partGroups_eq low high]
    exact congrArg List.flatten (List.map_congr_left fun g _ => groupEntry_eq s g)
  · rw [faultsItems_eq, partGroups_eq low high]
    refine congr (congrArg HAppend.hAppend ?_)
      (congrArg List.flatten (List.map_congr_left fun g _ => (monitorEntry_eq s g).trans (by rw [bytes4]; rfl)))
    cases s.cmon.first with
    | none => rfl
    | some f => rw [bytesFirst_some, bytes3, bytes4]; rfl
  · intro r c
    rw [detectorItems_eq]
    have ring : bytesOf ringItems (s.det d).ring = (r.ring.map fun e => [flag !e.occupied] ++ at' e.time).flatten :=
      congrArg List.flatten (List.map_congr_left fun e _ => congrArg ([flag !e.occupied] ++ ·) (bytes4 e.time))
    rw [ring]
    cases h : s.plan? with
    | none => rw [detectorSettings_none h]; rfl
    | some p => rw [detectorSettings_some h, bytesDetector_eq, bytes3]; rfl
  · rw [tramsItems, refs]
    refine congrArg (· ++ ref s.ruling) (congrArg List.flatten (List.map_congr_left fun a _ => ?_))
    rw [approachEntry_eq]
    refine congrArg (_ ++ ·) (congrArg List.flatten (List.map_congr_left fun r _ => ?_))
    rw [tramEntry_eq, bytes4]
    rfl
  · refine ⟨callsInOrder s.pri.calls, inOrderOf_perm Call.id _, inOrderOf_sorted Call.id _, ?_⟩
    rw [callsItems, refs]
    refine congrArg (· ++ ref s.ruling) (congrArg (_ ++ ·)
      (congrArg List.flatten (List.map_congr_left fun c _ => callEntry_eq c)))
  · refine ⟨fun g => heldIds (s.holders g), fun g => ⟨inOrderOf_perm id _, inOrderOf_sorted id _⟩, ?_⟩
    rw [stackItems_eq, refs]
    refine congrArg₂ HAppend.hAppend (congrArg₂ HAppend.hAppend (congrArg (· ++ ref s.pri.own)
      (congrArg₂ HAppend.hAppend (congrArg₂ HAppend.hAppend rfl ?resume) ?standing)) ?caps) ?held
    case resume =>
      refine congrArg List.flatten (List.map_congr_left fun r _ => ?_)
      rw [resumeEntry_eq, refs]
      rfl
    case standing =>
      cases s.pri.standing with
      | none => rfl
      | some p => rw [bytesStanding_some, refs]; rfl
    case caps =>
      refine congrArg List.flatten (List.map_map.trans (List.map_congr_left fun a _ => ?_))
      rw [Function.comp_apply]
      cases s.cap a with
      | absent => rfl
      | armed => rfl
      | loaded n => rfl
    case held =>
      refine congrArg List.flatten (List.map_congr_left fun g _ => ?_)
      rw [bytesHolders_eq]
      rfl
  · rw [directoryItems_eq]
    refine congrArg₂ HAppend.hAppend rfl ?_
    obtain _ | ⟨_ | _, k⟩ := s.pts.write
    · rfl
    · rfl
    · rfl

end Sys2Proof.Machine
end
